-- ==== Sys2Proof/Word.lean ====
section
/-! DEFINITION. The machine's words and the one finite-map type every table, register file and memory of the model is
kept in: a list of (key, value) pairs with strictly rising keys. -/

namespace Sys2Proof

/-- A general register of a Dreka context, a 64-bit CSR, a timebase value. -/
abbrev Word := BitVec 64
/-- A byte of memory or of a frame. -/
abbrev Byte := BitVec 8
/-- A byte string: a frame, a digest, a key. -/
abbrev Bytes := List Byte

/-- Sparse data by key, in one canonical form: keys strictly rising, each key once. -/
abbrev SMap (α : Type) := List (Nat × α)

/-- The value listed for a key. -/
def SMap.find {α : Type} : SMap α → Nat → Option α
  | [], _ => none
  | (a, x) :: t, k => if a = k then some x else SMap.find t k

/-- The value listed for a key, or the table's default. -/
def SMap.get {α : Type} (m : SMap α) (k : Nat) (d : α) : α :=
  match SMap.find m k with
  | some x => x
  | none => d

/-- List a value for a key, in its place. -/
def SMap.ins {α : Type} : SMap α → Nat → α → SMap α
  | [], k, v => [(k, v)]
  | (a, x) :: t, k, v =>
    if k < a then (k, v) :: (a, x) :: t
    else if k = a then (k, v) :: t
    else (a, x) :: SMap.ins t k v

/-- List nothing for a key. -/
def SMap.del {α : Type} : SMap α → Nat → SMap α
  | [], _ => []
  | (a, x) :: t, k => if a = k then SMap.del t k else (a, x) :: SMap.del t k

/-- Set a key's value; a value equal to the table's default is not listed. -/
def SMap.set {α : Type} [DecidableEq α] (m : SMap α) (k : Nat) (v d : α) : SMap α :=
  if v = d then SMap.del m k else SMap.ins m k v

/-- Every listed key is above `b`, and the keys rise strictly. -/
def SMap.above {α : Type} (b : Nat) : SMap α → Bool
  | [] => true
  | (a, _) :: t => decide (b < a) && SMap.above a t

/-- The keys rise strictly. -/
def SMap.sorted {α : Type} : SMap α → Bool
  | [] => true
  | (a, _) :: t => SMap.above a t

/-- Keep the entries whose key passes a test. -/
def SMap.keep {α : Type} (m : SMap α) (p : Nat → Bool) : SMap α :=
  m.filter fun e => p e.1

/-- Bits `hi` to `lo` of a number. -/
def bits (v hi lo : Nat) : Nat := (v >>> lo) % 2 ^ (hi + 1 - lo)

/-- One bit of a number. -/
def bitN (v i : Nat) : Bool := v.testBit i

/-- A Bool as 0 or 1. -/
def b2n (b : Bool) : Nat := if b then 1 else 0

/-- Bits `hi` to `lo` of a word, as a number. -/
def fld (v : Word) (hi lo : Nat) : Nat := bits v.toNat hi lo

/-- The word with ones in bits `hi` to `lo`. -/
def fmask (hi lo : Nat) : Word := BitVec.ofNat 64 ((2 ^ (hi + 1 - lo) - 1) <<< lo)

/-- A word with bits `hi` to `lo` replaced by the low bits of `x`. -/
def setFld (v : Word) (hi lo x : Nat) : Word :=
  (v &&& ~~~ fmask hi lo) ||| (BitVec.ofNat 64 (x <<< lo) &&& fmask hi lo)

/-- The little-endian number spelt by bytes. -/
def leNat : Bytes → Nat
  | [] => 0
  | b :: t => b.toNat + 256 * leNat t

/-- The low `n` bytes of a number, least significant first. -/
def leBytes : Nat → Nat → Bytes
  | 0, _ => []
  | n + 1, v => BitVec.ofNat 8 v :: leBytes n (v / 256)

/-- The big-endian (network order) number spelt by bytes. -/
def beNat (b : Bytes) : Nat := leNat b.reverse

/-- The low `n` bytes of a number, most significant first. -/
def beBytes (n v : Nat) : Bytes := (leBytes n v).reverse

/-- Bytes `off` to `off + n - 1` of a byte string; bytes past its end read as 0. -/
def slice (b : Bytes) (off n : Nat) : Bytes :=
  let t := (b.drop off).take n
  t ++ List.replicate (n - t.length) 0

/-- A byte string with the bytes from `off` overwritten. -/
def patch (b : Bytes) (off : Nat) (x : Bytes) : Bytes :=
  b.take off ++ x ++ b.drop (off + x.length)

/-- The little-endian number at an offset of a byte string. -/
def leAt (b : Bytes) (off n : Nat) : Nat := leNat (slice b off n)

/-- The network-order number at an offset of a byte string. -/
def beAt (b : Bytes) (off n : Nat) : Nat := beNat (slice b off n)

/-- The signed value of the low `w` bits of a number. -/
def sgn (w v : Nat) : Int :=
  let x := v % 2 ^ w
  if 2 * x < 2 ^ w then x else (x : Int) - 2 ^ w

/-- A signed value as a `w`-bit number. -/
def unsgn (w : Nat) (i : Int) : Nat := (i % (2 ^ w : Nat)).toNat

/-- Replace the element at an index. -/
def setAt {α : Type} : List α → Nat → α → List α
  | [], _, _ => []
  | _ :: t, 0, v => v :: t
  | a :: t, n + 1, v => a :: setAt t n v

/-- The element at an index, or a default. -/
def getAt {α : Type} : List α → Nat → α → α
  | [], _, d => d
  | a :: _, 0, _ => a
  | _ :: t, n + 1, d => getAt t n d

/-- The smallest of a non-empty list of numbers, or the default. -/
def minOf (l : List Nat) (d : Nat) : Nat := l.foldl Nat.min d

/-- Insert a number into a rising list. -/
def sortIns (x : Nat) : List Nat → List Nat
  | [] => [x]
  | a :: t => if x ≤ a then x :: a :: t else a :: sortIns x t

/-- The numbers in rising order. -/
def sortNat (l : List Nat) : List Nat := l.foldr sortIns []

/-- The number of ones in the low `w` bits. -/
def popc : Nat → Nat → Nat
  | 0, _ => 0
  | w + 1, v => v % 2 + popc w (v / 2)

/-- Division rounded up. -/
def ceilDiv (a b : Nat) : Nat := (a + b - 1) / b

end Sys2Proof
end

