-- ==== Sys2Proof/Machine/RegFile.lean ====
section
/-! DEFINITION. What a configuration register is: where it stands, which domain holds it, which reset sets it, and its
fields with the access types of Table SCP-3 (R10, R11). -/

namespace Sys2Proof.Machine

/-- The thirteen power domains of Table PWR-1, in the order of their numbers. -/
inductive Dom where
  | aon | host | core0 | core1 | rada | radb | radc | spatial | telem | wired | memory | cipher | fabric
  deriving DecidableEq, Repr

/-- A domain's number d of PWR_DOMd_CTL. -/
def Dom.num : Dom → Nat
  | .aon => 0 | .host => 1 | .core0 => 2 | .core1 => 3 | .rada => 4 | .radb => 5 | .radc => 6
  | .spatial => 7 | .telem => 8 | .wired => 9 | .memory => 10 | .cipher => 11 | .fabric => 12

/-- The radio domain of unit x (0 A, 1 B, 2 C). -/
def Dom.ofUnit : Nat → Dom
  | 0 => .rada | 1 => .radb | _ => .radc

/-- The core domain of core n (R17). -/
def Dom.ofCore (n : Nat) : Dom := if n < 48 then .core0 else .core1

/-- The thirteen domains. -/
def Dom.all : List Dom :=
  [.aon, .host, .core0, .core1, .rada, .radb, .radc, .spatial, .telem, .wired, .memory, .cipher, .fabric]

/-- The domain with a number. -/
def Dom.ofNum (n : Nat) : Dom := getAt Dom.all n .aon

/-- Register access types (Table SCP-3). -/
inductive Acc where
  | ro | rw | w1c | w1s | wo | rc
  deriving DecidableEq, Repr

/-- A field of a register: bits `hi` to `lo`, its access type and its reset value. Bits of no field are reserved. -/
structure Fld where
  hi : Nat
  lo : Nat
  acc : Acc
  reset : Nat
  deriving DecidableEq, Repr

/-- Which domain a register instance lies in: one domain, the radio unit its first index names, the core its first
index names, or the domain of the CSR block its first index names (PMC_BLKb). -/
inductive DomRule where
  | fixed (d : Dom)
  | unit
  | core
  | block
  deriving DecidableEq, Repr

/-- What sets a register to its reset value: power-on only, power-on and warm reset, or its domain's reset. -/
inductive ResetSrc where
  | powerOn | warm | domain
  deriving DecidableEq, Repr

/-- A register family: instance (i, j, ...) stands at `off + i * stride₀ + j * stride₁ + ...` from BAR0. `tab`, where
not empty, gives the reset value of each instance by its index in dimension `tabDim`. -/
structure Reg where
  name : String
  off : Nat
  dims : List (Nat × Nat)
  width : Nat
  dom : DomRule
  src : ResetSrc
  flds : List Fld
  tab : List Nat
  tabDim : Nat
  deriving DecidableEq, Repr

/-- The offset of an instance within its family. -/
def dimOff : List (Nat × Nat) → List Nat → Nat
  | (_, st) :: ds, i :: is => i * st + dimOff ds is
  | _, _ => 0

/-- The BAR0 offset of a register instance. -/
def Reg.addr (r : Reg) (i : List Nat) : Nat := r.off + dimOff r.dims i

/-- The reset value the fields spell. -/
def fldsReset : List Fld → Word
  | [] => 0
  | f :: t => setFld (fldsReset t) f.hi f.lo f.reset

/-- The reset value of a register instance. -/
def Reg.resetOf (r : Reg) (i : List Nat) : Word :=
  if r.tab.isEmpty then fldsReset r.flds else BitVec.ofNat 64 (getAt r.tab (getAt i r.tabDim 0) 0)

/-- The bits of the fields with an access type. -/
def maskOf (a : Acc) : List Fld → Word
  | [] => 0
  | f :: t => if f.acc = a then fmask f.hi f.lo ||| maskOf a t else maskOf a t

/-- The indices and the byte within the register that an offset from the family's first instance names. -/
def dimMatch : List (Nat × Nat) → Nat → Option (List Nat × Nat)
  | [], rem => some ([], rem)
  | (n, st) :: ds, rem =>
    if rem / st < n then
      match dimMatch ds (rem % st) with
      | some (is, r) => some (rem / st :: is, r)
      | none => none
    else none

/-- The instance of a family at a BAR0 offset, and the byte within it, if the offset lies in one. -/
def Reg.hit (r : Reg) (a : Nat) : Option (List Nat × Nat) :=
  if a < r.off then none
  else
    match dimMatch r.dims (a - r.off) with
    | some (is, b) => if b < r.width / 8 then some (is, b) else none
    | none => none

end Sys2Proof.Machine
end

