-- ==== Sys2Proof/Machine/RegsAir.lean ====
section
/-! DEFINITION. The registers of blocks AIR, WMAC, WB, SPE, FEL, TLM: one constant for each register family and one for each of its fields,
with the offset, width, domain, reset source, access type and reset value of the spec's register tables. -/

namespace Sys2Proof.Machine

def AIR_CTL_DISC_A : Fld := ⟨1, 0, .rw, 1⟩
def AIR_CTL_DISC_B : Fld := ⟨3, 2, .rw, 1⟩
def AIR_CTL_DISC_C : Fld := ⟨5, 4, .rw, 1⟩
/-- spec/07 R161. -/
def AIR_CTL : Reg := ⟨"AIR_CTL", 0x1000000, [], 32, .fixed .memory, .domain, [AIR_CTL_DISC_A, AIR_CTL_DISC_B, AIR_CTL_DISC_C], [], 0⟩

def AIR_AGED_COUNT : Fld := ⟨31, 0, .rc, 0⟩
/-- spec/07. -/
def AIR_AGED : Reg := ⟨"AIR_AGED", 0x1000010, [], 32, .fixed .memory, .domain, [AIR_AGED_COUNT], [], 0⟩

def AIR_WHEEL_LATE_COUNT : Fld := ⟨31, 0, .rc, 0⟩
/-- spec/07. -/
def AIR_WHEEL_LATE : Reg := ⟨"AIR_WHEEL_LATE", 0x1000014, [], 32, .fixed .memory, .domain, [AIR_WHEEL_LATE_COUNT], [], 0⟩

def AIR_VTIME_V : Fld := ⟨63, 0, .ro, 0⟩
/-- spec/07 R161. -/
def AIR_VTIME : Reg := ⟨"AIR_VTIME", 0x1000020, [(3, 0x8)], 64, .fixed .memory, .domain, [AIR_VTIME_V], [], 0⟩

def AIR_U_CFG_PLAN_DEPTH : Fld := ⟨2, 0, .rw, 2⟩
def AIR_U_CFG_CAND_MAX : Fld := ⟨10, 4, .rw, 0x20⟩
def AIR_U_CFG_PLAN_TTL : Fld := ⟨25, 16, .rw, 0x1f4⟩
/-- spec/07 R177. -/
def AIR_U_CFG : Reg := ⟨"AIR_U_CFG", 0x1000100, [(3, 0x40)], 32, .unit, .domain, [AIR_U_CFG_PLAN_DEPTH, AIR_U_CFG_CAND_MAX, AIR_U_CFG_PLAN_TTL], [], 0⟩

def AIR_U_SLOT_BASE_ADDR : Fld := ⟨39, 13, .rw, 0⟩
/-- spec/07 R177. -/
def AIR_U_SLOT_BASE : Reg := ⟨"AIR_U_SLOT_BASE", 0x1000108, [(3, 0x40)], 64, .unit, .domain, [AIR_U_SLOT_BASE_ADDR], [0x4002fe8000, 0x4002ff0000, 0x4002ff8000], 0⟩

def AIR_U_POST_SLOT : Fld := ⟨1, 0, .wo, 0⟩
def AIR_U_POST_SEQ : Fld := ⟨31, 8, .wo, 0⟩
/-- spec/07 R177. -/
def AIR_U_POST : Reg := ⟨"AIR_U_POST", 0x1000110, [(3, 0x40)], 32, .unit, .domain, [AIR_U_POST_SLOT, AIR_U_POST_SEQ], [], 0⟩

def AIR_U_STATUS_PENDING : Fld := ⟨3, 0, .ro, 0⟩
def AIR_U_STATUS_READY : Fld := ⟨7, 4, .ro, 0⟩
def AIR_U_STATUS_IN_USE : Fld := ⟨11, 8, .ro, 0⟩
/-- spec/07 R177. -/
def AIR_U_STATUS : Reg := ⟨"AIR_U_STATUS", 0x1000114, [(3, 0x40)], 32, .unit, .domain, [AIR_U_STATUS_PENDING, AIR_U_STATUS_READY, AIR_U_STATUS_IN_USE], [], 0⟩

def AIR_U_SENT_COUNT : Fld := ⟨31, 0, .rc, 0⟩
/-- spec/07 R177. -/
def AIR_U_SENT : Reg := ⟨"AIR_U_SENT", 0x1000118, [(3, 0x40)], 32, .unit, .domain, [AIR_U_SENT_COUNT], [], 0⟩

def AIR_U_REFUSED_COUNT : Fld := ⟨31, 0, .rc, 0⟩
/-- spec/07 R177. -/
def AIR_U_REFUSED : Reg := ⟨"AIR_U_REFUSED", 0x100011C, [(3, 0x40)], 32, .unit, .domain, [AIR_U_REFUSED_COUNT], [], 0⟩

def AIR_U_EXPIRED_COUNT : Fld := ⟨31, 0, .rc, 0⟩
/-- spec/07 R177. -/
def AIR_U_EXPIRED : Reg := ⟨"AIR_U_EXPIRED", 0x1000120, [(3, 0x40)], 32, .unit, .domain, [AIR_U_EXPIRED_COUNT], [], 0⟩

def AIR_U_ALL_OMITTED_COUNT : Fld := ⟨31, 0, .rc, 0⟩
/-- spec/07 R177. -/
def AIR_U_ALL_OMITTED : Reg := ⟨"AIR_U_ALL_OMITTED", 0x1000124, [(3, 0x40)], 32, .unit, .domain, [AIR_U_ALL_OMITTED_COUNT], [], 0⟩

def AIR_U_USERS_OMITTED_COUNT : Fld := ⟨31, 0, .rc, 0⟩
/-- spec/07 R177. -/
def AIR_U_USERS_OMITTED : Reg := ⟨"AIR_U_USERS_OMITTED", 0x1000128, [(3, 0x40)], 32, .unit, .domain, [AIR_U_USERS_OMITTED_COUNT], [], 0⟩

def AIR_U_MPDU_LEFT_COUNT : Fld := ⟨31, 0, .rc, 0⟩
/-- spec/07 R177. -/
def AIR_U_MPDU_LEFT : Reg := ⟨"AIR_U_MPDU_LEFT", 0x100012C, [(3, 0x40)], 32, .unit, .domain, [AIR_U_MPDU_LEFT_COUNT], [], 0⟩

def AIR_STA_TIDMAP : Fld := ⟨23, 0, .rw, 0⟩
def AIR_STA_PS : Fld := ⟨24, 24, .ro, 0⟩
def AIR_STA_TWT_ONLY : Fld := ⟨25, 25, .rw, 0⟩
def AIR_STA_TWT : Fld := ⟨39, 32, .rw, 0⟩
/-- spec/07 R160. -/
def AIR_STA : Reg := ⟨"AIR_STA", 0x1020000, [(1024, 0x8)], 64, .fixed .memory, .domain, [AIR_STA_TIDMAP, AIR_STA_PS, AIR_STA_TWT_ONLY, AIR_STA_TWT], [], 0⟩

def AIR_TWT0_NEXT : Fld := ⟨63, 0, .rw, 0⟩
/-- spec/07 R174. -/
def AIR_TWT0 : Reg := ⟨"AIR_TWT0", 0x1030000, [(256, 0x20)], 64, .fixed .memory, .domain, [AIR_TWT0_NEXT], [], 0⟩

def AIR_TWT1_INTERVAL : Fld := ⟨31, 0, .rw, 0x10000⟩
def AIR_TWT1_SP : Fld := ⟨55, 32, .rw, 0x400⟩
def AIR_TWT1_UNIT : Fld := ⟨57, 56, .rw, 2⟩
def AIR_TWT1_ENABLE : Fld := ⟨58, 58, .rw, 0⟩
/-- spec/07 R174. -/
def AIR_TWT1 : Reg := ⟨"AIR_TWT1", 0x1030008, [(256, 0x20)], 64, .fixed .memory, .domain, [AIR_TWT1_INTERVAL, AIR_TWT1_SP, AIR_TWT1_UNIT, AIR_TWT1_ENABLE], [], 0⟩

def AIR_TWT2_IN_SP : Fld := ⟨0, 0, .ro, 0⟩
def AIR_TWT2_MISSED : Fld := ⟨63, 32, .rc, 0⟩
/-- spec/07 R174. -/
def AIR_TWT2 : Reg := ⟨"AIR_TWT2", 0x1030010, [(256, 0x20)], 64, .fixed .memory, .domain, [AIR_TWT2_IN_SP, AIR_TWT2_MISSED], [], 0⟩

def AIR_QCFG0_WEIGHT : Fld := ⟨15, 8, .rw, 0x10⟩
def AIR_QCFG0_LIMIT : Fld := ⟨27, 16, .rw, 0x200⟩
def AIR_QCFG0_MAXAGE : Fld := ⟨47, 32, .rw, 0x1f4⟩
/-- spec/07 R157. -/
def AIR_QCFG0 : Reg := ⟨"AIR_QCFG0", 0x1040000, [(8192, 0x20)], 64, .fixed .memory, .domain, [AIR_QCFG0_WEIGHT, AIR_QCFG0_LIMIT, AIR_QCFG0_MAXAGE], [], 0⟩

def AIR_QCFG1_RATE : Fld := ⟨31, 0, .rw, 0x1e848⟩
def AIR_QCFG1_BURST : Fld := ⟨55, 32, .rw, 0x10000⟩
/-- spec/07 R157. -/
def AIR_QCFG1 : Reg := ⟨"AIR_QCFG1", 0x1040008, [(8192, 0x20)], 64, .fixed .memory, .domain, [AIR_QCFG1_RATE, AIR_QCFG1_BURST], [], 0⟩

def AIR_QST0_FRAMES : Fld := ⟨11, 0, .ro, 0⟩
def AIR_QST0_STATE : Fld := ⟨13, 12, .ro, 0⟩
def AIR_QST0_BYTES : Fld := ⟨63, 32, .ro, 0⟩
/-- spec/07 R157. -/
def AIR_QST0 : Reg := ⟨"AIR_QST0", 0x1040010, [(8192, 0x20)], 64, .fixed .memory, .domain, [AIR_QST0_FRAMES, AIR_QST0_STATE, AIR_QST0_BYTES], [], 0⟩

def AIR_QST1_TAG : Fld := ⟨63, 0, .ro, 0⟩
/-- spec/07 R157. -/
def AIR_QST1 : Reg := ⟨"AIR_QST1", 0x1040018, [(8192, 0x20)], 64, .fixed .memory, .domain, [AIR_QST1_TAG], [], 0⟩

def WMAC_CTL_LEASE_LEN : Fld := ⟨9, 0, .rw, 0x40⟩
def WMAC_CTL_HOLD : Fld := ⟨31, 16, .rw, 0x4e20⟩
def WMAC_CTL_REORDER_MAX : Fld := ⟨47, 32, .rw, 0x8000⟩
def WMAC_CTL_RETRY : Fld := ⟨52, 48, .rw, 0xa⟩
/-- spec/08 R199. -/
def WMAC_CTL : Reg := ⟨"WMAC_CTL", 0x1100000, [], 64, .fixed .memory, .domain, [WMAC_CTL_LEASE_LEN, WMAC_CTL_HOLD, WMAC_CTL_REORDER_MAX, WMAC_CTL_RETRY], [], 0⟩

def WMAC_MGMT_CTX : Fld := ⟨8, 0, .rw, 0⟩
/-- spec/08 R199. -/
def WMAC_MGMT : Reg := ⟨"WMAC_MGMT", 0x1100008, [], 32, .fixed .memory, .domain, [WMAC_MGMT_CTX], [], 0⟩

def WMAC_TX_OVERSIZE_COUNT : Fld := ⟨31, 0, .rc, 0⟩
/-- spec/08 R201. -/
def WMAC_TX_OVERSIZE : Reg := ⟨"WMAC_TX_OVERSIZE", 0x1100100, [], 32, .fixed .memory, .domain, [WMAC_TX_OVERSIZE_COUNT], [], 0⟩

def WMAC_TX_REMOVED_COUNT : Fld := ⟨31, 0, .rc, 0⟩
/-- spec/08 R201. -/
def WMAC_TX_REMOVED : Reg := ⟨"WMAC_TX_REMOVED", 0x1100104, [], 32, .fixed .memory, .domain, [WMAC_TX_REMOVED_COUNT], [], 0⟩

def WMAC_TX_RETRY_FAIL_COUNT : Fld := ⟨31, 0, .rc, 0⟩
/-- spec/08 R201. -/
def WMAC_TX_RETRY_FAIL : Reg := ⟨"WMAC_TX_RETRY_FAIL", 0x1100108, [], 32, .fixed .memory, .domain, [WMAC_TX_RETRY_FAIL_COUNT], [], 0⟩

def WMAC_TX_CIPHER_LATE_COUNT : Fld := ⟨31, 0, .rc, 0⟩
/-- spec/08 R201. -/
def WMAC_TX_CIPHER_LATE : Reg := ⟨"WMAC_TX_CIPHER_LATE", 0x110010C, [], 32, .fixed .memory, .domain, [WMAC_TX_CIPHER_LATE_COUNT], [], 0⟩

def WMAC_RX_NO_STA_COUNT : Fld := ⟨31, 0, .rc, 0⟩
/-- spec/08 R201. -/
def WMAC_RX_NO_STA : Reg := ⟨"WMAC_RX_NO_STA", 0x1100110, [], 32, .fixed .memory, .domain, [WMAC_RX_NO_STA_COUNT], [], 0⟩

def WMAC_RX_MIC_FAIL_COUNT : Fld := ⟨31, 0, .rc, 0⟩
/-- spec/08 R201. -/
def WMAC_RX_MIC_FAIL : Reg := ⟨"WMAC_RX_MIC_FAIL", 0x1100114, [], 32, .fixed .memory, .domain, [WMAC_RX_MIC_FAIL_COUNT], [], 0⟩

def WMAC_RX_OLD_KEY_COUNT : Fld := ⟨31, 0, .rc, 0⟩
/-- spec/08 R201. -/
def WMAC_RX_OLD_KEY : Reg := ⟨"WMAC_RX_OLD_KEY", 0x1100118, [], 32, .fixed .memory, .domain, [WMAC_RX_OLD_KEY_COUNT], [], 0⟩

def WMAC_RX_REPLAY_COUNT : Fld := ⟨31, 0, .rc, 0⟩
/-- spec/08 R201. -/
def WMAC_RX_REPLAY : Reg := ⟨"WMAC_RX_REPLAY", 0x110011C, [], 32, .fixed .memory, .domain, [WMAC_RX_REPLAY_COUNT], [], 0⟩

def WMAC_RX_REORDER_TIMEOUT_COUNT : Fld := ⟨31, 0, .rc, 0⟩
/-- spec/08 R201. -/
def WMAC_RX_REORDER_TIMEOUT : Reg := ⟨"WMAC_RX_REORDER_TIMEOUT", 0x1100120, [], 32, .fixed .memory, .domain, [WMAC_RX_REORDER_TIMEOUT_COUNT], [], 0⟩

def WMAC_RX_REORDER_FULL_COUNT : Fld := ⟨31, 0, .rc, 0⟩
/-- spec/08 R201. -/
def WMAC_RX_REORDER_FULL : Reg := ⟨"WMAC_RX_REORDER_FULL", 0x1100124, [], 32, .fixed .memory, .domain, [WMAC_RX_REORDER_FULL_COUNT], [], 0⟩

def WMAC_RX_DUP_COUNT : Fld := ⟨31, 0, .rc, 0⟩
/-- spec/08 R201. -/
def WMAC_RX_DUP : Reg := ⟨"WMAC_RX_DUP", 0x1100128, [], 32, .fixed .memory, .domain, [WMAC_RX_DUP_COUNT], [], 0⟩

def WMAC_RX_NOBUF_MID_COUNT : Fld := ⟨31, 0, .rc, 0⟩
/-- spec/08 R201. -/
def WMAC_RX_NOBUF_MID : Reg := ⟨"WMAC_RX_NOBUF_MID", 0x110012C, [], 32, .fixed .memory, .domain, [WMAC_RX_NOBUF_MID_COUNT], [], 0⟩

def WMAC_RX_NOBUF_COUNT : Fld := ⟨31, 0, .rc, 0⟩
/-- spec/08 R201. -/
def WMAC_RX_NOBUF : Reg := ⟨"WMAC_RX_NOBUF", 0x1100130, [], 32, .fixed .memory, .domain, [WMAC_RX_NOBUF_COUNT], [], 0⟩

def WMAC_LEASE_DEFERRED_COUNT : Fld := ⟨31, 0, .rc, 0⟩
/-- spec/08 R201. -/
def WMAC_LEASE_DEFERRED : Reg := ⟨"WMAC_LEASE_DEFERRED", 0x1100134, [], 32, .fixed .memory, .domain, [WMAC_LEASE_DEFERRED_COUNT], [], 0⟩

def WMAC_LEASE_RECALL_COUNT : Fld := ⟨31, 0, .rc, 0⟩
/-- spec/08 R201. -/
def WMAC_LEASE_RECALL : Reg := ⟨"WMAC_LEASE_RECALL", 0x1100138, [], 32, .fixed .memory, .domain, [WMAC_LEASE_RECALL_COUNT], [], 0⟩

def WMAC_LEASE_TABLE_FULL_COUNT : Fld := ⟨31, 0, .rc, 0⟩
/-- spec/08 R201. -/
def WMAC_LEASE_TABLE_FULL : Reg := ⟨"WMAC_LEASE_TABLE_FULL", 0x110013C, [], 32, .fixed .memory, .domain, [WMAC_LEASE_TABLE_FULL_COUNT], [], 0⟩

def WMAC_TX_KEY_REQUEUE_COUNT : Fld := ⟨31, 0, .rc, 0⟩
/-- spec/08 R201. -/
def WMAC_TX_KEY_REQUEUE : Reg := ⟨"WMAC_TX_KEY_REQUEUE", 0x1100140, [], 32, .fixed .memory, .domain, [WMAC_TX_KEY_REQUEUE_COUNT], [], 0⟩

def WMAC_U_LATE_RESP_COUNT : Fld := ⟨31, 0, .rc, 0⟩
/-- spec/08 R201. -/
def WMAC_U_LATE_RESP : Reg := ⟨"WMAC_U_LATE_RESP", 0x1101010, [(3, 0x100)], 32, .unit, .domain, [WMAC_U_LATE_RESP_COUNT], [], 0⟩

def WMAC_EDCA_AIFSN : Fld := ⟨3, 0, .rw, 0⟩
def WMAC_EDCA_ECWMIN : Fld := ⟨7, 4, .rw, 0⟩
def WMAC_EDCA_ECWMAX : Fld := ⟨11, 8, .rw, 0⟩
def WMAC_EDCA_TXOP : Fld := ⟨19, 12, .rw, 0⟩
/-- spec/08 R185. -/
def WMAC_EDCA : Reg := ⟨"WMAC_EDCA", 0x1101000, [(3, 0x100), (4, 0x4)], 32, .unit, .domain, [WMAC_EDCA_AIFSN, WMAC_EDCA_ECWMIN, WMAC_EDCA_ECWMAX, WMAC_EDCA_TXOP], [0xa47, 0x643, 0x5e431, 0x2f321], 1⟩

def WMAC_CTX_WORD : Fld := ⟨63, 0, .ro, 0⟩
/-- spec/08 R182. -/
def WMAC_CTX : Reg := ⟨"WMAC_CTX", 0x1180000, [(1024, 0x100), (32, 0x8)], 64, .fixed .memory, .domain, [WMAC_CTX_WORD], [], 0⟩

def WMAC_LEASE0_HANDLE : Fld := ⟨15, 0, .ro, 0⟩
def WMAC_LEASE0_TID : Fld := ⟨18, 16, .ro, 0⟩
def WMAC_LEASE0_VALID : Fld := ⟨19, 19, .ro, 0⟩
def WMAC_LEASE0_RECALLED : Fld := ⟨20, 20, .ro, 0⟩
def WMAC_LEASE0_SN_START : Fld := ⟨35, 24, .ro, 0⟩
def WMAC_LEASE0_LEN : Fld := ⟨44, 36, .ro, 0⟩
def WMAC_LEASE0_USED : Fld := ⟨54, 45, .ro, 0⟩
/-- spec/08 R200. -/
def WMAC_LEASE0 : Reg := ⟨"WMAC_LEASE0", 0x1140000, [(8192, 0x10)], 64, .fixed .memory, .domain, [WMAC_LEASE0_HANDLE, WMAC_LEASE0_TID, WMAC_LEASE0_VALID, WMAC_LEASE0_RECALLED, WMAC_LEASE0_SN_START, WMAC_LEASE0_LEN, WMAC_LEASE0_USED], [], 0⟩

def WMAC_LEASE1_PN_START : Fld := ⟨47, 0, .ro, 0⟩
/-- spec/08 R200. -/
def WMAC_LEASE1 : Reg := ⟨"WMAC_LEASE1", 0x1140008, [(8192, 0x10)], 64, .fixed .memory, .domain, [WMAC_LEASE1_PN_START], [], 0⟩

def WB_CTL_RX_EN : Fld := ⟨0, 0, .rw, 0⟩
def WB_CTL_TX_EN : Fld := ⟨1, 1, .rw, 0⟩
def WB_CTL_TX_LEAVE : Fld := ⟨2, 2, .ro, 0⟩
def WB_CTL_STANDING_CHAINS : Fld := ⟨12, 8, .rw, 8⟩
/-- spec/09 R218. -/
def WB_CTL : Reg := ⟨"WB_CTL", 0x1200000, [(3, 0x100000)], 32, .unit, .domain, [WB_CTL_RX_EN, WB_CTL_TX_EN, WB_CTL_TX_LEAVE, WB_CTL_STANDING_CHAINS], [], 0⟩

def WB_DET_PD_LVL : Fld := ⟨7, 0, .rw, 0xae⟩
def WB_DET_ED_LVL : Fld := ⟨15, 8, .rw, 0xc2⟩
def WB_DET_JUMP_DB : Fld := ⟨19, 16, .rw, 8⟩
def WB_DET_RESTART_EN : Fld := ⟨20, 20, .rw, 1⟩
def WB_DET_ITER : Fld := ⟨27, 24, .rw, 8⟩
/-- spec/09 R212. -/
def WB_DET : Reg := ⟨"WB_DET", 0x1200004, [(3, 0x100000)], 32, .unit, .domain, [WB_DET_PD_LVL, WB_DET_ED_LVL, WB_DET_JUMP_DB, WB_DET_RESTART_EN, WB_DET_ITER], [], 0⟩

def WB_TXRAMP_PA_LEAD : Fld := ⟨7, 0, .rw, 0x28⟩
def WB_TXRAMP_PROFILE : Fld := ⟨10, 8, .rw, 1⟩
def WB_TXRAMP_PA_LAG : Fld := ⟨23, 16, .rw, 4⟩
def WB_TXRAMP_TXDLY : Fld := ⟨31, 24, .rw, 0x30⟩
/-- spec/09 R217. -/
def WB_TXRAMP : Reg := ⟨"WB_TXRAMP", 0x1200008, [(3, 0x100000)], 32, .unit, .domain, [WB_TXRAMP_PA_LEAD, WB_TXRAMP_PROFILE, WB_TXRAMP_PA_LAG, WB_TXRAMP_TXDLY], [], 0⟩

def WB_SND_POST_ADDR : Fld := ⟨39, 6, .wo, 0⟩
/-- spec/09 R220. -/
def WB_SND_POST : Reg := ⟨"WB_SND_POST", 0x1200010, [(3, 0x100000)], 64, .unit, .domain, [WB_SND_POST_ADDR], [], 0⟩

def WB_SND_STATUS_PENDING : Fld := ⟨2, 0, .ro, 0⟩
/-- spec/09 R220. -/
def WB_SND_STATUS : Reg := ⟨"WB_SND_STATUS", 0x1200018, [(3, 0x100000)], 32, .unit, .domain, [WB_SND_STATUS_PENDING], [], 0⟩

def WB_RX_DETECT_COUNT : Fld := ⟨31, 0, .rc, 0⟩
/-- spec/09 R227. -/
def WB_RX_DETECT : Reg := ⟨"WB_RX_DETECT", 0x1200100, [(3, 0x100000)], 32, .unit, .domain, [WB_RX_DETECT_COUNT], [], 0⟩

def WB_RX_LSIG_FAIL_COUNT : Fld := ⟨31, 0, .rc, 0⟩
/-- spec/09 R227. -/
def WB_RX_LSIG_FAIL : Reg := ⟨"WB_RX_LSIG_FAIL", 0x1200104, [(3, 0x100000)], 32, .unit, .domain, [WB_RX_LSIG_FAIL_COUNT], [], 0⟩

def WB_RX_SIG_FAIL_COUNT : Fld := ⟨31, 0, .rc, 0⟩
/-- spec/09 R227. -/
def WB_RX_SIG_FAIL : Reg := ⟨"WB_RX_SIG_FAIL", 0x1200108, [(3, 0x100000)], 32, .unit, .domain, [WB_RX_SIG_FAIL_COUNT], [], 0⟩

def WB_RX_RESTART_COUNT : Fld := ⟨31, 0, .rc, 0⟩
/-- spec/09 R227. -/
def WB_RX_RESTART : Reg := ⟨"WB_RX_RESTART", 0x120010C, [(3, 0x100000)], 32, .unit, .domain, [WB_RX_RESTART_COUNT], [], 0⟩

def WB_RX_BLANKED_COUNT : Fld := ⟨31, 0, .rc, 0⟩
/-- spec/09 R227. -/
def WB_RX_BLANKED : Reg := ⟨"WB_RX_BLANKED", 0x1200110, [(3, 0x100000)], 32, .unit, .domain, [WB_RX_BLANKED_COUNT], [], 0⟩

def WB_RX_FCS_BAD_COUNT : Fld := ⟨31, 0, .rc, 0⟩
/-- spec/09 R227. -/
def WB_RX_FCS_BAD : Reg := ⟨"WB_RX_FCS_BAD", 0x1200114, [(3, 0x100000)], 32, .unit, .domain, [WB_RX_FCS_BAD_COUNT], [], 0⟩

def WB_RX_OVERRUN_COUNT : Fld := ⟨31, 0, .rc, 0⟩
/-- spec/09 R227. -/
def WB_RX_OVERRUN : Reg := ⟨"WB_RX_OVERRUN", 0x1200118, [(3, 0x100000)], 32, .unit, .domain, [WB_RX_OVERRUN_COUNT], [], 0⟩

def WB_TX_PPDU_COUNT : Fld := ⟨31, 0, .rc, 0⟩
/-- spec/09 R227. -/
def WB_TX_PPDU : Reg := ⟨"WB_TX_PPDU", 0x120011C, [(3, 0x100000)], 32, .unit, .domain, [WB_TX_PPDU_COUNT], [], 0⟩

def WB_TX_UNDERRUN_COUNT : Fld := ⟨31, 0, .rc, 0⟩
/-- spec/09 R227. -/
def WB_TX_UNDERRUN : Reg := ⟨"WB_TX_UNDERRUN", 0x1200120, [(3, 0x100000)], 32, .unit, .domain, [WB_TX_UNDERRUN_COUNT], [], 0⟩

def WB_LINK_ABORT_COUNT : Fld := ⟨31, 0, .rc, 0⟩
/-- spec/09 R227. -/
def WB_LINK_ABORT : Reg := ⟨"WB_LINK_ABORT", 0x1200124, [(3, 0x100000)], 32, .unit, .domain, [WB_LINK_ABORT_COUNT], [], 0⟩

def WB_SND_DONE_COUNT : Fld := ⟨31, 0, .rc, 0⟩
/-- spec/09 R227. -/
def WB_SND_DONE : Reg := ⟨"WB_SND_DONE", 0x1200128, [(3, 0x100000)], 32, .unit, .domain, [WB_SND_DONE_COUNT], [], 0⟩

def WB_SND_EXPIRED_COUNT : Fld := ⟨31, 0, .rc, 0⟩
/-- spec/09 R227. -/
def WB_SND_EXPIRED : Reg := ⟨"WB_SND_EXPIRED", 0x120012C, [(3, 0x100000)], 32, .unit, .domain, [WB_SND_EXPIRED_COUNT], [], 0⟩

def WB_FB_MISSING_COUNT : Fld := ⟨31, 0, .rc, 0⟩
/-- spec/09 R227. -/
def WB_FB_MISSING : Reg := ⟨"WB_FB_MISSING", 0x1200130, [(3, 0x100000)], 32, .unit, .domain, [WB_FB_MISSING_COUNT], [], 0⟩

def SPE_SUBMIT_ADDR : Fld := ⟨39, 6, .wo, 0⟩
/-- spec/09 R223. -/
def SPE_SUBMIT : Reg := ⟨"SPE_SUBMIT", 0x1500000, [], 64, .fixed .spatial, .domain, [SPE_SUBMIT_ADDR], [], 0⟩

def SPE_STATUS_QUEUED : Fld := ⟨6, 0, .ro, 0⟩
def SPE_STATUS_RUNNING : Fld := ⟨8, 7, .ro, 0⟩
/-- spec/09 R223. -/
def SPE_STATUS : Reg := ⟨"SPE_STATUS", 0x1500008, [], 32, .fixed .spatial, .domain, [SPE_STATUS_QUEUED, SPE_STATUS_RUNNING], [], 0⟩

def SPE_CFG_PREC_LIFE : Fld := ⟨7, 0, .rw, 0x32⟩
def SPE_CFG_FB_MAX_AGE : Fld := ⟨15, 8, .rw, 0x14⟩
/-- spec/09 R226. -/
def SPE_CFG : Reg := ⟨"SPE_CFG", 0x1500010, [], 32, .fixed .spatial, .domain, [SPE_CFG_PREC_LIFE, SPE_CFG_FB_MAX_AGE], [], 0⟩

def SPE_FB_BASE_BASE : Fld := ⟨39, 30, .rw, 6⟩
/-- spec/09 R226. -/
def SPE_FB_BASE : Reg := ⟨"SPE_FB_BASE", 0x1500018, [], 64, .fixed .spatial, .domain, [SPE_FB_BASE_BASE], [], 0⟩

def FEL_LINK_CTL_ENABLE : Fld := ⟨0, 0, .rw, 0⟩
def FEL_LINK_CTL_SYSREF_USE : Fld := ⟨2, 1, .rw, 0⟩
/-- spec/09 R210. -/
def FEL_LINK_CTL : Reg := ⟨"FEL_LINK_CTL", 0x1600000, [(3, 0x40)], 32, .fixed .aon, .powerOn, [FEL_LINK_CTL_ENABLE, FEL_LINK_CTL_SYSREF_USE], [], 0⟩

def FEL_LINK_STATUS_STATE : Fld := ⟨1, 0, .ro, 0⟩
def FEL_LINK_STATUS_LOSS_SEEN : Fld := ⟨2, 2, .w1c, 0⟩
def FEL_LINK_STATUS_DRIFT_SEEN : Fld := ⟨3, 3, .w1c, 0⟩
/-- spec/09 R210. -/
def FEL_LINK_STATUS : Reg := ⟨"FEL_LINK_STATUS", 0x1600004, [(3, 0x40)], 32, .unit, .domain, [FEL_LINK_STATUS_STATE, FEL_LINK_STATUS_LOSS_SEEN, FEL_LINK_STATUS_DRIFT_SEEN], [], 0⟩

def FEL_TXLANE_UNIT : Fld := ⟨1, 0, .rw, 0⟩
def FEL_TXLANE_LOGICAL : Fld := ⟨4, 2, .rw, 0⟩
def FEL_TXLANE_INVERT : Fld := ⟨5, 5, .rw, 0⟩
/-- spec/09 R209. -/
def FEL_TXLANE : Reg := ⟨"FEL_TXLANE", 0x1601000, [(16, 0x4)], 32, .fixed .aon, .powerOn, [FEL_TXLANE_UNIT, FEL_TXLANE_LOGICAL, FEL_TXLANE_INVERT], [0x2, 0x6, 0xa, 0xe, 0x12, 0x16, 0x1a, 0x1e, 0x1, 0x5, 0x9, 0xd, 0x0, 0x4, 0x3, 0x3], 0⟩

def FEL_RXLANE_UNIT : Fld := ⟨1, 0, .rw, 0⟩
def FEL_RXLANE_LOGICAL : Fld := ⟨4, 2, .rw, 0⟩
def FEL_RXLANE_INVERT : Fld := ⟨5, 5, .rw, 0⟩
/-- spec/09 R209. -/
def FEL_RXLANE : Reg := ⟨"FEL_RXLANE", 0x1601080, [(16, 0x4)], 32, .fixed .aon, .powerOn, [FEL_RXLANE_UNIT, FEL_RXLANE_LOGICAL, FEL_RXLANE_INVERT], [0x2, 0x6, 0xa, 0xe, 0x12, 0x16, 0x1a, 0x1e, 0x1, 0x5, 0x9, 0xd, 0x0, 0x4, 0x3, 0x3], 0⟩

def TLM_CTL_ENABLE : Fld := ⟨0, 0, .rw, 0⟩
def TLM_CTL_SFD_ERR : Fld := ⟨3, 2, .rw, 1⟩
def TLM_CTL_REARM_DB : Fld := ⟨7, 4, .rw, 6⟩
def TLM_CTL_PRE_DET : Fld := ⟨11, 8, .rw, 0xc⟩
def TLM_CTL_MAX_TX : Fld := ⟨15, 12, .rw, 4⟩
/-- spec/10 R244. -/
def TLM_CTL : Reg := ⟨"TLM_CTL", 0x1800000, [], 32, .fixed .telem, .domain, [TLM_CTL_ENABLE, TLM_CTL_SFD_ERR, TLM_CTL_REARM_DB, TLM_CTL_PRE_DET, TLM_CTL_MAX_TX], [], 0⟩

def TLM_PROF_RATE : Fld := ⟨3, 0, .rw, 3⟩
def TLM_PROF_FEC : Fld := ⟨5, 4, .rw, 0⟩
def TLM_PROF_ILV : Fld := ⟨6, 6, .rw, 0⟩
def TLM_PROF_SFD_SEL : Fld := ⟨7, 7, .rw, 0⟩
def TLM_PROF_FREQ_MODE : Fld := ⟨8, 8, .rw, 0⟩
def TLM_PROF_RAMP : Fld := ⟨10, 9, .rw, 0⟩
def TLM_PROF_PRE_LEN : Fld := ⟨19, 12, .rw, 8⟩
def TLM_PROF_EN : Fld := ⟨31, 31, .rw, 0⟩
/-- spec/10 R230. -/
def TLM_PROF : Reg := ⟨"TLM_PROF", 0x1800010, [(4, 0x4)], 32, .fixed .telem, .domain, [TLM_PROF_RATE, TLM_PROF_FEC, TLM_PROF_ILV, TLM_PROF_SFD_SEL, TLM_PROF_FREQ_MODE, TLM_PROF_RAMP, TLM_PROF_PRE_LEN, TLM_PROF_EN], [0x80008003, 0x8003, 0x8003, 0x8003], 0⟩

def TLM_TIQ_RATE : Fld := ⟨2, 0, .rw, 2⟩
def TLM_TIQ_SETTLE : Fld := ⟨15, 8, .rw, 0x64⟩
/-- spec/10 R237. -/
def TLM_TIQ : Reg := ⟨"TLM_TIQ", 0x1800020, [], 32, .fixed .telem, .domain, [TLM_TIQ_RATE, TLM_TIQ_SETTLE], [], 0⟩

def TLM_RAMP_AMP : Fld := ⟨63, 0, .rw, 0xffe0c0a080604020⟩
/-- spec/10 R238. -/
def TLM_RAMP : Reg := ⟨"TLM_RAMP", 0x1800040, [(4, 0x10)], 64, .fixed .telem, .domain, [TLM_RAMP_AMP], [], 0⟩

def TLM_RAMP_T_STEP : Fld := ⟨7, 0, .rw, 4⟩
def TLM_RAMP_T_LEAD : Fld := ⟨15, 8, .rw, 0x10⟩
def TLM_RAMP_T_LAG : Fld := ⟨23, 16, .rw, 8⟩
/-- spec/10 R238. -/
def TLM_RAMP_T : Reg := ⟨"TLM_RAMP_T", 0x1800048, [(4, 0x10)], 32, .fixed .telem, .domain, [TLM_RAMP_T_STEP, TLM_RAMP_T_LEAD, TLM_RAMP_T_LAG], [], 0⟩

def TLM_SLOT_TS_LEN : Fld := ⟨15, 0, .rw, 0x2710⟩
def TLM_SLOT_TX_OFFSET : Fld := ⟨31, 16, .rw, 0x848⟩
def TLM_SLOT_RX_WAIT : Fld := ⟨47, 32, .rw, 0x898⟩
def TLM_SLOT_ACK_WAIT : Fld := ⟨63, 48, .rw, 0x190⟩
/-- spec/10 R239. -/
def TLM_SLOT : Reg := ⟨"TLM_SLOT", 0x1800100, [], 64, .fixed .telem, .domain, [TLM_SLOT_TS_LEN, TLM_SLOT_TX_OFFSET, TLM_SLOT_RX_WAIT, TLM_SLOT_ACK_WAIT], [], 0⟩

def TLM_EPOCH_NS : Fld := ⟨63, 0, .rw, 0⟩
/-- spec/10 R239. -/
def TLM_EPOCH : Reg := ⟨"TLM_EPOCH", 0x1800108, [], 64, .fixed .telem, .domain, [TLM_EPOCH_NS], [], 0⟩

def TLM_ASN_ASN : Fld := ⟨39, 0, .ro, 0⟩
/-- spec/10 R239. -/
def TLM_ASN : Reg := ⟨"TLM_ASN", 0x1800110, [], 64, .fixed .telem, .domain, [TLM_ASN_ASN], [], 0⟩

def TLM_CHAN_F0 : Fld := ⟨31, 0, .rw, 0x33723e08⟩
def TLM_CHAN_SPACING : Fld := ⟨47, 32, .rw, 0xc8⟩
def TLM_CHAN_HOP_LEN : Fld := ⟨55, 48, .rw, 1⟩
/-- spec/10 R240. -/
def TLM_CHAN : Reg := ⟨"TLM_CHAN", 0x1800118, [], 64, .fixed .telem, .domain, [TLM_CHAN_F0, TLM_CHAN_SPACING, TLM_CHAN_HOP_LEN], [], 0⟩

def TLM_DRIFT_CFG_MARGIN : Fld := ⟨7, 0, .rw, 0xa⟩
def TLM_DRIFT_CFG_WIDE_MAX : Fld := ⟨23, 8, .rw, 0x1770⟩
def TLM_DRIFT_CFG_REFIND_SF : Fld := ⟨31, 24, .rw, 0x10⟩
/-- spec/10 R242. -/
def TLM_DRIFT_CFG : Reg := ⟨"TLM_DRIFT_CFG", 0x1800120, [], 32, .fixed .telem, .domain, [TLM_DRIFT_CFG_MARGIN, TLM_DRIFT_CFG_WIDE_MAX, TLM_DRIFT_CFG_REFIND_SF], [], 0⟩

def TLM_TXFC_NEXT : Fld := ⟨31, 0, .rw, 0⟩
/-- spec/10 R246. -/
def TLM_TXFC : Reg := ⟨"TLM_TXFC", 0x1800128, [], 32, .fixed .telem, .domain, [TLM_TXFC_NEXT], [], 0⟩

def TLM_TXBASE_ADDR : Fld := ⟨39, 6, .rw, 0⟩
/-- spec/10 R244. -/
def TLM_TXBASE : Reg := ⟨"TLM_TXBASE", 0x1800130, [], 64, .fixed .telem, .domain, [TLM_TXBASE_ADDR], [], 0⟩

def TLM_RXBASE_ADDR : Fld := ⟨39, 6, .rw, 0⟩
/-- spec/10 R248. -/
def TLM_RXBASE : Reg := ⟨"TLM_RXBASE", 0x1800138, [], 64, .fixed .telem, .domain, [TLM_RXBASE_ADDR], [], 0⟩

def TLM_TXPOST_ENTRY : Fld := ⟨9, 0, .wo, 0⟩
/-- spec/10 R244. -/
def TLM_TXPOST : Reg := ⟨"TLM_TXPOST", 0x1800140, [], 32, .fixed .telem, .domain, [TLM_TXPOST_ENTRY], [], 0⟩

def TLM_RXFREE_ENTRY : Fld := ⟨8, 0, .wo, 0⟩
/-- spec/10 R248. -/
def TLM_RXFREE : Reg := ⟨"TLM_RXFREE", 0x1800144, [], 32, .fixed .telem, .domain, [TLM_RXFREE_ENTRY], [], 0⟩

def TLM_BUFSTAT_TX_PEND : Fld := ⟨10, 0, .ro, 0⟩
def TLM_BUFSTAT_RX_FREE : Fld := ⟨25, 16, .ro, 0⟩
/-- spec/10 R244. -/
def TLM_BUFSTAT : Reg := ⟨"TLM_BUFSTAT", 0x1800148, [], 32, .fixed .telem, .domain, [TLM_BUFSTAT_TX_PEND, TLM_BUFSTAT_RX_FREE], [], 0⟩

def TLM_OWN_EXT : Fld := ⟨63, 0, .rw, 0⟩
/-- spec/10 R245. -/
def TLM_OWN : Reg := ⟨"TLM_OWN", 0x1800150, [], 64, .fixed .telem, .domain, [TLM_OWN_EXT], [], 0⟩

def TLM_OWN_ID_SHORT : Fld := ⟨15, 0, .rw, 0⟩
def TLM_OWN_ID_PANID : Fld := ⟨31, 16, .rw, 0xffff⟩
/-- spec/10 R245. -/
def TLM_OWN_ID : Reg := ⟨"TLM_OWN_ID", 0x1800158, [], 32, .fixed .telem, .domain, [TLM_OWN_ID_SHORT, TLM_OWN_ID_PANID], [], 0⟩

def TLM_CELL_BASE_ADDR : Fld := ⟨39, 19, .rw, 0⟩
/-- spec/10 R240. -/
def TLM_CELL_BASE : Reg := ⟨"TLM_CELL_BASE", 0x1800160, [], 64, .fixed .telem, .domain, [TLM_CELL_BASE_ADDR], [], 0⟩

def TLM_SF_LEN : Fld := ⟨15, 0, .rw, 0x65⟩
def TLM_SF_ENABLE : Fld := ⟨16, 16, .rw, 0⟩
/-- spec/10 R240. -/
def TLM_SF : Reg := ⟨"TLM_SF", 0x1800200, [(8, 0x8)], 32, .fixed .telem, .domain, [TLM_SF_LEN, TLM_SF_ENABLE], [], 0⟩

def TLM_RX_DETECT_COUNT : Fld := ⟨31, 0, .rc, 0⟩
/-- spec/10 R250. -/
def TLM_RX_DETECT : Reg := ⟨"TLM_RX_DETECT", 0x1800400, [], 32, .fixed .telem, .domain, [TLM_RX_DETECT_COUNT], [], 0⟩

def TLM_SFD_MISS_COUNT : Fld := ⟨31, 0, .rc, 0⟩
/-- spec/10 R250. -/
def TLM_SFD_MISS : Reg := ⟨"TLM_SFD_MISS", 0x1800404, [], 32, .fixed .telem, .domain, [TLM_SFD_MISS_COUNT], [], 0⟩

def TLM_SFD_AMBIG_COUNT : Fld := ⟨31, 0, .rc, 0⟩
/-- spec/10 R250. -/
def TLM_SFD_AMBIG : Reg := ⟨"TLM_SFD_AMBIG", 0x1800408, [], 32, .fixed .telem, .domain, [TLM_SFD_AMBIG_COUNT], [], 0⟩

def TLM_RX_PHR_FAIL_COUNT : Fld := ⟨31, 0, .rc, 0⟩
/-- spec/10 R250. -/
def TLM_RX_PHR_FAIL : Reg := ⟨"TLM_RX_PHR_FAIL", 0x180040C, [], 32, .fixed .telem, .domain, [TLM_RX_PHR_FAIL_COUNT], [], 0⟩

def TLM_RX_REARM_COUNT : Fld := ⟨31, 0, .rc, 0⟩
/-- spec/10 R250. -/
def TLM_RX_REARM : Reg := ⟨"TLM_RX_REARM", 0x1800410, [], 32, .fixed .telem, .domain, [TLM_RX_REARM_COUNT], [], 0⟩

def TLM_RX_FCS_BAD_COUNT : Fld := ⟨31, 0, .rc, 0⟩
/-- spec/10 R250. -/
def TLM_RX_FCS_BAD : Reg := ⟨"TLM_RX_FCS_BAD", 0x1800414, [], 32, .fixed .telem, .domain, [TLM_RX_FCS_BAD_COUNT], [], 0⟩

def TLM_RX_NOBUF_COUNT : Fld := ⟨31, 0, .rc, 0⟩
/-- spec/10 R250. -/
def TLM_RX_NOBUF : Reg := ⟨"TLM_RX_NOBUF", 0x1800418, [], 32, .fixed .telem, .domain, [TLM_RX_NOBUF_COUNT], [], 0⟩

def TLM_RX_MIC_FAIL_COUNT : Fld := ⟨31, 0, .rc, 0⟩
/-- spec/10 R250. -/
def TLM_RX_MIC_FAIL : Reg := ⟨"TLM_RX_MIC_FAIL", 0x180041C, [], 32, .fixed .telem, .domain, [TLM_RX_MIC_FAIL_COUNT], [], 0⟩

def TLM_RX_REPLAY_COUNT : Fld := ⟨31, 0, .rc, 0⟩
/-- spec/10 R250. -/
def TLM_RX_REPLAY : Reg := ⟨"TLM_RX_REPLAY", 0x1800420, [], 32, .fixed .telem, .domain, [TLM_RX_REPLAY_COUNT], [], 0⟩

def TLM_REFIND_COUNT : Fld := ⟨31, 0, .rc, 0⟩
/-- spec/10 R250. -/
def TLM_REFIND : Reg := ⟨"TLM_REFIND", 0x1800424, [], 32, .fixed .telem, .domain, [TLM_REFIND_COUNT], [], 0⟩

def TLM_RX_DUP_COUNT : Fld := ⟨31, 0, .rc, 0⟩
/-- spec/10 R250. -/
def TLM_RX_DUP : Reg := ⟨"TLM_RX_DUP", 0x1800428, [], 32, .fixed .telem, .domain, [TLM_RX_DUP_COUNT], [], 0⟩

def TLM_RX_OUTSIDE_COUNT : Fld := ⟨31, 0, .rc, 0⟩
/-- spec/10 R250. -/
def TLM_RX_OUTSIDE : Reg := ⟨"TLM_RX_OUTSIDE", 0x180042C, [], 32, .fixed .telem, .domain, [TLM_RX_OUTSIDE_COUNT], [], 0⟩

def TLM_RX_UNKNOWN_COUNT : Fld := ⟨31, 0, .rc, 0⟩
/-- spec/10 R250. -/
def TLM_RX_UNKNOWN : Reg := ⟨"TLM_RX_UNKNOWN", 0x1800430, [], 32, .fixed .telem, .domain, [TLM_RX_UNKNOWN_COUNT], [], 0⟩

def TLM_AFC_SHORT_COUNT : Fld := ⟨31, 0, .rc, 0⟩
/-- spec/10 R250. -/
def TLM_AFC_SHORT : Reg := ⟨"TLM_AFC_SHORT", 0x1800434, [], 32, .fixed .telem, .domain, [TLM_AFC_SHORT_COUNT], [], 0⟩

def TLM_TX_FRAMES_COUNT : Fld := ⟨31, 0, .rc, 0⟩
/-- spec/10 R250. -/
def TLM_TX_FRAMES : Reg := ⟨"TLM_TX_FRAMES", 0x1800438, [], 32, .fixed .telem, .domain, [TLM_TX_FRAMES_COUNT], [], 0⟩

def TLM_TX_NO_ACK_COUNT : Fld := ⟨31, 0, .rc, 0⟩
/-- spec/10 R250. -/
def TLM_TX_NO_ACK : Reg := ⟨"TLM_TX_NO_ACK", 0x180043C, [], 32, .fixed .telem, .domain, [TLM_TX_NO_ACK_COUNT], [], 0⟩

def TLM_LATE_RESP_COUNT : Fld := ⟨31, 0, .rc, 0⟩
/-- spec/10 R250. -/
def TLM_LATE_RESP : Reg := ⟨"TLM_LATE_RESP", 0x1800440, [], 32, .fixed .telem, .domain, [TLM_LATE_RESP_COUNT], [], 0⟩

def TLM_SLOT_SKIPPED_COUNT : Fld := ⟨31, 0, .rc, 0⟩
/-- spec/10 R250. -/
def TLM_SLOT_SKIPPED : Reg := ⟨"TLM_SLOT_SKIPPED", 0x1800444, [], 32, .fixed .telem, .domain, [TLM_SLOT_SKIPPED_COUNT], [], 0⟩

def TLM_TIQ_UNDERRUN_COUNT : Fld := ⟨31, 0, .rc, 0⟩
/-- spec/10 R250. -/
def TLM_TIQ_UNDERRUN : Reg := ⟨"TLM_TIQ_UNDERRUN", 0x1800448, [], 32, .fixed .telem, .domain, [TLM_TIQ_UNDERRUN_COUNT], [], 0⟩

def TLM_TIQ_NOLOCK_COUNT : Fld := ⟨31, 0, .rc, 0⟩
/-- spec/10 R250. -/
def TLM_TIQ_NOLOCK : Reg := ⟨"TLM_TIQ_NOLOCK", 0x180044C, [], 32, .fixed .telem, .domain, [TLM_TIQ_NOLOCK_COUNT], [], 0⟩

def TLM_TIQ_OVERRUN_COUNT : Fld := ⟨31, 0, .rc, 0⟩
/-- spec/10 R250. -/
def TLM_TIQ_OVERRUN : Reg := ⟨"TLM_TIQ_OVERRUN", 0x1800450, [], 32, .fixed .telem, .domain, [TLM_TIQ_OVERRUN_COUNT], [], 0⟩

def TLM_HOP_CHAN : Fld := ⟨7, 0, .rw, 0⟩
/-- spec/10 R240. -/
def TLM_HOP : Reg := ⟨"TLM_HOP", 0x1801000, [(128, 0x4)], 32, .fixed .telem, .domain, [TLM_HOP_CHAN], [], 0⟩

def TLM_NBR0_EXT : Fld := ⟨63, 0, .rw, 0⟩
/-- spec/10 R241. -/
def TLM_NBR0 : Reg := ⟨"TLM_NBR0", 0x1840000, [(4097, 0x20)], 64, .fixed .telem, .domain, [TLM_NBR0_EXT], [], 0⟩

def TLM_NBR1_SHORT : Fld := ⟨15, 0, .rw, 0xffff⟩
def TLM_NBR1_KEY : Fld := ⟨27, 16, .rw, 0⟩
def TLM_NBR1_SEC : Fld := ⟨28, 28, .rw, 0⟩
def TLM_NBR1_PROF : Fld := ⟨30, 29, .rw, 0⟩
def TLM_NBR1_VALID : Fld := ⟨31, 31, .rw, 0⟩
def TLM_NBR1_SF : Fld := ⟨34, 32, .rw, 0⟩
def TLM_NBR1_STATE : Fld := ⟨41, 40, .ro, 0⟩
def TLM_NBR1_LAST_DSN : Fld := ⟨49, 42, .ro, 0⟩
def TLM_NBR1_DSN_OK : Fld := ⟨50, 50, .ro, 0⟩
def TLM_NBR1_RXFC_OK : Fld := ⟨51, 51, .ro, 0⟩
/-- spec/10 R241. -/
def TLM_NBR1 : Reg := ⟨"TLM_NBR1", 0x1840008, [(4097, 0x20)], 64, .fixed .telem, .domain, [TLM_NBR1_SHORT, TLM_NBR1_KEY, TLM_NBR1_SEC, TLM_NBR1_PROF, TLM_NBR1_VALID, TLM_NBR1_SF, TLM_NBR1_STATE, TLM_NBR1_LAST_DSN, TLM_NBR1_DSN_OK, TLM_NBR1_RXFC_OK], [], 0⟩

def TLM_NBR2_REF_ASN : Fld := ⟨39, 0, .ro, 0⟩
/-- spec/10 R241. -/
def TLM_NBR2 : Reg := ⟨"TLM_NBR2", 0x1840010, [(4097, 0x20)], 64, .fixed .telem, .domain, [TLM_NBR2_REF_ASN], [], 0⟩

def TLM_NBR3_DRIFT : Fld := ⟨31, 0, .ro, 0⟩
def TLM_NBR3_RX_FC : Fld := ⟨63, 32, .ro, 0⟩
/-- spec/10 R241. -/
def TLM_NBR3 : Reg := ⟨"TLM_NBR3", 0x1840018, [(4097, 0x20)], 64, .fixed .telem, .domain, [TLM_NBR3_DRIFT, TLM_NBR3_RX_FC], [], 0⟩

def regsAir : List Reg := [AIR_CTL, AIR_AGED, AIR_WHEEL_LATE, AIR_VTIME, AIR_U_CFG, AIR_U_SLOT_BASE, AIR_U_POST, AIR_U_STATUS, AIR_U_SENT, AIR_U_REFUSED, AIR_U_EXPIRED, AIR_U_ALL_OMITTED, AIR_U_USERS_OMITTED, AIR_U_MPDU_LEFT, AIR_STA, AIR_TWT0, AIR_TWT1, AIR_TWT2, AIR_QCFG0, AIR_QCFG1, AIR_QST0, AIR_QST1]

def regsWmac : List Reg := [WMAC_CTL, WMAC_MGMT, WMAC_TX_OVERSIZE, WMAC_TX_REMOVED, WMAC_TX_RETRY_FAIL, WMAC_TX_CIPHER_LATE, WMAC_RX_NO_STA, WMAC_RX_MIC_FAIL, WMAC_RX_OLD_KEY, WMAC_RX_REPLAY, WMAC_RX_REORDER_TIMEOUT, WMAC_RX_REORDER_FULL, WMAC_RX_DUP, WMAC_RX_NOBUF_MID, WMAC_RX_NOBUF, WMAC_LEASE_DEFERRED, WMAC_LEASE_RECALL, WMAC_LEASE_TABLE_FULL, WMAC_TX_KEY_REQUEUE, WMAC_U_LATE_RESP, WMAC_EDCA, WMAC_CTX, WMAC_LEASE0, WMAC_LEASE1]

def regsWb : List Reg := [WB_CTL, WB_DET, WB_TXRAMP, WB_SND_POST, WB_SND_STATUS, WB_RX_DETECT, WB_RX_LSIG_FAIL, WB_RX_SIG_FAIL, WB_RX_RESTART, WB_RX_BLANKED, WB_RX_FCS_BAD, WB_RX_OVERRUN, WB_TX_PPDU, WB_TX_UNDERRUN, WB_LINK_ABORT, WB_SND_DONE, WB_SND_EXPIRED, WB_FB_MISSING]

def regsSpe : List Reg := [SPE_SUBMIT, SPE_STATUS, SPE_CFG, SPE_FB_BASE]

def regsFel : List Reg := [FEL_LINK_CTL, FEL_LINK_STATUS, FEL_TXLANE, FEL_RXLANE]

def regsTlm0 : List Reg := [TLM_CTL, TLM_PROF, TLM_TIQ, TLM_RAMP, TLM_RAMP_T, TLM_SLOT, TLM_EPOCH, TLM_ASN, TLM_CHAN, TLM_DRIFT_CFG, TLM_TXFC, TLM_TXBASE, TLM_RXBASE, TLM_TXPOST, TLM_RXFREE, TLM_BUFSTAT, TLM_OWN, TLM_OWN_ID, TLM_CELL_BASE, TLM_SF, TLM_RX_DETECT, TLM_SFD_MISS, TLM_SFD_AMBIG, TLM_RX_PHR_FAIL, TLM_RX_REARM, TLM_RX_FCS_BAD, TLM_RX_NOBUF, TLM_RX_MIC_FAIL, TLM_RX_REPLAY, TLM_REFIND, TLM_RX_DUP, TLM_RX_OUTSIDE, TLM_RX_UNKNOWN, TLM_AFC_SHORT, TLM_TX_FRAMES, TLM_TX_NO_ACK, TLM_LATE_RESP, TLM_SLOT_SKIPPED, TLM_TIQ_UNDERRUN, TLM_TIQ_NOLOCK]
def regsTlm1 : List Reg := [TLM_TIQ_OVERRUN, TLM_HOP, TLM_NBR0, TLM_NBR1, TLM_NBR2, TLM_NBR3]
def regsTlm : List Reg := regsTlm0 ++ regsTlm1

end Sys2Proof.Machine
end

