-- ==== Sys2Proof/Machine/RegsAon.lean ====
section
/-! DEFINITION. The registers of blocks SEC, PWR, ADM, TMB, KCK, HIF, DRK, SCB, PMC: one constant for each register family and one for each of its fields,
with the offset, width, domain, reset source, access type and reset value of the spec's register tables. -/

namespace Sys2Proof.Machine

def SEC_PART_ID_PART : Fld := ⟨31, 16, .ro, 0x4816⟩
def SEC_PART_ID_GRADE : Fld := ⟨15, 12, .ro, 0⟩
def SEC_PART_ID_STEP : Fld := ⟨11, 8, .ro, 0⟩
/-- spec/00 R3. -/
def SEC_PART_ID : Reg := ⟨"SEC_PART_ID", 0x0, [], 32, .fixed .aon, .powerOn, [SEC_PART_ID_PART, SEC_PART_ID_GRADE, SEC_PART_ID_STEP], [], 0⟩

def SEC_BOOT_STATUS_STAGE : Fld := ⟨3, 0, .ro, 0⟩
def SEC_BOOT_STATUS_SLOT : Fld := ⟨5, 4, .ro, 0⟩
def SEC_BOOT_STATUS_FAIL_A : Fld := ⟨15, 8, .ro, 0⟩
def SEC_BOOT_STATUS_FAIL_B : Fld := ⟨23, 16, .ro, 0⟩
/-- spec/03 R61. -/
def SEC_BOOT_STATUS : Reg := ⟨"SEC_BOOT_STATUS", 0x10, [], 32, .fixed .aon, .powerOn, [SEC_BOOT_STATUS_STAGE, SEC_BOOT_STATUS_SLOT, SEC_BOOT_STATUS_FAIL_A, SEC_BOOT_STATUS_FAIL_B], [], 0⟩

def SEC_STRAPS_REFSEL : Fld := ⟨1, 0, .ro, 0⟩
def SEC_STRAPS_BOOTSRC : Fld := ⟨3, 2, .ro, 0⟩
def SEC_STRAPS_FABID : Fld := ⟨7, 4, .ro, 0⟩
/-- spec/03 R62. -/
def SEC_STRAPS : Reg := ⟨"SEC_STRAPS", 0x14, [], 32, .fixed .aon, .powerOn, [SEC_STRAPS_REFSEL, SEC_STRAPS_BOOTSRC, SEC_STRAPS_FABID], [], 0⟩

def SEC_FW_INFO_VERSION : Fld := ⟨15, 0, .ro, 0⟩
def SEC_FW_INFO_SVN : Fld := ⟨31, 16, .ro, 0⟩
/-- spec/03 R62. -/
def SEC_FW_INFO : Reg := ⟨"SEC_FW_INFO", 0x18, [], 32, .fixed .aon, .powerOn, [SEC_FW_INFO_VERSION, SEC_FW_INFO_SVN], [], 0⟩

def SEC_RCV_BASE_PAGE : Fld := ⟨4, 0, .rw, 0⟩
/-- spec/03 R63. -/
def SEC_RCV_BASE : Reg := ⟨"SEC_RCV_BASE", 0x20, [], 32, .fixed .aon, .powerOn, [SEC_RCV_BASE_PAGE], [], 0⟩

def SEC_RCV_GO_GO : Fld := ⟨0, 0, .wo, 0⟩
/-- spec/03 R63. -/
def SEC_RCV_GO : Reg := ⟨"SEC_RCV_GO", 0x24, [], 32, .fixed .aon, .powerOn, [SEC_RCV_GO_GO], [], 0⟩

def SEC_ATT_CTRL_HOST : Fld := ⟨0, 0, .rw, 1⟩
def SEC_ATT_CTRL_TWIN : Fld := ⟨1, 1, .rw, 1⟩
def SEC_ATT_CTRL_FABRIC : Fld := ⟨2, 2, .rw, 0⟩
/-- spec/03 R75. -/
def SEC_ATT_CTRL : Reg := ⟨"SEC_ATT_CTRL", 0x30, [], 32, .fixed .aon, .powerOn, [SEC_ATT_CTRL_HOST, SEC_ATT_CTRL_TWIN, SEC_ATT_CTRL_FABRIC], [], 0⟩

def SEC_EXT_DATA_DATA : Fld := ⟨63, 0, .wo, 0⟩
/-- spec/03 R67. -/
def SEC_EXT_DATA : Reg := ⟨"SEC_EXT_DATA", 0x1200, [(6, 0x8)], 64, .fixed .aon, .powerOn, [SEC_EXT_DATA_DATA], [], 0⟩

def SEC_EXT_GO_GO : Fld := ⟨0, 0, .wo, 0⟩
/-- spec/03 R67. -/
def SEC_EXT_GO : Reg := ⟨"SEC_EXT_GO", 0x1230, [], 32, .fixed .aon, .powerOn, [SEC_EXT_GO_GO], [], 0⟩

def SEC_LOG_STATUS_COUNT : Fld := ⟨10, 0, .ro, 0⟩
def SEC_LOG_STATUS_FULL : Fld := ⟨11, 11, .ro, 0⟩
def SEC_LOG_STATUS_EXT_BUSY : Fld := ⟨12, 12, .w1c, 0⟩
/-- spec/03 R69. -/
def SEC_LOG_STATUS : Reg := ⟨"SEC_LOG_STATUS", 0x1300, [], 32, .fixed .aon, .powerOn, [SEC_LOG_STATUS_COUNT, SEC_LOG_STATUS_FULL, SEC_LOG_STATUS_EXT_BUSY], [], 0⟩

def PWR_AVS_CFG_TARGET : Fld := ⟨11, 0, .rw, 0x533⟩
def PWR_AVS_CFG_ENABLE : Fld := ⟨15, 15, .rw, 0⟩
def PWR_AVS_CFG_VMIN : Fld := ⟨25, 16, .rw, 0x2bc⟩
def PWR_AVS_CFG_VMAX : Fld := ⟨41, 32, .rw, 0x384⟩
def PWR_AVS_CFG_STEP : Fld := ⟨51, 48, .rw, 5⟩
def PWR_AVS_CFG_PERIOD : Fld := ⟨63, 56, .rw, 5⟩
/-- spec/02. -/
def PWR_AVS_CFG : Reg := ⟨"PWR_AVS_CFG", 0x140000, [], 64, .fixed .aon, .powerOn, [PWR_AVS_CFG_TARGET, PWR_AVS_CFG_ENABLE, PWR_AVS_CFG_VMIN, PWR_AVS_CFG_VMAX, PWR_AVS_CFG_STEP, PWR_AVS_CFG_PERIOD], [], 0⟩

def PWR_AVS_BUS_ADDR : Fld := ⟨6, 0, .rw, 0x40⟩
def PWR_AVS_BUS_PAGE : Fld := ⟨15, 8, .rw, 0xff⟩
def PWR_AVS_BUS_SPEED : Fld := ⟨16, 16, .rw, 0⟩
/-- spec/02. -/
def PWR_AVS_BUS : Reg := ⟨"PWR_AVS_BUS", 0x140008, [], 32, .fixed .aon, .powerOn, [PWR_AVS_BUS_ADDR, PWR_AVS_BUS_PAGE, PWR_AVS_BUS_SPEED], [], 0⟩

def PWR_PACE_STATUS_FLOOR : Fld := ⟨11, 0, .ro, 0⟩
def PWR_PACE_STATUS_FLOOR_MON : Fld := ⟨22, 16, .ro, 0⟩
def PWR_PACE_STATUS_STATE : Fld := ⟨25, 24, .ro, 0⟩
def PWR_PACE_STATUS_AT_VMAX : Fld := ⟨26, 26, .ro, 0⟩
def PWR_PACE_STATUS_SAG_SEEN : Fld := ⟨28, 28, .w1c, 0⟩
def PWR_PACE_STATUS_FAULT_SEEN : Fld := ⟨29, 29, .w1c, 0⟩
def PWR_PACE_STATUS_CFG_REJ : Fld := ⟨30, 30, .w1c, 0⟩
def PWR_PACE_STATUS_VCORE_MV : Fld := ⟨41, 32, .ro, 0⟩
/-- spec/02. -/
def PWR_PACE_STATUS : Reg := ⟨"PWR_PACE_STATUS", 0x140010, [], 64, .fixed .aon, .powerOn, [PWR_PACE_STATUS_FLOOR, PWR_PACE_STATUS_FLOOR_MON, PWR_PACE_STATUS_STATE, PWR_PACE_STATUS_AT_VMAX, PWR_PACE_STATUS_SAG_SEEN, PWR_PACE_STATUS_FAULT_SEEN, PWR_PACE_STATUS_CFG_REJ, PWR_PACE_STATUS_VCORE_MV], [], 0⟩

def PWR_PACE_MON_VALUE : Fld := ⟨11, 0, .ro, 0⟩
def PWR_PACE_MON_BENCHED : Fld := ⟨31, 31, .ro, 0⟩
/-- spec/02 R39. -/
def PWR_PACE_MON : Reg := ⟨"PWR_PACE_MON", 0x140100, [(128, 0x4)], 32, .fixed .aon, .powerOn, [PWR_PACE_MON_VALUE, PWR_PACE_MON_BENCHED], [], 0⟩

def PWR_DOM_CTL_TARGET : Fld := ⟨1, 0, .rw, 0⟩
/-- spec/19 R390. -/
def PWR_DOM_CTL : Reg := ⟨"PWR_DOM_CTL", 0x100100, [(13, 0x10)], 32, .fixed .aon, .warm, [PWR_DOM_CTL_TARGET], [0x2, 0x2, 0x0, 0x0, 0x0, 0x0, 0x0, 0x0, 0x0, 0x0, 0x0, 0x0, 0x0], 0⟩

def PWR_DOM_STATUS_STATE : Fld := ⟨1, 0, .ro, 0⟩
def PWR_DOM_STATUS_LEAVE_WAIT : Fld := ⟨2, 2, .ro, 0⟩
def PWR_DOM_STATUS_REJ : Fld := ⟨7, 4, .ro, 0⟩
def PWR_DOM_STATUS_REJ_SEEN : Fld := ⟨8, 8, .w1c, 0⟩
/-- spec/19 R390. -/
def PWR_DOM_STATUS : Reg := ⟨"PWR_DOM_STATUS", 0x100104, [(13, 0x10)], 32, .fixed .aon, .warm, [PWR_DOM_STATUS_STATE, PWR_DOM_STATUS_LEAVE_WAIT, PWR_DOM_STATUS_REJ, PWR_DOM_STATUS_REJ_SEEN], [0x2, 0x2, 0x0, 0x0, 0x0, 0x0, 0x0, 0x0, 0x0, 0x0, 0x0, 0x0, 0x0], 0⟩

def PWR_REF_BUDGET_BUDGET : Fld := ⟨19, 0, .rw, 0x186a0⟩
/-- spec/19 R398. -/
def PWR_REF_BUDGET : Reg := ⟨"PWR_REF_BUDGET", 0x110000, [], 32, .fixed .aon, .powerOn, [PWR_REF_BUDGET_BUDGET], [], 0⟩

def PWR_REF_CFG_AGE : Fld := ⟨9, 0, .rw, 0x64⟩
/-- spec/19 R396. -/
def PWR_REF_CFG : Reg := ⟨"PWR_REF_CFG", 0x110004, [], 32, .fixed .aon, .powerOn, [PWR_REF_CFG_AGE], [], 0⟩

def PWR_REF_STATUS_FIXED : Fld := ⟨19, 0, .ro, 0x708⟩
def PWR_REF_STATUS_GRANTED : Fld := ⟨39, 20, .ro, 0⟩
def PWR_REF_STATUS_QUEUED : Fld := ⟨48, 40, .ro, 0⟩
/-- spec/19 R396. -/
def PWR_REF_STATUS : Reg := ⟨"PWR_REF_STATUS", 0x110008, [], 64, .fixed .aon, .powerOn, [PWR_REF_STATUS_FIXED, PWR_REF_STATUS_GRANTED, PWR_REF_STATUS_QUEUED], [], 0⟩

def PWR_REF_REFUSED_COUNT : Fld := ⟨31, 0, .rc, 0⟩
/-- spec/19 R398. -/
def PWR_REF_REFUSED : Reg := ⟨"PWR_REF_REFUSED", 0x110010, [], 32, .fixed .aon, .powerOn, [PWR_REF_REFUSED_COUNT], [], 0⟩

def PWR_REF_CLASS_HELD : Fld := ⟨19, 0, .ro, 0⟩
/-- spec/19 (class c at index c-1). -/
def PWR_REF_CLASS : Reg := ⟨"PWR_REF_CLASS", 0x110104, [(7, 0x4)], 32, .fixed .aon, .powerOn, [PWR_REF_CLASS_HELD], [], 0⟩

def PWR_RESET_KEY : Fld := ⟨31, 0, .wo, 0⟩
/-- spec/19 R400. -/
def PWR_RESET : Reg := ⟨"PWR_RESET", 0x120000, [], 32, .fixed .aon, .powerOn, [PWR_RESET_KEY], [], 0⟩

def PWR_RST_CAUSE_POR : Fld := ⟨0, 0, .w1c, 1⟩
def PWR_RST_CAUSE_PIN : Fld := ⟨1, 1, .w1c, 0⟩
def PWR_RST_CAUSE_HOST : Fld := ⟨2, 2, .w1c, 0⟩
def PWR_RST_CAUSE_WDT : Fld := ⟨3, 3, .w1c, 0⟩
def PWR_RST_CAUSE_COUNT : Fld := ⟨15, 8, .ro, 0⟩
/-- spec/19 R400. -/
def PWR_RST_CAUSE : Reg := ⟨"PWR_RST_CAUSE", 0x120004, [], 32, .fixed .aon, .powerOn, [PWR_RST_CAUSE_POR, PWR_RST_CAUSE_PIN, PWR_RST_CAUSE_HOST, PWR_RST_CAUSE_WDT, PWR_RST_CAUSE_COUNT], [], 0⟩

def PWR_DOWN_ACC_ADDR : Fld := ⟨39, 0, .ro, 0⟩
def PWR_DOWN_ACC_DOMAIN : Fld := ⟨43, 40, .ro, 0⟩
def PWR_DOWN_ACC_INIT : Fld := ⟨47, 44, .ro, 0⟩
def PWR_DOWN_ACC_WRITE : Fld := ⟨48, 48, .ro, 0⟩
/-- spec/19 R394. -/
def PWR_DOWN_ACC : Reg := ⟨"PWR_DOWN_ACC", 0x130000, [], 64, .fixed .aon, .powerOn, [PWR_DOWN_ACC_ADDR, PWR_DOWN_ACC_DOMAIN, PWR_DOWN_ACC_INIT, PWR_DOWN_ACC_WRITE], [], 0⟩

def PWR_DOWN_CNT_COUNT : Fld := ⟨31, 0, .rc, 0⟩
/-- spec/19 R394. -/
def PWR_DOWN_CNT : Reg := ⟨"PWR_DOWN_CNT", 0x130008, [], 32, .fixed .aon, .powerOn, [PWR_DOWN_CNT_COUNT], [], 0⟩

def ADM_ISSUED_COUNT : Fld := ⟨63, 0, .ro, 0⟩
/-- spec/19 R403. -/
def ADM_ISSUED : Reg := ⟨"ADM_ISSUED", 0x200000, [], 64, .fixed .aon, .warm, [ADM_ISSUED_COUNT], [], 0⟩

def ADM_GRANT_ID : Fld := ⟨15, 0, .ro, 0⟩
def ADM_GRANT_CLASS : Fld := ⟨19, 16, .ro, 0⟩
def ADM_GRANT_VALID : Fld := ⟨20, 20, .ro, 0⟩
def ADM_GRANT_AMOUNT : Fld := ⟨43, 24, .ro, 0⟩
def ADM_GRANT_REQ : Fld := ⟨47, 44, .ro, 0⟩
def ADM_GRANT_INDEX : Fld := ⟨63, 48, .ro, 0⟩
/-- spec/19 R403. -/
def ADM_GRANT : Reg := ⟨"ADM_GRANT", 0x210000, [(2048, 0x8)], 64, .fixed .aon, .warm, [ADM_GRANT_ID, ADM_GRANT_CLASS, ADM_GRANT_VALID, ADM_GRANT_AMOUNT, ADM_GRANT_REQ, ADM_GRANT_INDEX], [], 0⟩

def ADM_QUEUE_WAIT : Fld := ⟨15, 0, .ro, 0⟩
def ADM_QUEUE_CLASS : Fld := ⟨19, 16, .ro, 0⟩
def ADM_QUEUE_VALID : Fld := ⟨20, 20, .ro, 0⟩
def ADM_QUEUE_AMOUNT : Fld := ⟨43, 24, .ro, 0⟩
def ADM_QUEUE_REQ : Fld := ⟨47, 44, .ro, 0⟩
def ADM_QUEUE_INDEX : Fld := ⟨63, 48, .ro, 0⟩
/-- spec/19 R403. -/
def ADM_QUEUE : Reg := ⟨"ADM_QUEUE", 0x220000, [(256, 0x8)], 64, .fixed .aon, .warm, [ADM_QUEUE_WAIT, ADM_QUEUE_CLASS, ADM_QUEUE_VALID, ADM_QUEUE_AMOUNT, ADM_QUEUE_REQ, ADM_QUEUE_INDEX], [], 0⟩

def TMB_TIME_NS : Fld := ⟨63, 0, .ro, 0⟩
/-- spec/02. -/
def TMB_TIME : Reg := ⟨"TMB_TIME", 0x300000, [], 64, .fixed .aon, .powerOn, [TMB_TIME_NS], [], 0⟩

def TMB_TIME_FRAC_FRAC : Fld := ⟨15, 0, .ro, 0⟩
/-- spec/02. -/
def TMB_TIME_FRAC : Reg := ⟨"TMB_TIME_FRAC", 0x300008, [], 32, .fixed .aon, .powerOn, [TMB_TIME_FRAC_FRAC], [], 0⟩

def TMB_RATE_ADJ : Fld := ⟨31, 0, .rw, 0⟩
/-- spec/02. -/
def TMB_RATE : Reg := ⟨"TMB_RATE", 0x300010, [], 32, .fixed .aon, .powerOn, [TMB_RATE_ADJ], [], 0⟩

def TMB_STEP_DELTA : Fld := ⟨63, 0, .wo, 0⟩
/-- spec/02. -/
def TMB_STEP : Reg := ⟨"TMB_STEP", 0x300018, [], 64, .fixed .aon, .powerOn, [TMB_STEP_DELTA], [], 0⟩

def TMB_CTRL_PPS_MODE : Fld := ⟨1, 0, .rw, 0⟩
def TMB_CTRL_ALLOW_BACK : Fld := ⟨4, 4, .rw, 0⟩
def TMB_CTRL_PPS_EDGE : Fld := ⟨5, 5, .rw, 0⟩
def TMB_CTRL_FAB_ALIGN : Fld := ⟨8, 8, .rw, 1⟩
/-- spec/02. -/
def TMB_CTRL : Reg := ⟨"TMB_CTRL", 0x300020, [], 32, .fixed .aon, .powerOn, [TMB_CTRL_PPS_MODE, TMB_CTRL_ALLOW_BACK, TMB_CTRL_PPS_EDGE, TMB_CTRL_FAB_ALIGN], [], 0⟩

def TMB_STATUS_REFSEL : Fld := ⟨1, 0, .ro, 0⟩
def TMB_STATUS_REF_LOST : Fld := ⟨2, 2, .ro, 0⟩
def TMB_STATUS_PPS_LOCK : Fld := ⟨3, 3, .ro, 0⟩
def TMB_STATUS_FAB_LOCK : Fld := ⟨4, 4, .ro, 0⟩
/-- spec/02. -/
def TMB_STATUS : Reg := ⟨"TMB_STATUS", 0x300024, [], 32, .fixed .aon, .powerOn, [TMB_STATUS_REFSEL, TMB_STATUS_REF_LOST, TMB_STATUS_PPS_LOCK, TMB_STATUS_FAB_LOCK], [], 0⟩

def TMB_PPS_STAMP_NS : Fld := ⟨63, 0, .ro, 0⟩
/-- spec/02. -/
def TMB_PPS_STAMP : Reg := ⟨"TMB_PPS_STAMP", 0x300028, [], 64, .fixed .aon, .powerOn, [TMB_PPS_STAMP_NS], [], 0⟩

def TMB_TSF_OFF_OFF : Fld := ⟨63, 0, .rw, 0⟩
/-- spec/02 R56. -/
def TMB_TSF_OFF : Reg := ⟨"TMB_TSF_OFF", 0x300040, [(3, 0x8)], 64, .fixed .aon, .powerOn, [TMB_TSF_OFF_OFF], [], 0⟩

def KCK_AREA_BASE : Fld := ⟨39, 25, .rw, 0xd8⟩
/-- spec/16. -/
def KCK_AREA : Reg := ⟨"KCK_AREA", 0x400000, [], 64, .fixed .aon, .powerOn, [KCK_AREA_BASE], [], 0⟩

def KCK_SET_ITEMS : Fld := ⟨16, 0, .ro, 0⟩
def KCK_SET_IMAGES : Fld := ⟨29, 17, .ro, 0⟩
def KCK_SET_STATE : Fld := ⟨31, 30, .ro, 0⟩
def KCK_SET_FABRIC : Fld := ⟨32, 32, .ro, 0⟩
/-- spec/16. -/
def KCK_SET : Reg := ⟨"KCK_SET", 0x400100, [(8, 0x10)], 64, .fixed .aon, .powerOn, [KCK_SET_ITEMS, KCK_SET_IMAGES, KCK_SET_STATE, KCK_SET_FABRIC], [], 0⟩

def KCK_SET1_INSTANT : Fld := ⟨63, 0, .ro, 0⟩
/-- spec/16. -/
def KCK_SET1 : Reg := ⟨"KCK_SET1", 0x400108, [(8, 0x10)], 64, .fixed .aon, .powerOn, [KCK_SET1_INSTANT], [], 0⟩

def HIF_BAR2_BASE_WIN : Fld := ⟨9, 0, .rw, 0⟩
/-- spec/04 R79. -/
def HIF_BAR2_BASE : Reg := ⟨"HIF_BAR2_BASE", 0x500100, [], 32, .fixed .host, .domain, [HIF_BAR2_BASE_WIN], [], 0⟩

def HIF_EVT_CFG_VEC : Fld := ⟨5, 0, .rw, 0⟩
def HIF_EVT_CFG_EN : Fld := ⟨8, 8, .rw, 0⟩
/-- spec/04 R94. -/
def HIF_EVT_CFG : Reg := ⟨"HIF_EVT_CFG", 0x500108, [], 32, .fixed .host, .domain, [HIF_EVT_CFG_VEC, HIF_EVT_CFG_EN], [], 0⟩

def HIF_JRN_TOTAL_COUNT : Fld := ⟨63, 0, .ro, 0⟩
/-- spec/04 R96. -/
def HIF_JRN_TOTAL : Reg := ⟨"HIF_JRN_TOTAL", 0x500200, [], 64, .fixed .host, .domain, [HIF_JRN_TOTAL_COUNT], [], 0⟩

def HIF_JRN_LOST_COUNT : Fld := ⟨31, 0, .rc, 0⟩
/-- spec/04 R96. -/
def HIF_JRN_LOST : Reg := ⟨"HIF_JRN_LOST", 0x500208, [], 32, .fixed .host, .domain, [HIF_JRN_LOST_COUNT], [], 0⟩

def HIF_QP_CFG_ENABLE : Fld := ⟨0, 0, .rw, 0⟩
def HIF_QP_CFG_SQ_LOG2 : Fld := ⟨7, 4, .rw, 4⟩
def HIF_QP_CFG_CQ_LOG2 : Fld := ⟨11, 8, .rw, 4⟩
def HIF_QP_CFG_VEC : Fld := ⟨21, 16, .rw, 0⟩
/-- spec/04 R80. -/
def HIF_QP_CFG : Reg := ⟨"HIF_QP_CFG", 0x501000, [(64, 0x40)], 32, .fixed .host, .domain, [HIF_QP_CFG_ENABLE, HIF_QP_CFG_SQ_LOG2, HIF_QP_CFG_CQ_LOG2, HIF_QP_CFG_VEC], [0x440, 0x10440, 0x20440, 0x30440, 0x40440, 0x50440, 0x60440, 0x70440, 0x80440, 0x90440, 0xa0440, 0xb0440, 0xc0440, 0xd0440, 0xe0440, 0xf0440, 0x100440, 0x110440, 0x120440, 0x130440, 0x140440, 0x150440, 0x160440, 0x170440, 0x180440, 0x190440, 0x1a0440, 0x1b0440, 0x1c0440, 0x1d0440, 0x1e0440, 0x1f0440, 0x200440, 0x210440, 0x220440, 0x230440, 0x240440, 0x250440, 0x260440, 0x270440, 0x280440, 0x290440, 0x2a0440, 0x2b0440, 0x2c0440, 0x2d0440, 0x2e0440, 0x2f0440, 0x300440, 0x310440, 0x320440, 0x330440, 0x340440, 0x350440, 0x360440, 0x370440, 0x380440, 0x390440, 0x3a0440, 0x3b0440, 0x3c0440, 0x3d0440, 0x3e0440, 0x3f0440], 0⟩

def HIF_QP_SQ_BASE_ADDR : Fld := ⟨63, 12, .rw, 0⟩
/-- spec/04 R80. -/
def HIF_QP_SQ_BASE : Reg := ⟨"HIF_QP_SQ_BASE", 0x501008, [(64, 0x40)], 64, .fixed .host, .domain, [HIF_QP_SQ_BASE_ADDR], [], 0⟩

def HIF_QP_CQ_BASE_ADDR : Fld := ⟨63, 12, .rw, 0⟩
/-- spec/04 R80. -/
def HIF_QP_CQ_BASE : Reg := ⟨"HIF_QP_CQ_BASE", 0x501010, [(64, 0x40)], 64, .fixed .host, .domain, [HIF_QP_CQ_BASE_ADDR], [], 0⟩

def HIF_QP_SEQ_INIT_CMD : Fld := ⟨31, 0, .rw, 0⟩
def HIF_QP_SEQ_INIT_CPL : Fld := ⟨63, 32, .rw, 0⟩
/-- spec/04 R80. -/
def HIF_QP_SEQ_INIT : Reg := ⟨"HIF_QP_SEQ_INIT", 0x501018, [(64, 0x40)], 64, .fixed .host, .domain, [HIF_QP_SEQ_INIT_CMD, HIF_QP_SEQ_INIT_CPL], [], 0⟩

def HIF_QP_SEQ_CONS : Fld := ⟨31, 0, .ro, 0xffffffff⟩
def HIF_QP_SEQ_POST : Fld := ⟨63, 32, .ro, 0xffffffff⟩
/-- spec/04 R80. -/
def HIF_QP_SEQ : Reg := ⟨"HIF_QP_SEQ", 0x501020, [(64, 0x40)], 64, .fixed .host, .domain, [HIF_QP_SEQ_CONS, HIF_QP_SEQ_POST], [], 0⟩

def HIF_QP_STATUS_STATE : Fld := ⟨1, 0, .ro, 0⟩
def HIF_QP_STATUS_ERR : Fld := ⟨7, 4, .ro, 0⟩
def HIF_QP_STATUS_INFLIGHT : Fld := ⟨18, 8, .ro, 0⟩
/-- spec/04 R80. -/
def HIF_QP_STATUS : Reg := ⟨"HIF_QP_STATUS", 0x501028, [(64, 0x40)], 32, .fixed .host, .domain, [HIF_QP_STATUS_STATE, HIF_QP_STATUS_ERR, HIF_QP_STATUS_INFLIGHT], [], 0⟩

def HIF_QP_IRQ_COUNT : Fld := ⟨7, 0, .rw, 1⟩
def HIF_QP_IRQ_TIME : Fld := ⟨17, 8, .rw, 0⟩
/-- spec/04 R94. -/
def HIF_QP_IRQ : Reg := ⟨"HIF_QP_IRQ", 0x50102C, [(64, 0x40)], 32, .fixed .host, .domain, [HIF_QP_IRQ_COUNT, HIF_QP_IRQ_TIME], [], 0⟩

def HIF_QP_SQDB_TAIL : Fld := ⟨11, 0, .wo, 0⟩
/-- spec/04 R87. -/
def HIF_QP_SQDB : Reg := ⟨"HIF_QP_SQDB", 0x510000, [(64, 0x10)], 32, .fixed .host, .domain, [HIF_QP_SQDB_TAIL], [], 0⟩

def HIF_QP_CQDB_HEAD : Fld := ⟨11, 0, .wo, 0⟩
/-- spec/04 R87. -/
def HIF_QP_CQDB : Reg := ⟨"HIF_QP_CQDB", 0x510004, [(64, 0x10)], 32, .fixed .host, .domain, [HIF_QP_CQDB_HEAD], [], 0⟩

def HIF_MSIX_ADDR_ADDR : Fld := ⟨63, 0, .rw, 0⟩
/-- spec/04 Table HIF-1. -/
def HIF_MSIX_ADDR : Reg := ⟨"HIF_MSIX_ADDR", 0x520000, [(64, 0x10)], 64, .fixed .host, .domain, [HIF_MSIX_ADDR_ADDR], [], 0⟩

def HIF_MSIX_DATA_DATA : Fld := ⟨31, 0, .rw, 0⟩
/-- spec/04 Table HIF-1. -/
def HIF_MSIX_DATA : Reg := ⟨"HIF_MSIX_DATA", 0x520008, [(64, 0x10)], 32, .fixed .host, .domain, [HIF_MSIX_DATA_DATA], [], 0⟩

def HIF_MSIX_CTRL_MASK : Fld := ⟨0, 0, .rw, 1⟩
/-- spec/04 Table HIF-1. -/
def HIF_MSIX_CTRL : Reg := ⟨"HIF_MSIX_CTRL", 0x52000C, [(64, 0x10)], 32, .fixed .host, .domain, [HIF_MSIX_CTRL_MASK], [], 0⟩

def HIF_MSIX_PBA_PENDING : Fld := ⟨63, 0, .ro, 0⟩
/-- spec/04 Table HIF-1. -/
def HIF_MSIX_PBA : Reg := ⟨"HIF_MSIX_PBA", 0x521000, [], 64, .fixed .host, .domain, [HIF_MSIX_PBA_PENDING], [], 0⟩

def DRK_CTL_BENCH_EN : Fld := ⟨0, 0, .rw, 1⟩
/-- spec/05. -/
def DRK_CTL : Reg := ⟨"DRK_CTL", 0x600000, [], 32, .fixed .aon, .powerOn, [DRK_CTL_BENCH_EN], [], 0⟩

def DRK_BENCHED_LO_CORES : Fld := ⟨63, 0, .ro, 0⟩
/-- spec/05. -/
def DRK_BENCHED_LO : Reg := ⟨"DRK_BENCHED_LO", 0x600010, [], 64, .fixed .aon, .powerOn, [DRK_BENCHED_LO_CORES], [], 0⟩

def DRK_BENCHED_HI_CORES : Fld := ⟨31, 0, .ro, 0⟩
/-- spec/05. -/
def DRK_BENCHED_HI : Reg := ⟨"DRK_BENCHED_HI", 0x600018, [], 64, .fixed .aon, .powerOn, [DRK_BENCHED_HI_CORES], [], 0⟩

def DRK_BENCH_REL_CORE : Fld := ⟨6, 0, .wo, 0⟩
/-- spec/05. -/
def DRK_BENCH_REL : Reg := ⟨"DRK_BENCH_REL", 0x600020, [], 32, .fixed .aon, .powerOn, [DRK_BENCH_REL_CORE], [], 0⟩

def DRK_BENCH_STATUS_REL_REJ : Fld := ⟨0, 0, .w1c, 0⟩
def DRK_BENCH_STATUS_REFUSED_SEEN : Fld := ⟨1, 1, .w1c, 0⟩
def DRK_BENCH_STATUS_COUNT : Fld := ⟨13, 8, .ro, 0⟩
/-- spec/05. -/
def DRK_BENCH_STATUS : Reg := ⟨"DRK_BENCH_STATUS", 0x600024, [], 32, .fixed .aon, .powerOn, [DRK_BENCH_STATUS_REL_REJ, DRK_BENCH_STATUS_REFUSED_SEEN, DRK_BENCH_STATUS_COUNT], [], 0⟩

def DRK_DROP_NOENT_COUNT : Fld := ⟨31, 0, .rc, 0⟩
/-- spec/05 R111. -/
def DRK_DROP_NOENT : Reg := ⟨"DRK_DROP_NOENT", 0x600030, [], 32, .fixed .aon, .powerOn, [DRK_DROP_NOENT_COUNT], [], 0⟩

def DRK_DROP_DOWN_COUNT : Fld := ⟨31, 0, .rc, 0⟩
/-- spec/05 R111. -/
def DRK_DROP_DOWN : Reg := ⟨"DRK_DROP_DOWN", 0x600034, [], 32, .fixed .aon, .powerOn, [DRK_DROP_DOWN_COUNT], [], 0⟩

def DRK_DROP_FAULT_COUNT : Fld := ⟨31, 0, .rc, 0⟩
/-- spec/05 R111. -/
def DRK_DROP_FAULT : Reg := ⟨"DRK_DROP_FAULT", 0x600038, [], 32, .fixed .aon, .powerOn, [DRK_DROP_FAULT_COUNT], [], 0⟩

def DRK_END_FREED_COUNT : Fld := ⟨31, 0, .rc, 0⟩
/-- spec/06 R141. -/
def DRK_END_FREED : Reg := ⟨"DRK_END_FREED", 0x60003C, [], 32, .fixed .aon, .powerOn, [DRK_END_FREED_COUNT], [], 0⟩

def DRK_CORE_STATE_IMAGE_ID : Fld := ⟨15, 0, .ro, 0⟩
def DRK_CORE_STATE_LAST_FAULT : Fld := ⟨23, 16, .ro, 0⟩
def DRK_CORE_STATE_CTX_STATE : Fld := ⟨39, 32, .ro, 0xff⟩
def DRK_CORE_STATE_FIFO : Fld := ⟨47, 40, .ro, 0⟩
def DRK_CORE_STATE_FAULTS : Fld := ⟨63, 48, .rc, 0⟩
/-- spec/05 R125. -/
def DRK_CORE_STATE : Reg := ⟨"DRK_CORE_STATE", 0x610000, [(96, 0x8)], 64, .core, .domain, [DRK_CORE_STATE_IMAGE_ID, DRK_CORE_STATE_LAST_FAULT, DRK_CORE_STATE_CTX_STATE, DRK_CORE_STATE_FIFO, DRK_CORE_STATE_FAULTS], [], 0⟩

def SCB_CTL_MODE : Fld := ⟨1, 0, .rw, 0⟩
def SCB_CTL_ARM : Fld := ⟨2, 2, .rw, 0⟩
def SCB_CTL_CHECK : Fld := ⟨11, 8, .rw, 0xa⟩
/-- spec/20. -/
def SCB_CTL : Reg := ⟨"SCB_CTL", 0x700000, [], 32, .fixed .aon, .powerOn, [SCB_CTL_MODE, SCB_CTL_ARM, SCB_CTL_CHECK], [], 0⟩

def SCB_STATUS_STATE : Fld := ⟨2, 0, .ro, 0⟩
def SCB_STATUS_CAUSE : Fld := ⟨7, 4, .ro, 0⟩
/-- spec/20. -/
def SCB_STATUS : Reg := ⟨"SCB_STATUS", 0x700004, [], 32, .fixed .aon, .powerOn, [SCB_STATUS_STATE, SCB_STATUS_CAUSE], [], 0⟩

def SCB_BUF_BASE : Fld := ⟨39, 24, .rw, 0⟩
def SCB_BUF_SIZE_LOG2 : Fld := ⟨44, 40, .rw, 0x18⟩
/-- spec/20. -/
def SCB_BUF : Reg := ⟨"SCB_BUF", 0x700008, [], 64, .fixed .aon, .powerOn, [SCB_BUF_BASE, SCB_BUF_SIZE_LOG2], [], 0⟩

def SCB_HEAD_HEAD : Fld := ⟨63, 0, .ro, 0⟩
/-- spec/20. -/
def SCB_HEAD : Reg := ⟨"SCB_HEAD", 0x700010, [], 64, .fixed .aon, .powerOn, [SCB_HEAD_HEAD], [], 0⟩

def SCB_TAIL_TAIL : Fld := ⟨63, 0, .rw, 0⟩
/-- spec/20. -/
def SCB_TAIL : Reg := ⟨"SCB_TAIL", 0x700018, [], 64, .fixed .aon, .powerOn, [SCB_TAIL_TAIL], [], 0⟩

def SCB_STOP_STOP : Fld := ⟨0, 0, .wo, 0⟩
/-- spec/20 R413. -/
def SCB_STOP : Reg := ⟨"SCB_STOP", 0x700020, [], 32, .fixed .aon, .powerOn, [SCB_STOP_STOP], [], 0⟩

def SCB_DIVERGE_OFFSET : Fld := ⟨63, 0, .ro, 0⟩
/-- spec/20 R415. -/
def SCB_DIVERGE : Reg := ⟨"SCB_DIVERGE", 0x700028, [], 64, .fixed .aon, .powerOn, [SCB_DIVERGE_OFFSET], [], 0⟩

def SCB_SUP_BUF_BASE : Fld := ⟨39, 24, .rw, 0⟩
def SCB_SUP_BUF_SIZE_LOG2 : Fld := ⟨44, 40, .rw, 0x18⟩
/-- spec/20 R415. -/
def SCB_SUP_BUF : Reg := ⟨"SCB_SUP_BUF", 0x700030, [], 64, .fixed .aon, .powerOn, [SCB_SUP_BUF_BASE, SCB_SUP_BUF_SIZE_LOG2], [], 0⟩

def SCB_SUP_HEAD_HEAD : Fld := ⟨63, 0, .ro, 0⟩
/-- spec/20 R415. -/
def SCB_SUP_HEAD : Reg := ⟨"SCB_SUP_HEAD", 0x700038, [], 64, .fixed .aon, .powerOn, [SCB_SUP_HEAD_HEAD], [], 0⟩

def SCB_SUP_TAIL_TAIL : Fld := ⟨63, 0, .rw, 0⟩
/-- spec/20 R415. -/
def SCB_SUP_TAIL : Reg := ⟨"SCB_SUP_TAIL", 0x700040, [], 64, .fixed .aon, .powerOn, [SCB_SUP_TAIL_TAIL], [], 0⟩

def SCB_EVT_TOTAL_TOTAL : Fld := ⟨63, 0, .ro, 0⟩
/-- spec/20 R409. -/
def SCB_EVT_TOTAL : Reg := ⟨"SCB_EVT_TOTAL", 0x700100, [], 64, .fixed .aon, .powerOn, [SCB_EVT_TOTAL_TOTAL], [], 0⟩

def SCB_EVT_ACK_ACK : Fld := ⟨63, 0, .rw, 0⟩
/-- spec/20 R409. -/
def SCB_EVT_ACK : Reg := ⟨"SCB_EVT_ACK", 0x700108, [], 64, .fixed .aon, .powerOn, [SCB_EVT_ACK_ACK], [], 0⟩

def PMC_CTL_FREEZE : Fld := ⟨0, 0, .rw, 0⟩
def PMC_CTL_CLEAR : Fld := ⟨1, 1, .wo, 0⟩
/-- spec/20 R406. -/
def PMC_CTL : Reg := ⟨"PMC_CTL", 0x800000, [], 32, .fixed .aon, .powerOn, [PMC_CTL_FREEZE, PMC_CTL_CLEAR], [], 0⟩

def PMC_TAG_CFG_EN : Fld := ⟨0, 0, .rw, 0⟩
def PMC_TAG_CFG_MEAN_LOG2 : Fld := ⟨8, 4, .rw, 0x10⟩
def PMC_TAG_CFG_CLUSTERS : Fld := ⟨27, 16, .rw, 0xfff⟩
def PMC_TAG_CFG_SEED : Fld := ⟨63, 32, .rw, 1⟩
/-- spec/20 R407. -/
def PMC_TAG_CFG : Reg := ⟨"PMC_TAG_CFG", 0x800010, [], 64, .fixed .aon, .powerOn, [PMC_TAG_CFG_EN, PMC_TAG_CFG_MEAN_LOG2, PMC_TAG_CFG_CLUSTERS, PMC_TAG_CFG_SEED], [], 0⟩

def PMC_TAG_RING_BASE : Fld := ⟨39, 12, .rw, 0⟩
def PMC_TAG_RING_SIZE_LOG2 : Fld := ⟨44, 40, .rw, 0xa⟩
/-- spec/20 R407. -/
def PMC_TAG_RING : Reg := ⟨"PMC_TAG_RING", 0x800018, [], 64, .fixed .aon, .powerOn, [PMC_TAG_RING_BASE, PMC_TAG_RING_SIZE_LOG2], [], 0⟩

def PMC_TAG_HEAD_HEAD : Fld := ⟨31, 0, .ro, 0⟩
/-- spec/20 R407. -/
def PMC_TAG_HEAD : Reg := ⟨"PMC_TAG_HEAD", 0x800020, [], 32, .fixed .aon, .powerOn, [PMC_TAG_HEAD_HEAD], [], 0⟩

def PMC_TAG_TAIL_TAIL : Fld := ⟨31, 0, .rw, 0⟩
/-- spec/20 R407. -/
def PMC_TAG_TAIL : Reg := ⟨"PMC_TAG_TAIL", 0x800024, [], 32, .fixed .aon, .powerOn, [PMC_TAG_TAIL_TAIL], [], 0⟩

def PMC_TAG_LOST_COUNT : Fld := ⟨31, 0, .rc, 0⟩
/-- spec/20 R407. -/
def PMC_TAG_LOST : Reg := ⟨"PMC_TAG_LOST", 0x800028, [], 32, .fixed .aon, .powerOn, [PMC_TAG_LOST_COUNT], [], 0⟩

def PMC_CORE_TICK_TICK : Fld := ⟨63, 0, .ro, 0⟩
/-- spec/20 R404. -/
def PMC_CORE_TICK : Reg := ⟨"PMC_CORE_TICK", 0x810000, [(96, 0x100)], 64, .core, .domain, [PMC_CORE_TICK_TICK], [], 0⟩

def PMC_CORE_CFG_EVENT : Fld := ⟨7, 0, .rw, 0⟩
def PMC_CORE_CFG_CTX : Fld := ⟨11, 8, .rw, 0xf⟩
/-- spec/20 R404. -/
def PMC_CORE_CFG : Reg := ⟨"PMC_CORE_CFG", 0x810010, [(96, 0x100), (8, 0x4)], 32, .core, .domain, [PMC_CORE_CFG_EVENT, PMC_CORE_CFG_CTX], [], 0⟩

def PMC_CORE_CNT_COUNT : Fld := ⟨63, 0, .rw, 0⟩
/-- spec/20 R404. -/
def PMC_CORE_CNT : Reg := ⟨"PMC_CORE_CNT", 0x810040, [(96, 0x100), (8, 0x8)], 64, .core, .domain, [PMC_CORE_CNT_COUNT], [], 0⟩

def PMC_BLK_SEL_SEL : Fld := ⟨19, 2, .rw, 0⟩
def PMC_BLK_SEL_EN : Fld := ⟨31, 31, .rw, 0⟩
/-- spec/20 R405. -/
def PMC_BLK_SEL : Reg := ⟨"PMC_BLK_SEL", 0x840000, [(64, 0x40), (4, 0x4)], 32, .block, .domain, [PMC_BLK_SEL_SEL, PMC_BLK_SEL_EN], [], 0⟩

def PMC_BLK_CNT_COUNT : Fld := ⟨63, 0, .rw, 0⟩
/-- spec/20 R405. -/
def PMC_BLK_CNT : Reg := ⟨"PMC_BLK_CNT", 0x840020, [(64, 0x40), (4, 0x8)], 64, .block, .domain, [PMC_BLK_CNT_COUNT], [], 0⟩

def regsSec : List Reg := [SEC_PART_ID, SEC_BOOT_STATUS, SEC_STRAPS, SEC_FW_INFO, SEC_RCV_BASE, SEC_RCV_GO, SEC_ATT_CTRL, SEC_EXT_DATA, SEC_EXT_GO, SEC_LOG_STATUS]

def regsPwr : List Reg := [PWR_AVS_CFG, PWR_AVS_BUS, PWR_PACE_STATUS, PWR_PACE_MON, PWR_DOM_CTL, PWR_DOM_STATUS, PWR_REF_BUDGET, PWR_REF_CFG, PWR_REF_STATUS, PWR_REF_REFUSED, PWR_REF_CLASS, PWR_RESET, PWR_RST_CAUSE, PWR_DOWN_ACC, PWR_DOWN_CNT]

def regsAdm : List Reg := [ADM_ISSUED, ADM_GRANT, ADM_QUEUE]

def regsTmb : List Reg := [TMB_TIME, TMB_TIME_FRAC, TMB_RATE, TMB_STEP, TMB_CTRL, TMB_STATUS, TMB_PPS_STAMP, TMB_TSF_OFF]

def regsKck : List Reg := [KCK_AREA, KCK_SET, KCK_SET1]

def regsHif : List Reg := [HIF_BAR2_BASE, HIF_EVT_CFG, HIF_JRN_TOTAL, HIF_JRN_LOST, HIF_QP_CFG, HIF_QP_SQ_BASE, HIF_QP_CQ_BASE, HIF_QP_SEQ_INIT, HIF_QP_SEQ, HIF_QP_STATUS, HIF_QP_IRQ, HIF_QP_SQDB, HIF_QP_CQDB, HIF_MSIX_ADDR, HIF_MSIX_DATA, HIF_MSIX_CTRL, HIF_MSIX_PBA]

def regsDrk : List Reg := [DRK_CTL, DRK_BENCHED_LO, DRK_BENCHED_HI, DRK_BENCH_REL, DRK_BENCH_STATUS, DRK_DROP_NOENT, DRK_DROP_DOWN, DRK_DROP_FAULT, DRK_END_FREED, DRK_CORE_STATE]

def regsScb : List Reg := [SCB_CTL, SCB_STATUS, SCB_BUF, SCB_HEAD, SCB_TAIL, SCB_STOP, SCB_DIVERGE, SCB_SUP_BUF, SCB_SUP_HEAD, SCB_SUP_TAIL, SCB_EVT_TOTAL, SCB_EVT_ACK]

def regsPmc : List Reg := [PMC_CTL, PMC_TAG_CFG, PMC_TAG_RING, PMC_TAG_HEAD, PMC_TAG_TAIL, PMC_TAG_LOST, PMC_CORE_TICK, PMC_CORE_CFG, PMC_CORE_CNT, PMC_BLK_SEL, PMC_BLK_CNT]

end Sys2Proof.Machine
end

