-- ==== Sys2Proof/Machine/RegsWired.lean ====
section
/-! DEFINITION. The registers of blocks ETH, SKM, TMG, CPH, MEM, DRC, FAB, BND: one constant for each register family and one for each of its fields,
with the offset, width, domain, reset source, access type and reset value of the spec's register tables. -/

namespace Sys2Proof.Machine

def ETH_MODE_MODE : Fld := ⟨1, 0, .rw, 0⟩
def ETH_MODE_SPEN : Fld := ⟨7, 4, .rw, 0⟩
def ETH_MODE_MEDIA : Fld := ⟨8, 8, .rw, 0⟩
def ETH_MODE_AN_EN : Fld := ⟨9, 9, .rw, 1⟩
/-- spec/11 R253. -/
def ETH_MODE : Reg := ⟨"ETH_MODE", 0x2000000, [(2, 0x100000)], 32, .fixed .wired, .domain, [ETH_MODE_MODE, ETH_MODE_SPEN, ETH_MODE_MEDIA, ETH_MODE_AN_EN], [], 0⟩

def ETH_SP_CFG_MAXLEN : Fld := ⟨13, 0, .rw, 0x5ee⟩
def ETH_SP_CFG_FC_MODE : Fld := ⟨15, 14, .rw, 0⟩
def ETH_SP_CFG_PROMISC : Fld := ⟨16, 16, .rw, 0⟩
def ETH_SP_CFG_MCAST_ALL : Fld := ⟨17, 17, .rw, 1⟩
def ETH_SP_CFG_BCAST : Fld := ⟨18, 18, .rw, 1⟩
def ETH_SP_CFG_FEC : Fld := ⟨21, 20, .rw, 0⟩
/-- spec/11. -/
def ETH_SP_CFG : Reg := ⟨"ETH_SP_CFG", 0x2000010, [(2, 0x100000), (4, 0x10)], 32, .fixed .wired, .domain, [ETH_SP_CFG_MAXLEN, ETH_SP_CFG_FC_MODE, ETH_SP_CFG_PROMISC, ETH_SP_CFG_MCAST_ALL, ETH_SP_CFG_BCAST, ETH_SP_CFG_FEC], [], 0⟩

def ETH_SP_STATUS_LINK : Fld := ⟨0, 0, .ro, 0⟩
def ETH_SP_STATUS_DOWN_SEEN : Fld := ⟨1, 1, .w1c, 0⟩
def ETH_SP_STATUS_PAUSED : Fld := ⟨15, 8, .ro, 0⟩
def ETH_SP_STATUS_STORM : Fld := ⟨23, 16, .ro, 0⟩
/-- spec/11. -/
def ETH_SP_STATUS : Reg := ⟨"ETH_SP_STATUS", 0x2000014, [(2, 0x100000), (4, 0x10)], 32, .fixed .wired, .domain, [ETH_SP_STATUS_LINK, ETH_SP_STATUS_DOWN_SEEN, ETH_SP_STATUS_PAUSED, ETH_SP_STATUS_STORM], [], 0⟩

def ETH_SP_WD_WD_TIME : Fld := ⟨15, 0, .rw, 0x2710⟩
def ETH_SP_WD_WD_REST : Fld := ⟨31, 16, .rw, 0x3e8⟩
def ETH_SP_WD_WD_EN : Fld := ⟨32, 32, .rw, 1⟩
def ETH_SP_WD_WD_ACTION : Fld := ⟨33, 33, .rw, 0⟩
def ETH_SP_WD_XOFF_QUANTA : Fld := ⟨63, 48, .rw, 0xffff⟩
/-- spec/11 R262. -/
def ETH_SP_WD : Reg := ⟨"ETH_SP_WD", 0x2000080, [(2, 0x100000), (4, 0x8)], 64, .fixed .wired, .domain, [ETH_SP_WD_WD_TIME, ETH_SP_WD_WD_REST, ETH_SP_WD_WD_EN, ETH_SP_WD_WD_ACTION, ETH_SP_WD_XOFF_QUANTA], [], 0⟩

def ETH_UCAST_ADDR : Fld := ⟨47, 0, .rw, 0⟩
def ETH_UCAST_SPMASK : Fld := ⟨51, 48, .rw, 0xf⟩
def ETH_UCAST_VALID : Fld := ⟨63, 63, .rw, 0⟩
/-- spec/11 R256. -/
def ETH_UCAST : Reg := ⟨"ETH_UCAST", 0x2000100, [(2, 0x100000), (16, 0x8)], 64, .fixed .wired, .domain, [ETH_UCAST_ADDR, ETH_UCAST_SPMASK, ETH_UCAST_VALID], [], 0⟩

def ETH_RXDEF_RING : Fld := ⟨3, 0, .rw, 0⟩
/-- spec/11 R257. -/
def ETH_RXDEF : Reg := ⟨"ETH_RXDEF", 0x2000200, [(2, 0x100000)], 32, .fixed .wired, .domain, [ETH_RXDEF_RING], [], 0⟩

def ETH_TPID_EXTRA : Fld := ⟨15, 0, .rw, 0x9100⟩
/-- spec/11 R257. -/
def ETH_TPID : Reg := ⟨"ETH_TPID", 0x2000204, [(2, 0x100000)], 32, .fixed .wired, .domain, [ETH_TPID_EXTRA], [], 0⟩

def ETH_RXCV_START : Fld := ⟨13, 0, .rw, 0xe⟩
def ETH_RXCV_KIND : Fld := ⟨15, 14, .rw, 1⟩
/-- spec/11 R265. -/
def ETH_RXCV : Reg := ⟨"ETH_RXCV", 0x2000208, [(2, 0x100000)], 32, .fixed .wired, .domain, [ETH_RXCV_START, ETH_RXCV_KIND], [], 0⟩

def ETH_FLT0_ETYPE : Fld := ⟨15, 0, .rw, 0⟩
def ETH_FLT0_OVID : Fld := ⟨27, 16, .rw, 0⟩
def ETH_FLT0_IVID : Fld := ⟨39, 28, .rw, 0⟩
def ETH_FLT0_PCP : Fld := ⟨42, 40, .rw, 0⟩
def ETH_FLT0_SPMASK : Fld := ⟨47, 44, .rw, 0xf⟩
/-- spec/11 R257. -/
def ETH_FLT0 : Reg := ⟨"ETH_FLT0", 0x2010000, [(2, 0x100000), (64, 0x10)], 64, .fixed .wired, .domain, [ETH_FLT0_ETYPE, ETH_FLT0_OVID, ETH_FLT0_IVID, ETH_FLT0_PCP, ETH_FLT0_SPMASK], [], 0⟩

def ETH_FLT1_TESTS : Fld := ⟨3, 0, .rw, 0⟩
def ETH_FLT1_TAGS : Fld := ⟨5, 4, .rw, 0⟩
def ETH_FLT1_RING : Fld := ⟨11, 8, .rw, 0⟩
def ETH_FLT1_DROP : Fld := ⟨12, 12, .rw, 0⟩
def ETH_FLT1_VALID : Fld := ⟨13, 13, .rw, 0⟩
/-- spec/11 R257. -/
def ETH_FLT1 : Reg := ⟨"ETH_FLT1", 0x2010008, [(2, 0x100000), (64, 0x10)], 32, .fixed .wired, .domain, [ETH_FLT1_TESTS, ETH_FLT1_TAGS, ETH_FLT1_RING, ETH_FLT1_DROP, ETH_FLT1_VALID], [], 0⟩

def ETH_RING_CFG_PAILS : Fld := ⟨15, 0, .rw, 0x400⟩
def ETH_RING_CFG_DESC : Fld := ⟨27, 16, .rw, 0x100⟩
def ETH_RING_CFG_HIGH : Fld := ⟨28, 28, .rw, 0⟩
def ETH_RING_CFG_XOFF : Fld := ⟨47, 32, .rw, 0x300⟩
def ETH_RING_CFG_XON : Fld := ⟨63, 48, .rw, 0x200⟩
/-- spec/11 R259. -/
def ETH_RING_CFG : Reg := ⟨"ETH_RING_CFG", 0x2020000, [(2, 0x100000), (16, 0x20)], 64, .fixed .wired, .domain, [ETH_RING_CFG_PAILS, ETH_RING_CFG_DESC, ETH_RING_CFG_HIGH, ETH_RING_CFG_XOFF, ETH_RING_CFG_XON], [], 0⟩

def ETH_RING_FC_PRIO_MASK : Fld := ⟨7, 0, .rw, 0⟩
def ETH_RING_FC_EN : Fld := ⟨8, 8, .rw, 0⟩
/-- spec/11 R259. -/
def ETH_RING_FC : Reg := ⟨"ETH_RING_FC", 0x2020008, [(2, 0x100000), (16, 0x20)], 32, .fixed .wired, .domain, [ETH_RING_FC_PRIO_MASK, ETH_RING_FC_EN], [], 0⟩

def ETH_RING_STATE_PAILS_USED : Fld := ⟨15, 0, .ro, 0⟩
def ETH_RING_STATE_FRAMES : Fld := ⟨27, 16, .ro, 0⟩
/-- spec/11 R259. -/
def ETH_RING_STATE : Reg := ⟨"ETH_RING_STATE", 0x2020010, [(2, 0x100000), (16, 0x20)], 32, .fixed .wired, .domain, [ETH_RING_STATE_PAILS_USED, ETH_RING_STATE_FRAMES], [], 0⟩

def ETH_TXTS_STATUS_OCC : Fld := ⟨6, 0, .ro, 0⟩
def ETH_TXTS_STATUS_OVF_SEEN : Fld := ⟨8, 8, .w1c, 0⟩
/-- spec/02 R58. -/
def ETH_TXTS_STATUS : Reg := ⟨"ETH_TXTS_STATUS", 0x2030000, [(2, 0x100000)], 32, .fixed .wired, .domain, [ETH_TXTS_STATUS_OCC, ETH_TXTS_STATUS_OVF_SEEN], [], 0⟩

def ETH_TXTS_OVF_COUNT : Fld := ⟨31, 0, .rc, 0⟩
/-- spec/02 R58. -/
def ETH_TXTS_OVF : Reg := ⟨"ETH_TXTS_OVF", 0x2030004, [(2, 0x100000)], 32, .fixed .wired, .domain, [ETH_TXTS_OVF_COUNT], [], 0⟩

def ETH_TXTS_POP_TAG : Fld := ⟨15, 0, .rc, 0⟩
def ETH_TXTS_POP_FRAC : Fld := ⟨31, 16, .rc, 0⟩
def ETH_TXTS_POP_SUBPORT : Fld := ⟨33, 32, .rc, 0⟩
def ETH_TXTS_POP_VALID : Fld := ⟨34, 34, .rc, 0⟩
/-- spec/11 R267. -/
def ETH_TXTS_POP : Reg := ⟨"ETH_TXTS_POP", 0x2030008, [(2, 0x100000)], 64, .fixed .wired, .domain, [ETH_TXTS_POP_TAG, ETH_TXTS_POP_FRAC, ETH_TXTS_POP_SUBPORT, ETH_TXTS_POP_VALID], [], 0⟩

def ETH_TXTS_POP_NS_NS : Fld := ⟨63, 0, .ro, 0⟩
/-- spec/11 R267. -/
def ETH_TXTS_POP_NS : Reg := ⟨"ETH_TXTS_POP_NS", 0x2030010, [(2, 0x100000)], 64, .fixed .wired, .domain, [ETH_TXTS_POP_NS_NS], [], 0⟩

def ETH_RX_FRAMES_COUNT : Fld := ⟨31, 0, .rc, 0⟩
/-- spec/11 R268. -/
def ETH_RX_FRAMES : Reg := ⟨"ETH_RX_FRAMES", 0x2050000, [(2, 0x100000), (4, 0x100)], 32, .fixed .wired, .domain, [ETH_RX_FRAMES_COUNT], [], 0⟩

def ETH_RX_FCS_BAD_COUNT : Fld := ⟨31, 0, .rc, 0⟩
/-- spec/11 R268. -/
def ETH_RX_FCS_BAD : Reg := ⟨"ETH_RX_FCS_BAD", 0x2050004, [(2, 0x100000), (4, 0x100)], 32, .fixed .wired, .domain, [ETH_RX_FCS_BAD_COUNT], [], 0⟩

def ETH_RX_RUNT_COUNT : Fld := ⟨31, 0, .rc, 0⟩
/-- spec/11 R268. -/
def ETH_RX_RUNT : Reg := ⟨"ETH_RX_RUNT", 0x2050008, [(2, 0x100000), (4, 0x100)], 32, .fixed .wired, .domain, [ETH_RX_RUNT_COUNT], [], 0⟩

def ETH_RX_OVERSIZE_COUNT : Fld := ⟨31, 0, .rc, 0⟩
/-- spec/11 R268. -/
def ETH_RX_OVERSIZE : Reg := ⟨"ETH_RX_OVERSIZE", 0x205000C, [(2, 0x100000), (4, 0x100)], 32, .fixed .wired, .domain, [ETH_RX_OVERSIZE_COUNT], [], 0⟩

def ETH_RX_FILTERED_COUNT : Fld := ⟨31, 0, .rc, 0⟩
/-- spec/11 R268. -/
def ETH_RX_FILTERED : Reg := ⟨"ETH_RX_FILTERED", 0x2050010, [(2, 0x100000), (4, 0x100)], 32, .fixed .wired, .domain, [ETH_RX_FILTERED_COUNT], [], 0⟩

def ETH_RX_FLT_DROP_COUNT : Fld := ⟨31, 0, .rc, 0⟩
/-- spec/11 R268. -/
def ETH_RX_FLT_DROP : Reg := ⟨"ETH_RX_FLT_DROP", 0x2050014, [(2, 0x100000), (4, 0x100)], 32, .fixed .wired, .domain, [ETH_RX_FLT_DROP_COUNT], [], 0⟩

def ETH_RX_NOBUF_COUNT : Fld := ⟨31, 0, .rc, 0⟩
/-- spec/11 R268. -/
def ETH_RX_NOBUF : Reg := ⟨"ETH_RX_NOBUF", 0x2050018, [(2, 0x100000), (4, 0x100)], 32, .fixed .wired, .domain, [ETH_RX_NOBUF_COUNT], [], 0⟩

def ETH_RX_NOBUF_MID_COUNT : Fld := ⟨31, 0, .rc, 0⟩
/-- spec/11 R268. -/
def ETH_RX_NOBUF_MID : Reg := ⟨"ETH_RX_NOBUF_MID", 0x205001C, [(2, 0x100000), (4, 0x100)], 32, .fixed .wired, .domain, [ETH_RX_NOBUF_MID_COUNT], [], 0⟩

def ETH_RX_OVERRUN_COUNT : Fld := ⟨31, 0, .rc, 0⟩
/-- spec/11 R268. -/
def ETH_RX_OVERRUN : Reg := ⟨"ETH_RX_OVERRUN", 0x2050020, [(2, 0x100000), (4, 0x100)], 32, .fixed .wired, .domain, [ETH_RX_OVERRUN_COUNT], [], 0⟩

def ETH_RX_PAUSE_COUNT : Fld := ⟨31, 0, .rc, 0⟩
/-- spec/11 R268. -/
def ETH_RX_PAUSE : Reg := ⟨"ETH_RX_PAUSE", 0x2050024, [(2, 0x100000), (4, 0x100)], 32, .fixed .wired, .domain, [ETH_RX_PAUSE_COUNT], [], 0⟩

def ETH_TX_FRAMES_COUNT : Fld := ⟨31, 0, .rc, 0⟩
/-- spec/11 R268. -/
def ETH_TX_FRAMES : Reg := ⟨"ETH_TX_FRAMES", 0x2050028, [(2, 0x100000), (4, 0x100)], 32, .fixed .wired, .domain, [ETH_TX_FRAMES_COUNT], [], 0⟩

def ETH_TX_OVERSIZE_COUNT : Fld := ⟨31, 0, .rc, 0⟩
/-- spec/11 R268. -/
def ETH_TX_OVERSIZE : Reg := ⟨"ETH_TX_OVERSIZE", 0x205002C, [(2, 0x100000), (4, 0x100)], 32, .fixed .wired, .domain, [ETH_TX_OVERSIZE_COUNT], [], 0⟩

def ETH_TX_CTL_BAD_COUNT : Fld := ⟨31, 0, .rc, 0⟩
/-- spec/11 R268. -/
def ETH_TX_CTL_BAD : Reg := ⟨"ETH_TX_CTL_BAD", 0x2050030, [(2, 0x100000), (4, 0x100)], 32, .fixed .wired, .domain, [ETH_TX_CTL_BAD_COUNT], [], 0⟩

def ETH_TX_UNDERRUN_COUNT : Fld := ⟨31, 0, .rc, 0⟩
/-- spec/11 R268. -/
def ETH_TX_UNDERRUN : Reg := ⟨"ETH_TX_UNDERRUN", 0x2050034, [(2, 0x100000), (4, 0x100)], 32, .fixed .wired, .domain, [ETH_TX_UNDERRUN_COUNT], [], 0⟩

def ETH_TX_PAUSE_SENT_COUNT : Fld := ⟨31, 0, .rc, 0⟩
/-- spec/11 R268. -/
def ETH_TX_PAUSE_SENT : Reg := ⟨"ETH_TX_PAUSE_SENT", 0x2050038, [(2, 0x100000), (4, 0x100)], 32, .fixed .wired, .domain, [ETH_TX_PAUSE_SENT_COUNT], [], 0⟩

def ETH_WD_TRIPS_COUNT : Fld := ⟨31, 0, .rc, 0⟩
/-- spec/11 R268. -/
def ETH_WD_TRIPS : Reg := ⟨"ETH_WD_TRIPS", 0x205003C, [(2, 0x100000), (4, 0x100)], 32, .fixed .wired, .domain, [ETH_WD_TRIPS_COUNT], [], 0⟩

def ETH_WD_DROP_COUNT : Fld := ⟨31, 0, .rc, 0⟩
/-- spec/11 R268. -/
def ETH_WD_DROP : Reg := ⟨"ETH_WD_DROP", 0x2050040, [(2, 0x100000), (4, 0x100)], 32, .fixed .wired, .domain, [ETH_WD_DROP_COUNT], [], 0⟩

def ETH_RX_ABORT_COUNT : Fld := ⟨31, 0, .rc, 0⟩
/-- spec/11 R268. -/
def ETH_RX_ABORT : Reg := ⟨"ETH_RX_ABORT", 0x2050044, [(2, 0x100000), (4, 0x100)], 32, .fixed .wired, .domain, [ETH_RX_ABORT_COUNT], [], 0⟩

def ETH_TX_ABORT_COUNT : Fld := ⟨31, 0, .rc, 0⟩
/-- spec/11 R268. -/
def ETH_TX_ABORT : Reg := ⟨"ETH_TX_ABORT", 0x2050048, [(2, 0x100000), (4, 0x100)], 32, .fixed .wired, .domain, [ETH_TX_ABORT_COUNT], [], 0⟩

def SKM_EPOCH_CUR : Fld := ⟨7, 0, .ro, 1⟩
def SKM_EPOCH_CUR_SLOT : Fld := ⟨8, 8, .ro, 0⟩
def SKM_EPOCH_OLD : Fld := ⟨23, 16, .ro, 0⟩
def SKM_EPOCH_OLD_COUNT : Fld := ⟨63, 32, .ro, 0⟩
/-- spec/12 R288. -/
def SKM_EPOCH : Reg := ⟨"SKM_EPOCH", 0x2200000, [], 64, .fixed .wired, .domain, [SKM_EPOCH_CUR, SKM_EPOCH_CUR_SLOT, SKM_EPOCH_OLD, SKM_EPOCH_OLD_COUNT], [], 0⟩

def SKM_HASH_CFG_IP4_L4 : Fld := ⟨0, 0, .rw, 1⟩
def SKM_HASH_CFG_IP6_L4 : Fld := ⟨1, 1, .rw, 1⟩
def SKM_HASH_CFG_L2 : Fld := ⟨2, 2, .rw, 1⟩
/-- spec/12 R283. -/
def SKM_HASH_CFG : Reg := ⟨"SKM_HASH_CFG", 0x2200008, [], 32, .fixed .wired, .domain, [SKM_HASH_CFG_IP4_L4, SKM_HASH_CFG_IP6_L4, SKM_HASH_CFG_L2], [], 0⟩

def SKM_HKEY_KEY : Fld := ⟨31, 0, .rw, 0⟩
/-- spec/12 R284. -/
def SKM_HKEY : Reg := ⟨"SKM_HKEY", 0x2200040, [(17, 0x4)], 32, .fixed .wired, .domain, [SKM_HKEY_KEY], [], 0⟩

def SKM_CNT_FIRST_PASSES_COUNT : Fld := ⟨31, 0, .rc, 0⟩
/-- spec/12 R293. -/
def SKM_CNT_FIRST_PASSES : Reg := ⟨"SKM_CNT_FIRST_PASSES", 0x2200100, [], 32, .fixed .wired, .domain, [SKM_CNT_FIRST_PASSES_COUNT], [], 0⟩

def SKM_CNT_CHURN_PASSES_COUNT : Fld := ⟨31, 0, .rc, 0⟩
/-- spec/12 R293. -/
def SKM_CNT_CHURN_PASSES : Reg := ⟨"SKM_CNT_CHURN_PASSES", 0x2200104, [], 32, .fixed .wired, .domain, [SKM_CNT_CHURN_PASSES_COUNT], [], 0⟩

def SKM_CNT_DEPTH_COUNT : Fld := ⟨31, 0, .rc, 0⟩
/-- spec/12 R293. -/
def SKM_CNT_DEPTH : Reg := ⟨"SKM_CNT_DEPTH", 0x2200108, [], 32, .fixed .wired, .domain, [SKM_CNT_DEPTH_COUNT], [], 0⟩

def SKM_CNT_MALFORMED_COUNT : Fld := ⟨31, 0, .rc, 0⟩
/-- spec/12 R293. -/
def SKM_CNT_MALFORMED : Reg := ⟨"SKM_CNT_MALFORMED", 0x220010C, [], 32, .fixed .wired, .domain, [SKM_CNT_MALFORMED_COUNT], [], 0⟩

def SKM_CNT_DEPTH_DROP_COUNT : Fld := ⟨31, 0, .rc, 0⟩
/-- spec/12 R293. -/
def SKM_CNT_DEPTH_DROP : Reg := ⟨"SKM_CNT_DEPTH_DROP", 0x2200110, [], 32, .fixed .wired, .domain, [SKM_CNT_DEPTH_DROP_COUNT], [], 0⟩

def SKM_CNT_MAL_DROP_COUNT : Fld := ⟨31, 0, .rc, 0⟩
/-- spec/12 R293. -/
def SKM_CNT_MAL_DROP : Reg := ⟨"SKM_CNT_MAL_DROP", 0x2200114, [], 32, .fixed .wired, .domain, [SKM_CNT_MAL_DROP_COUNT], [], 0⟩

def SKM_CNT_TREE_BAD_COUNT : Fld := ⟨31, 0, .rc, 0⟩
/-- spec/12 R293. -/
def SKM_CNT_TREE_BAD : Reg := ⟨"SKM_CNT_TREE_BAD", 0x2200118, [], 32, .fixed .wired, .domain, [SKM_CNT_TREE_BAD_COUNT], [], 0⟩

def SKM_CNT_TREE_DEEP_COUNT : Fld := ⟨31, 0, .rc, 0⟩
/-- spec/12 R293. -/
def SKM_CNT_TREE_DEEP : Reg := ⟨"SKM_CNT_TREE_DEEP", 0x220011C, [], 32, .fixed .wired, .domain, [SKM_CNT_TREE_DEEP_COUNT], [], 0⟩

def SKM_INDIR_CTX : Fld := ⟨8, 0, .rw, 0⟩
/-- spec/12 R286. -/
def SKM_INDIR : Reg := ⟨"SKM_INDIR", 0x2210000, [(512, 0x4)], 32, .fixed .wired, .domain, [SKM_INDIR_CTX], [], 0⟩

def SKM_SET_PARSE_VXLAN_PORT : Fld := ⟨15, 0, .ro, 0x12b5⟩
def SKM_SET_PARSE_CAPWAP_PORT : Fld := ⟨31, 16, .ro, 0x147e⟩
def SKM_SET_PARSE_TPID3 : Fld := ⟨47, 32, .ro, 0x9100⟩
def SKM_SET_PARSE_VXLAN_EN : Fld := ⟨48, 48, .ro, 1⟩
def SKM_SET_PARSE_CAPWAP_EN : Fld := ⟨49, 49, .ro, 1⟩
/-- spec/12 R288. -/
def SKM_SET_PARSE : Reg := ⟨"SKM_SET_PARSE", 0x2220000, [(2, 0x1000)], 64, .fixed .wired, .domain, [SKM_SET_PARSE_VXLAN_PORT, SKM_SET_PARSE_CAPWAP_PORT, SKM_SET_PARSE_TPID3, SKM_SET_PARSE_VXLAN_EN, SKM_SET_PARSE_CAPWAP_EN], [], 0⟩

def SKM_SET_CLASS_DEPTH_ACT : Fld := ⟨1, 0, .ro, 0⟩
def SKM_SET_CLASS_MAL_ACT : Fld := ⟨3, 2, .ro, 2⟩
def SKM_SET_CLASS_AUTO_TREE : Fld := ⟨5, 4, .ro, 0⟩
def SKM_SET_CLASS_AUTO_EN : Fld := ⟨6, 6, .ro, 0⟩
def SKM_SET_CLASS_DEPTH_CTX : Fld := ⟨24, 16, .ro, 0⟩
def SKM_SET_CLASS_MAL_CTX : Fld := ⟨40, 32, .ro, 0⟩
/-- spec/12 R288. -/
def SKM_SET_CLASS : Reg := ⟨"SKM_SET_CLASS", 0x2220008, [(2, 0x1000)], 64, .fixed .wired, .domain, [SKM_SET_CLASS_DEPTH_ACT, SKM_SET_CLASS_MAL_ACT, SKM_SET_CLASS_AUTO_TREE, SKM_SET_CLASS_AUTO_EN, SKM_SET_CLASS_DEPTH_CTX, SKM_SET_CLASS_MAL_CTX], [], 0⟩

def SKM_SET_KSEG_SEG : Fld := ⟨63, 0, .ro, 0⟩
/-- spec/12 R288. -/
def SKM_SET_KSEG : Reg := ⟨"SKM_SET_KSEG", 0x2220010, [(2, 0x1000), (2, 0x8)], 64, .fixed .wired, .domain, [SKM_SET_KSEG_SEG], [], 0⟩

def SKM_SET_TREE0_NODE_BASE : Fld := ⟨39, 5, .ro, 0⟩
def SKM_SET_TREE0_KLEN : Fld := ⟨42, 40, .ro, 0⟩
/-- spec/12 R288. -/
def SKM_SET_TREE0 : Reg := ⟨"SKM_SET_TREE0", 0x2220100, [(2, 0x1000), (4, 0x10)], 64, .fixed .wired, .domain, [SKM_SET_TREE0_NODE_BASE, SKM_SET_TREE0_KLEN], [], 0⟩

def SKM_SET_TREE1_RULE_BASE : Fld := ⟨39, 5, .ro, 0⟩
def SKM_SET_TREE1_NRULES : Fld := ⟨56, 40, .ro, 0⟩
/-- spec/12 R288. -/
def SKM_SET_TREE1 : Reg := ⟨"SKM_SET_TREE1", 0x2220108, [(2, 0x1000), (4, 0x10)], 64, .fixed .wired, .domain, [SKM_SET_TREE1_RULE_BASE, SKM_SET_TREE1_NRULES], [], 0⟩

def SKM_NEXT_PARSE_VXLAN_PORT : Fld := ⟨15, 0, .wo, 0⟩
def SKM_NEXT_PARSE_CAPWAP_PORT : Fld := ⟨31, 16, .wo, 0⟩
def SKM_NEXT_PARSE_TPID3 : Fld := ⟨47, 32, .wo, 0⟩
def SKM_NEXT_PARSE_VXLAN_EN : Fld := ⟨48, 48, .wo, 0⟩
def SKM_NEXT_PARSE_CAPWAP_EN : Fld := ⟨49, 49, .wo, 0⟩
/-- spec/12 R289. -/
def SKM_NEXT_PARSE : Reg := ⟨"SKM_NEXT_PARSE", 0x2230000, [], 64, .fixed .wired, .domain, [SKM_NEXT_PARSE_VXLAN_PORT, SKM_NEXT_PARSE_CAPWAP_PORT, SKM_NEXT_PARSE_TPID3, SKM_NEXT_PARSE_VXLAN_EN, SKM_NEXT_PARSE_CAPWAP_EN], [], 0⟩

def SKM_NEXT_CLASS_DEPTH_ACT : Fld := ⟨1, 0, .wo, 0⟩
def SKM_NEXT_CLASS_MAL_ACT : Fld := ⟨3, 2, .wo, 0⟩
def SKM_NEXT_CLASS_AUTO_TREE : Fld := ⟨5, 4, .wo, 0⟩
def SKM_NEXT_CLASS_AUTO_EN : Fld := ⟨6, 6, .wo, 0⟩
def SKM_NEXT_CLASS_DEPTH_CTX : Fld := ⟨24, 16, .wo, 0⟩
def SKM_NEXT_CLASS_MAL_CTX : Fld := ⟨40, 32, .wo, 0⟩
/-- spec/12 R289. -/
def SKM_NEXT_CLASS : Reg := ⟨"SKM_NEXT_CLASS", 0x2230008, [], 64, .fixed .wired, .domain, [SKM_NEXT_CLASS_DEPTH_ACT, SKM_NEXT_CLASS_MAL_ACT, SKM_NEXT_CLASS_AUTO_TREE, SKM_NEXT_CLASS_AUTO_EN, SKM_NEXT_CLASS_DEPTH_CTX, SKM_NEXT_CLASS_MAL_CTX], [], 0⟩

def SKM_NEXT_KSEG_SEG : Fld := ⟨63, 0, .wo, 0⟩
/-- spec/12 R289. -/
def SKM_NEXT_KSEG : Reg := ⟨"SKM_NEXT_KSEG", 0x2230010, [(2, 0x8)], 64, .fixed .wired, .domain, [SKM_NEXT_KSEG_SEG], [], 0⟩

def SKM_NEXT_TREE0_NODE_BASE : Fld := ⟨39, 5, .wo, 0⟩
def SKM_NEXT_TREE0_KLEN : Fld := ⟨42, 40, .wo, 0⟩
/-- spec/12 R289. -/
def SKM_NEXT_TREE0 : Reg := ⟨"SKM_NEXT_TREE0", 0x2230100, [(4, 0x10)], 64, .fixed .wired, .domain, [SKM_NEXT_TREE0_NODE_BASE, SKM_NEXT_TREE0_KLEN], [], 0⟩

def SKM_NEXT_TREE1_RULE_BASE : Fld := ⟨39, 5, .wo, 0⟩
def SKM_NEXT_TREE1_NRULES : Fld := ⟨56, 40, .wo, 0⟩
/-- spec/12 R289. -/
def SKM_NEXT_TREE1 : Reg := ⟨"SKM_NEXT_TREE1", 0x2230108, [(4, 0x10)], 64, .fixed .wired, .domain, [SKM_NEXT_TREE1_RULE_BASE, SKM_NEXT_TREE1_NRULES], [], 0⟩

def TMG_CTL_STRICT_HOST : Fld := ⟨0, 0, .rw, 1⟩
def TMG_CTL_STRICT_AUTO : Fld := ⟨1, 1, .ro, 0⟩
def TMG_CTL_STRICT : Fld := ⟨2, 2, .ro, 1⟩
def TMG_CTL_PAIL_FLOOR : Fld := ⟨31, 16, .rw, 0x400⟩
/-- spec/13 R302. -/
def TMG_CTL : Reg := ⟨"TMG_CTL", 0x2300000, [], 32, .fixed .wired, .domain, [TMG_CTL_STRICT_HOST, TMG_CTL_STRICT_AUTO, TMG_CTL_STRICT, TMG_CTL_PAIL_FLOOR], [], 0⟩

def TMG_ENQ_FULL_COUNT : Fld := ⟨31, 0, .rc, 0⟩
/-- spec/13 R312. -/
def TMG_ENQ_FULL : Reg := ⟨"TMG_ENQ_FULL", 0x2300100, [], 32, .fixed .wired, .domain, [TMG_ENQ_FULL_COUNT], [], 0⟩

def TMG_POL_DROP_COUNT : Fld := ⟨31, 0, .rc, 0⟩
/-- spec/13 R312. -/
def TMG_POL_DROP : Reg := ⟨"TMG_POL_DROP", 0x2300104, [], 32, .fixed .wired, .domain, [TMG_POL_DROP_COUNT], [], 0⟩

def TMG_STRICT_DROP_COUNT : Fld := ⟨31, 0, .rc, 0⟩
/-- spec/13 R312. -/
def TMG_STRICT_DROP : Reg := ⟨"TMG_STRICT_DROP", 0x2300108, [], 32, .fixed .wired, .domain, [TMG_STRICT_DROP_COUNT], [], 0⟩

def TMG_AGED_COUNT : Fld := ⟨31, 0, .rc, 0⟩
/-- spec/13 R312. -/
def TMG_AGED : Reg := ⟨"TMG_AGED", 0x230010C, [], 32, .fixed .wired, .domain, [TMG_AGED_COUNT], [], 0⟩

def TMG_GATE_NOFIT_COUNT : Fld := ⟨31, 0, .rc, 0⟩
/-- spec/13 R312. -/
def TMG_GATE_NOFIT : Reg := ⟨"TMG_GATE_NOFIT", 0x2300110, [], 32, .fixed .wired, .domain, [TMG_GATE_NOFIT_COUNT], [], 0⟩

def TMG_WHEEL_LATE_COUNT : Fld := ⟨31, 0, .rc, 0⟩
/-- spec/13 R312. -/
def TMG_WHEEL_LATE : Reg := ⟨"TMG_WHEEL_LATE", 0x2300114, [], 32, .fixed .wired, .domain, [TMG_WHEEL_LATE_COUNT], [], 0⟩

def TMG_SP_SHAPE_RATE : Fld := ⟨31, 0, .rw, 0x5f5e100⟩
def TMG_SP_SHAPE_BURST : Fld := ⟨55, 32, .rw, 0x3000⟩
def TMG_SP_SHAPE_SH_EN : Fld := ⟨56, 56, .rw, 0⟩
/-- spec/13 R303. -/
def TMG_SP_SHAPE : Reg := ⟨"TMG_SP_SHAPE", 0x2301000, [(8, 0x40)], 64, .fixed .wired, .domain, [TMG_SP_SHAPE_RATE, TMG_SP_SHAPE_BURST, TMG_SP_SHAPE_SH_EN], [], 0⟩

def TMG_SP_TOK_TOKENS : Fld := ⟨31, 0, .ro, 0x3000⟩
/-- spec/13 R303. -/
def TMG_SP_TOK : Reg := ⟨"TMG_SP_TOK", 0x2301008, [(8, 0x40)], 64, .fixed .wired, .domain, [TMG_SP_TOK_TOKENS], [], 0⟩

def TMG_SP_GATE_GATE_EN : Fld := ⟨0, 0, .ro, 0⟩
def TMG_SP_GATE_GB_MODE : Fld := ⟨1, 1, .rw, 1⟩
def TMG_SP_GATE_ACTIVE_BANK : Fld := ⟨2, 2, .ro, 0⟩
def TMG_SP_GATE_PENDING : Fld := ⟨3, 3, .ro, 0⟩
def TMG_SP_GATE_OPEN : Fld := ⟨15, 8, .ro, 0xff⟩
def TMG_SP_GATE_GUARD : Fld := ⟨31, 16, .ro, 0⟩
/-- spec/13 R308. -/
def TMG_SP_GATE : Reg := ⟨"TMG_SP_GATE", 0x2301010, [(8, 0x40)], 32, .fixed .wired, .domain, [TMG_SP_GATE_GATE_EN, TMG_SP_GATE_GB_MODE, TMG_SP_GATE_ACTIVE_BANK, TMG_SP_GATE_PENDING, TMG_SP_GATE_OPEN, TMG_SP_GATE_GUARD], [], 0⟩

def TMG_Q_CFG_TC : Fld := ⟨2, 0, .rw, 0⟩
def TMG_Q_CFG_POLICER : Fld := ⟨15, 4, .rw, 0⟩
def TMG_Q_CFG_POL_EN : Fld := ⟨16, 16, .rw, 0⟩
def TMG_Q_CFG_LIMIT : Fld := ⟨29, 18, .rw, 0x200⟩
def TMG_Q_CFG_YLIMIT : Fld := ⟨43, 32, .rw, 0x100⟩
def TMG_Q_CFG_MAXAGE : Fld := ⟨63, 48, .rw, 0x64⟩
/-- spec/13 R296. -/
def TMG_Q_CFG : Reg := ⟨"TMG_Q_CFG", 0x2310000, [(768, 0x20)], 64, .fixed .wired, .domain, [TMG_Q_CFG_TC, TMG_Q_CFG_POLICER, TMG_Q_CFG_POL_EN, TMG_Q_CFG_LIMIT, TMG_Q_CFG_YLIMIT, TMG_Q_CFG_MAXAGE], [], 0⟩

def TMG_Q_SHAPE_RATE : Fld := ⟨31, 0, .rw, 0x5f5e100⟩
def TMG_Q_SHAPE_BURST : Fld := ⟨55, 32, .rw, 0x3000⟩
def TMG_Q_SHAPE_SH_EN : Fld := ⟨56, 56, .rw, 0⟩
def TMG_Q_SHAPE_QUANTUM : Fld := ⟨63, 58, .rw, 6⟩
/-- spec/13 R296. -/
def TMG_Q_SHAPE : Reg := ⟨"TMG_Q_SHAPE", 0x2310008, [(768, 0x20)], 64, .fixed .wired, .domain, [TMG_Q_SHAPE_RATE, TMG_Q_SHAPE_BURST, TMG_Q_SHAPE_SH_EN, TMG_Q_SHAPE_QUANTUM], [], 0⟩

def TMG_Q_STATE_FRAMES : Fld := ⟨11, 0, .ro, 0⟩
def TMG_Q_STATE_STATE : Fld := ⟨13, 12, .ro, 0⟩
def TMG_Q_STATE_BYTES : Fld := ⟨63, 32, .ro, 0⟩
/-- spec/13 R296. -/
def TMG_Q_STATE : Reg := ⟨"TMG_Q_STATE", 0x2310010, [(768, 0x20)], 64, .fixed .wired, .domain, [TMG_Q_STATE_FRAMES, TMG_Q_STATE_STATE, TMG_Q_STATE_BYTES], [], 0⟩

def TMG_Q_TOK_TOKENS : Fld := ⟨31, 0, .ro, 0x3000⟩
def TMG_Q_TOK_DEFICIT : Fld := ⟨63, 32, .ro, 0⟩
/-- spec/13 R296. -/
def TMG_Q_TOK : Reg := ⟨"TMG_Q_TOK", 0x2310018, [(768, 0x20)], 64, .fixed .wired, .domain, [TMG_Q_TOK_TOKENS, TMG_Q_TOK_DEFICIT], [], 0⟩

def TMG_GCL_HDR0_BASE : Fld := ⟨63, 0, .rw, 0⟩
/-- spec/13 R308. -/
def TMG_GCL_HDR0 : Reg := ⟨"TMG_GCL_HDR0", 0x2320000, [(8, 0x2000), (2, 0x1000)], 64, .fixed .wired, .domain, [TMG_GCL_HDR0_BASE], [], 0⟩

def TMG_GCL_HDR1_CYCLE : Fld := ⟨31, 0, .rw, 0xf4240⟩
def TMG_GCL_HDR1_LEN : Fld := ⟨40, 32, .rw, 1⟩
/-- spec/13 R308. -/
def TMG_GCL_HDR1 : Reg := ⟨"TMG_GCL_HDR1", 0x2320008, [(8, 0x2000), (2, 0x1000)], 64, .fixed .wired, .domain, [TMG_GCL_HDR1_CYCLE, TMG_GCL_HDR1_LEN], [], 0⟩

def TMG_GCL_E_GATES : Fld := ⟨7, 0, .rw, 0xff⟩
def TMG_GCL_E_INTERVAL : Fld := ⟨31, 8, .rw, 0⟩
/-- spec/13 R308. -/
def TMG_GCL_E : Reg := ⟨"TMG_GCL_E", 0x2320100, [(8, 0x2000), (2, 0x1000), (256, 0x4)], 32, .fixed .wired, .domain, [TMG_GCL_E_GATES, TMG_GCL_E_INTERVAL], [], 0⟩

def TMG_POL0_CIR : Fld := ⟨31, 0, .rw, 0⟩
def TMG_POL0_CBS : Fld := ⟨55, 32, .rw, 0x5ee⟩
def TMG_POL0_MODE : Fld := ⟨57, 56, .rw, 0⟩
def TMG_POL0_ACT_Y : Fld := ⟨58, 58, .rw, 0⟩
def TMG_POL0_ACT_R : Fld := ⟨59, 59, .rw, 0⟩
/-- spec/13 R299. -/
def TMG_POL0 : Reg := ⟨"TMG_POL0", 0x2340000, [(4096, 0x20)], 64, .fixed .wired, .domain, [TMG_POL0_CIR, TMG_POL0_CBS, TMG_POL0_MODE, TMG_POL0_ACT_Y, TMG_POL0_ACT_R], [], 0⟩

def TMG_POL1_PIR : Fld := ⟨31, 0, .rw, 0⟩
def TMG_POL1_PBS : Fld := ⟨55, 32, .rw, 0x5ee⟩
def TMG_POL1_ADJ : Fld := ⟨61, 56, .rw, 0⟩
def TMG_POL1_EN : Fld := ⟨63, 63, .rw, 0⟩
/-- spec/13 R299. -/
def TMG_POL1 : Reg := ⟨"TMG_POL1", 0x2340008, [(4096, 0x20)], 64, .fixed .wired, .domain, [TMG_POL1_PIR, TMG_POL1_PBS, TMG_POL1_ADJ, TMG_POL1_EN], [], 0⟩

def TMG_POL2_TC : Fld := ⟨31, 0, .ro, 0⟩
def TMG_POL2_TP : Fld := ⟨63, 32, .ro, 0⟩
/-- spec/13 R299. -/
def TMG_POL2 : Reg := ⟨"TMG_POL2", 0x2340010, [(4096, 0x20)], 64, .fixed .wired, .domain, [TMG_POL2_TC, TMG_POL2_TP], [], 0⟩

def TMG_POLCNT_COUNT : Fld := ⟨31, 0, .rc, 0⟩
/-- spec/13 R301. -/
def TMG_POLCNT : Reg := ⟨"TMG_POLCNT", 0x2380000, [(4096, 0x10), (3, 0x4)], 32, .fixed .wired, .domain, [TMG_POLCNT_COUNT], [], 0⟩

def CPH_BURST_THRESH : Fld := ⟨11, 0, .rw, 0x640⟩
def CPH_BURST_AMOUNT : Fld := ⟨31, 16, .rw, 0x7d0⟩
/-- spec/14 R316. -/
def CPH_BURST : Reg := ⟨"CPH_BURST", 0x2400000, [], 32, .fixed .cipher, .domain, [CPH_BURST_THRESH, CPH_BURST_AMOUNT], [], 0⟩

def CPH_STATUS_BURST_HELD : Fld := ⟨0, 0, .ro, 0⟩
def CPH_STATUS_DEFERRING : Fld := ⟨1, 1, .ro, 0⟩
def CPH_STATUS_QUEUED : Fld := ⟨27, 16, .ro, 0⟩
/-- spec/14 R316. -/
def CPH_STATUS : Reg := ⟨"CPH_STATUS", 0x2400004, [], 32, .fixed .cipher, .domain, [CPH_STATUS_BURST_HELD, CPH_STATUS_DEFERRING, CPH_STATUS_QUEUED], [], 0⟩

def CPH_DONE_JOB : Fld := ⟨31, 0, .wo, 0⟩
/-- spec/14 R322. -/
def CPH_DONE : Reg := ⟨"CPH_DONE", 0x2400008, [], 32, .fixed .cipher, .domain, [CPH_DONE_JOB], [], 0⟩

def CPH_CFG_RX_TMO : Fld := ⟨7, 0, .rw, 0x14⟩
def CPH_CFG_DESC_BASE : Fld := ⟨39, 21, .rw, 0x20016⟩
/-- spec/14 R322. -/
def CPH_CFG : Reg := ⟨"CPH_CFG", 0x2400010, [], 64, .fixed .cipher, .domain, [CPH_CFG_RX_TMO, CPH_CFG_DESC_BASE], [], 0⟩

def CPH_KEY_REFUSED_COUNT : Fld := ⟨31, 0, .rc, 0⟩
/-- spec/14 R323. -/
def CPH_KEY_REFUSED : Reg := ⟨"CPH_KEY_REFUSED", 0x2400100, [], 32, .fixed .cipher, .domain, [CPH_KEY_REFUSED_COUNT], [], 0⟩

def CPH_DEFERRED_COUNT : Fld := ⟨31, 0, .rc, 0⟩
/-- spec/14 R323. -/
def CPH_DEFERRED : Reg := ⟨"CPH_DEFERRED", 0x2400104, [], 32, .fixed .cipher, .domain, [CPH_DEFERRED_COUNT], [], 0⟩

def CPH_AES_SLOW_COUNT : Fld := ⟨31, 0, .rc, 0⟩
/-- spec/14 R323. -/
def CPH_AES_SLOW : Reg := ⟨"CPH_AES_SLOW", 0x2400108, [], 32, .fixed .cipher, .domain, [CPH_AES_SLOW_COUNT], [], 0⟩

def CPH_REKEY_COUNT : Fld := ⟨31, 0, .rc, 0⟩
/-- spec/14 R323. -/
def CPH_REKEY : Reg := ⟨"CPH_REKEY", 0x240010C, [], 32, .fixed .cipher, .domain, [CPH_REKEY_COUNT], [], 0⟩

def CPH_DONE_STALE_COUNT : Fld := ⟨31, 0, .rc, 0⟩
/-- spec/14 R323. -/
def CPH_DONE_STALE : Reg := ⟨"CPH_DONE_STALE", 0x2400110, [], 32, .fixed .cipher, .domain, [CPH_DONE_STALE_COUNT], [], 0⟩

def CPH_KEY_MAT_BYTES : Fld := ⟨63, 0, .wo, 0⟩
/-- spec/14 R317. -/
def CPH_KEY_MAT : Reg := ⟨"CPH_KEY_MAT", 0x2410000, [(4096, 0x40), (4, 0x8)], 64, .fixed .cipher, .domain, [CPH_KEY_MAT_BYTES], [], 0⟩

def CPH_KEY_CTL_VALID : Fld := ⟨0, 0, .rw, 0⟩
def CPH_KEY_CTL_LEN : Fld := ⟨1, 1, .rw, 0⟩
def CPH_KEY_CTL_SPENT : Fld := ⟨2, 2, .ro, 0⟩
def CPH_KEY_CTL_REKEY_SEEN : Fld := ⟨3, 3, .ro, 0⟩
/-- spec/14 R318. -/
def CPH_KEY_CTL : Reg := ⟨"CPH_KEY_CTL", 0x2410020, [(4096, 0x40)], 64, .fixed .cipher, .domain, [CPH_KEY_CTL_VALID, CPH_KEY_CTL_LEN, CPH_KEY_CTL_SPENT, CPH_KEY_CTL_REKEY_SEEN], [], 0⟩

def CPH_KEY_LIMIT_LIMIT : Fld := ⟨47, 0, .rw, 0xffffffffffff⟩
/-- spec/14 R319. -/
def CPH_KEY_LIMIT : Reg := ⟨"CPH_KEY_LIMIT", 0x2410028, [(4096, 0x40)], 64, .fixed .cipher, .domain, [CPH_KEY_LIMIT_LIMIT], [], 0⟩

def CPH_KEY_WARN_WARN : Fld := ⟨47, 0, .rw, 0xc00000000000⟩
/-- spec/14 R320. -/
def CPH_KEY_WARN : Reg := ⟨"CPH_KEY_WARN", 0x2410030, [(4096, 0x40)], 64, .fixed .cipher, .domain, [CPH_KEY_WARN_WARN], [], 0⟩

def CPH_KEY_USED_USED : Fld := ⟨47, 0, .ro, 0⟩
/-- spec/14 R319. -/
def CPH_KEY_USED : Reg := ⟨"CPH_KEY_USED", 0x2410038, [(4096, 0x40)], 64, .fixed .cipher, .domain, [CPH_KEY_USED_USED], [], 0⟩

def MEM_PAIL_S0_BASE : Fld := ⟨39, 9, .rw, 0x20000000⟩
/-- spec/15 R328. -/
def MEM_PAIL_S0 : Reg := ⟨"MEM_PAIL_S0", 0x2800000, [], 64, .fixed .memory, .domain, [MEM_PAIL_S0_BASE], [], 0⟩

def MEM_PAIL_S1_COUNT : Fld := ⟨20, 0, .rw, 0xc000⟩
def MEM_PAIL_S1_RESERVE : Fld := ⟨31, 21, .rw, 0x100⟩
def MEM_PAIL_S1_LINK : Fld := ⟨63, 40, .rw, 0x400180⟩
/-- spec/15 R328. -/
def MEM_PAIL_S1 : Reg := ⟨"MEM_PAIL_S1", 0x2800008, [], 64, .fixed .memory, .domain, [MEM_PAIL_S1_COUNT, MEM_PAIL_S1_RESERVE, MEM_PAIL_S1_LINK], [], 0⟩

def MEM_PAIL_D0_BASE : Fld := ⟨39, 9, .rw, 0x800000⟩
/-- spec/15 R328. -/
def MEM_PAIL_D0 : Reg := ⟨"MEM_PAIL_D0", 0x2800010, [], 64, .fixed .memory, .domain, [MEM_PAIL_D0_BASE], [], 0⟩

def MEM_PAIL_D1_COUNT : Fld := ⟨20, 0, .rw, 0x100000⟩
def MEM_PAIL_D1_RESERVE : Fld := ⟨31, 21, .ro, 0⟩
def MEM_PAIL_D1_LINK : Fld := ⟨63, 40, .rw, 0x12000⟩
/-- spec/15 R328. -/
def MEM_PAIL_D1 : Reg := ⟨"MEM_PAIL_D1", 0x2800018, [], 64, .fixed .memory, .domain, [MEM_PAIL_D1_COUNT, MEM_PAIL_D1_RESERVE, MEM_PAIL_D1_LINK], [], 0⟩

def MEM_PAIL_FREE_FREE_S : Fld := ⟨16, 0, .ro, 0xc000⟩
def MEM_PAIL_FREE_FREE_D : Fld := ⟨52, 32, .ro, 0x100000⟩
/-- spec/15 R326. -/
def MEM_PAIL_FREE : Reg := ⟨"MEM_PAIL_FREE", 0x2800020, [], 64, .fixed .memory, .domain, [MEM_PAIL_FREE_FREE_S, MEM_PAIL_FREE_FREE_D], [], 0⟩

def MEM_SCRUB_S_PASS : Fld := ⟨15, 0, .rw, 0xa⟩
def MEM_SCRUB_D_PASS : Fld := ⟨31, 16, .rw, 0x1e0⟩
def MEM_SCRUB_S_EN : Fld := ⟨32, 32, .rw, 1⟩
def MEM_SCRUB_D_EN : Fld := ⟨33, 33, .rw, 1⟩
/-- spec/15 R340. -/
def MEM_SCRUB : Reg := ⟨"MEM_SCRUB", 0x2800030, [], 64, .fixed .memory, .domain, [MEM_SCRUB_S_PASS, MEM_SCRUB_D_PASS, MEM_SCRUB_S_EN, MEM_SCRUB_D_EN], [], 0⟩

def MEM_ERR_TOTAL_TOTAL : Fld := ⟨31, 0, .ro, 0⟩
/-- spec/15 R341. -/
def MEM_ERR_TOTAL : Reg := ⟨"MEM_ERR_TOTAL", 0x2800040, [], 32, .fixed .memory, .domain, [MEM_ERR_TOTAL_TOTAL], [], 0⟩

def MEM_INJECT_ADDR : Fld := ⟨39, 5, .rw, 0⟩
def MEM_INJECT_POS : Fld := ⟨45, 40, .rw, 0⟩
def MEM_INJECT_VALUE : Fld := ⟨53, 46, .rw, 0⟩
def MEM_INJECT_TWO : Fld := ⟨54, 54, .rw, 0⟩
def MEM_INJECT_ARM : Fld := ⟨55, 55, .rw, 0⟩
/-- spec/15 R343. -/
def MEM_INJECT : Reg := ⟨"MEM_INJECT", 0x2800050, [], 64, .fixed .memory, .domain, [MEM_INJECT_ADDR, MEM_INJECT_POS, MEM_INJECT_VALUE, MEM_INJECT_TWO, MEM_INJECT_ARM], [], 0⟩

def MEM_SRAM_CE_COUNT : Fld := ⟨31, 0, .rc, 0⟩
/-- spec/15 R342. -/
def MEM_SRAM_CE : Reg := ⟨"MEM_SRAM_CE", 0x2800200, [], 32, .fixed .memory, .domain, [MEM_SRAM_CE_COUNT], [], 0⟩

def MEM_SRAM_CHK_COUNT : Fld := ⟨31, 0, .rc, 0⟩
/-- spec/15 R342. -/
def MEM_SRAM_CHK : Reg := ⟨"MEM_SRAM_CHK", 0x2800204, [], 32, .fixed .memory, .domain, [MEM_SRAM_CHK_COUNT], [], 0⟩

def MEM_SRAM_UE_COUNT : Fld := ⟨31, 0, .rc, 0⟩
/-- spec/15 R342. -/
def MEM_SRAM_UE : Reg := ⟨"MEM_SRAM_UE", 0x2800208, [], 32, .fixed .memory, .domain, [MEM_SRAM_UE_COUNT], [], 0⟩

def MEM_DRAM_CE_COUNT : Fld := ⟨31, 0, .rc, 0⟩
/-- spec/15 R342. -/
def MEM_DRAM_CE : Reg := ⟨"MEM_DRAM_CE", 0x280020C, [], 32, .fixed .memory, .domain, [MEM_DRAM_CE_COUNT], [], 0⟩

def MEM_DRAM_CHK_COUNT : Fld := ⟨31, 0, .rc, 0⟩
/-- spec/15 R342. -/
def MEM_DRAM_CHK : Reg := ⟨"MEM_DRAM_CHK", 0x2800210, [], 32, .fixed .memory, .domain, [MEM_DRAM_CHK_COUNT], [], 0⟩

def MEM_DRAM_UE_COUNT : Fld := ⟨31, 0, .rc, 0⟩
/-- spec/15 R342. -/
def MEM_DRAM_UE : Reg := ⟨"MEM_DRAM_UE", 0x2800214, [], 32, .fixed .memory, .domain, [MEM_DRAM_UE_COUNT], [], 0⟩

def MEM_PARTIAL_UE_COUNT : Fld := ⟨31, 0, .rc, 0⟩
/-- spec/15 R342. -/
def MEM_PARTIAL_UE : Reg := ⟨"MEM_PARTIAL_UE", 0x2800218, [], 32, .fixed .memory, .domain, [MEM_PARTIAL_UE_COUNT], [], 0⟩

def MEM_UE_FRAME_COUNT : Fld := ⟨31, 0, .rc, 0⟩
/-- spec/15 R342. -/
def MEM_UE_FRAME : Reg := ⟨"MEM_UE_FRAME", 0x280021C, [], 32, .fixed .memory, .domain, [MEM_UE_FRAME_COUNT], [], 0⟩

def MEM_ERR_LOG_WORD : Fld := ⟨63, 0, .ro, 0⟩
/-- spec/15 R341. -/
def MEM_ERR_LOG : Reg := ⟨"MEM_ERR_LOG", 0x2801000, [(32, 0x10), (2, 0x8)], 64, .fixed .memory, .domain, [MEM_ERR_LOG_WORD], [], 0⟩

def DRC_ORDER_ORDER : Fld := ⟨1, 0, .rw, 1⟩
/-- spec/15 R330. -/
def DRC_ORDER : Reg := ⟨"DRC_ORDER", 0x2900000, [(8, 0x4)], 32, .fixed .memory, .domain, [DRC_ORDER_ORDER], [], 0⟩

def DRC_RT_PERIOD : Fld := ⟨7, 0, .rw, 0x64⟩
def DRC_RT_AMOUNT : Fld := ⟨23, 8, .rw, 0x258⟩
def DRC_RT_TEMP : Fld := ⟨31, 24, .rw, 0xa⟩
/-- spec/15 R332. -/
def DRC_RT : Reg := ⟨"DRC_RT", 0x2900020, [], 32, .fixed .memory, .domain, [DRC_RT_PERIOD, DRC_RT_AMOUNT, DRC_RT_TEMP], [], 0⟩

def DRC_WHISTLE_LEAD : Fld := ⟨9, 0, .rw, 0x258⟩
def DRC_WHISTLE_EN : Fld := ⟨20, 16, .rw, 0x1f⟩
/-- spec/15 R333. -/
def DRC_WHISTLE : Reg := ⟨"DRC_WHISTLE", 0x2900040, [], 32, .fixed .memory, .domain, [DRC_WHISTLE_LEAD, DRC_WHISTLE_EN], [], 0⟩

def DRC_STATUS_INIT_DONE : Fld := ⟨0, 0, .ro, 0⟩
def DRC_STATUS_RT_CH : Fld := ⟨3, 1, .ro, 0⟩
def DRC_STATUS_RT_ACTIVE : Fld := ⟨4, 4, .ro, 0⟩
def DRC_STATUS_WH_ACTIVE : Fld := ⟨12, 8, .ro, 0⟩
/-- spec/15 R331. -/
def DRC_STATUS : Reg := ⟨"DRC_STATUS", 0x2900050, [], 32, .fixed .memory, .domain, [DRC_STATUS_INIT_DONE, DRC_STATUS_RT_CH, DRC_STATUS_RT_ACTIVE, DRC_STATUS_WH_ACTIVE], [], 0⟩

def DRC_RT_LATE_COUNT : Fld := ⟨31, 0, .rc, 0⟩
/-- spec/15 R342. -/
def DRC_RT_LATE : Reg := ⟨"DRC_RT_LATE", 0x2900200, [], 32, .fixed .memory, .domain, [DRC_RT_LATE_COUNT], [], 0⟩

def DRC_WH_LATE_COUNT : Fld := ⟨31, 0, .rc, 0⟩
/-- spec/15 R342. -/
def DRC_WH_LATE : Reg := ⟨"DRC_WH_LATE", 0x2900204, [], 32, .fixed .memory, .domain, [DRC_WH_LATE_COUNT], [], 0⟩

def DRC_WHISTLES_COUNT : Fld := ⟨31, 0, .rc, 0⟩
/-- spec/15 R342. -/
def DRC_WHISTLES : Reg := ⟨"DRC_WHISTLES", 0x2900208, [], 32, .fixed .memory, .domain, [DRC_WHISTLES_COUNT], [], 0⟩

def FAB_CTL_LINK_EN : Fld := ⟨5, 0, .rw, 0⟩
def FAB_CTL_AVOID_EN : Fld := ⟨6, 6, .rw, 1⟩
def FAB_CTL_RESEND : Fld := ⟨15, 8, .rw, 0x14⟩
def FAB_CTL_LOST_TMO : Fld := ⟨31, 16, .rw, 0x7d0⟩
/-- spec/17 R354. -/
def FAB_CTL : Reg := ⟨"FAB_CTL", 0x3000000, [], 32, .fixed .fabric, .domain, [FAB_CTL_LINK_EN, FAB_CTL_AVOID_EN, FAB_CTL_RESEND, FAB_CTL_LOST_TMO], [], 0⟩

def FAB_HUDDLE_MEMBERS : Fld := ⟨15, 0, .ro, 0⟩
def FAB_HUDDLE_LEADER : Fld := ⟨19, 16, .ro, 0⟩
def FAB_HUDDLE_SELF : Fld := ⟨23, 20, .ro, 0⟩
def FAB_HUDDLE_CONVERGED : Fld := ⟨24, 24, .ro, 0⟩
def FAB_HUDDLE_CLASH : Fld := ⟨25, 25, .ro, 0⟩
def FAB_HUDDLE_LONG : Fld := ⟨26, 26, .ro, 0⟩
def FAB_HUDDLE_LEVEL : Fld := ⟨31, 28, .ro, 0⟩
def FAB_HUDDLE_GEN : Fld := ⟨63, 32, .ro, 0⟩
/-- spec/17 R359. -/
def FAB_HUDDLE : Reg := ⟨"FAB_HUDDLE", 0x3000010, [], 64, .fixed .fabric, .domain, [FAB_HUDDLE_MEMBERS, FAB_HUDDLE_LEADER, FAB_HUDDLE_SELF, FAB_HUDDLE_CONVERGED, FAB_HUDDLE_CLASH, FAB_HUDDLE_LONG, FAB_HUDDLE_LEVEL, FAB_HUDDLE_GEN], [], 0⟩

def FAB_SLOW_SLOW : Fld := ⟨15, 0, .ro, 0⟩
/-- spec/17 R369. -/
def FAB_SLOW : Reg := ⟨"FAB_SLOW", 0x3000018, [], 32, .fixed .fabric, .domain, [FAB_SLOW_SLOW], [], 0⟩

def FAB_INBOX_BASE : Fld := ⟨39, 20, .rw, 0x1ac0⟩
def FAB_INBOX_WIN_LOG2 : Fld := ⟨44, 40, .rw, 0x10⟩
/-- spec/17 R366. -/
def FAB_INBOX : Reg := ⟨"FAB_INBOX", 0x3000020, [], 64, .fixed .fabric, .domain, [FAB_INBOX_BASE, FAB_INBOX_WIN_LOG2], [], 0⟩

def FAB_ATT_DEV : Fld := ⟨3, 0, .wo, 0⟩
def FAB_ATT_ADDR : Fld := ⟨39, 6, .wo, 0⟩
/-- spec/17 R367. -/
def FAB_ATT : Reg := ⟨"FAB_ATT", 0x3000030, [], 64, .fixed .fabric, .domain, [FAB_ATT_DEV, FAB_ATT_ADDR], [], 0⟩

def FAB_ATT_STATUS_CODE : Fld := ⟨3, 0, .ro, 0⟩
def FAB_ATT_STATUS_BUSY : Fld := ⟨4, 4, .ro, 0⟩
def FAB_ATT_STATUS_UNREACH : Fld := ⟨5, 5, .ro, 0⟩
def FAB_ATT_STATUS_LEN : Fld := ⟨31, 16, .ro, 0⟩
/-- spec/17 R367. -/
def FAB_ATT_STATUS : Reg := ⟨"FAB_ATT_STATUS", 0x3000038, [], 32, .fixed .fabric, .domain, [FAB_ATT_STATUS_CODE, FAB_ATT_STATUS_BUSY, FAB_ATT_STATUS_UNREACH, FAB_ATT_STATUS_LEN], [], 0⟩

def FAB_LINK_STATUS_STATE : Fld := ⟨1, 0, .ro, 0⟩
def FAB_LINK_STATUS_PEER_ID : Fld := ⟨7, 4, .ro, 0⟩
def FAB_LINK_STATUS_PEER_LINK : Fld := ⟨10, 8, .ro, 0⟩
def FAB_LINK_STATUS_DOWN_SEEN : Fld := ⟨11, 11, .w1c, 0⟩
def FAB_LINK_STATUS_UP_DIR : Fld := ⟨12, 12, .ro, 0⟩
/-- spec/17 R354. -/
def FAB_LINK_STATUS : Reg := ⟨"FAB_LINK_STATUS", 0x3000100, [(6, 0x8)], 32, .fixed .fabric, .domain, [FAB_LINK_STATUS_STATE, FAB_LINK_STATUS_PEER_ID, FAB_LINK_STATUS_PEER_LINK, FAB_LINK_STATUS_DOWN_SEEN, FAB_LINK_STATUS_UP_DIR], [], 0⟩

def FAB_ROUTE_LINK : Fld := ⟨2, 0, .ro, 7⟩
def FAB_ROUTE_HOPS : Fld := ⟨7, 4, .ro, 0⟩
def FAB_ROUTE_AVOIDED : Fld := ⟨8, 8, .ro, 0⟩
def FAB_ROUTE_OUTSTANDING : Fld := ⟨26, 16, .ro, 0⟩
/-- spec/17 R360. -/
def FAB_ROUTE : Reg := ⟨"FAB_ROUTE", 0x3000200, [(16, 0x4)], 32, .fixed .fabric, .domain, [FAB_ROUTE_LINK, FAB_ROUTE_HOPS, FAB_ROUTE_AVOIDED, FAB_ROUTE_OUTSTANDING], [], 0⟩

def FAB_E2E_RESEND_COUNT : Fld := ⟨31, 0, .rc, 0⟩
/-- spec/17 R370. -/
def FAB_E2E_RESEND : Reg := ⟨"FAB_E2E_RESEND", 0x3000400, [], 32, .fixed .fabric, .domain, [FAB_E2E_RESEND_COUNT], [], 0⟩

def FAB_E2E_DUP_COUNT : Fld := ⟨31, 0, .rc, 0⟩
/-- spec/17 R370. -/
def FAB_E2E_DUP : Reg := ⟨"FAB_E2E_DUP", 0x3000404, [], 32, .fixed .fabric, .domain, [FAB_E2E_DUP_COUNT], [], 0⟩

def FAB_UNREACH_COUNT : Fld := ⟨31, 0, .rc, 0⟩
/-- spec/17 R370. -/
def FAB_UNREACH : Reg := ⟨"FAB_UNREACH", 0x3000408, [], 32, .fixed .fabric, .domain, [FAB_UNREACH_COUNT], [], 0⟩

def FAB_REFUSED_IN_COUNT : Fld := ⟨31, 0, .rc, 0⟩
/-- spec/17 R370. -/
def FAB_REFUSED_IN : Reg := ⟨"FAB_REFUSED_IN", 0x300040C, [], 32, .fixed .fabric, .domain, [FAB_REFUSED_IN_COUNT], [], 0⟩

def FAB_STORE_FAIL_COUNT : Fld := ⟨31, 0, .rc, 0⟩
/-- spec/17 R370. -/
def FAB_STORE_FAIL : Reg := ⟨"FAB_STORE_FAIL", 0x3000410, [], 32, .fixed .fabric, .domain, [FAB_STORE_FAIL_COUNT], [], 0⟩

def FAB_HOP_LIMIT_COUNT : Fld := ⟨31, 0, .rc, 0⟩
/-- spec/17 R370. -/
def FAB_HOP_LIMIT : Reg := ⟨"FAB_HOP_LIMIT", 0x3000414, [], 32, .fixed .fabric, .domain, [FAB_HOP_LIMIT_COUNT], [], 0⟩

def FAB_ROUTE_CHANGE_COUNT : Fld := ⟨31, 0, .rc, 0⟩
/-- spec/17 R370. -/
def FAB_ROUTE_CHANGE : Reg := ⟨"FAB_ROUTE_CHANGE", 0x3000418, [], 32, .fixed .fabric, .domain, [FAB_ROUTE_CHANGE_COUNT], [], 0⟩

def FAB_FLIT_CE_COUNT : Fld := ⟨31, 0, .rc, 0⟩
/-- spec/17 R370. -/
def FAB_FLIT_CE : Reg := ⟨"FAB_FLIT_CE", 0x3001000, [(6, 0x20)], 32, .fixed .fabric, .domain, [FAB_FLIT_CE_COUNT], [], 0⟩

def FAB_FLIT_UE_COUNT : Fld := ⟨31, 0, .rc, 0⟩
/-- spec/17 R370. -/
def FAB_FLIT_UE : Reg := ⟨"FAB_FLIT_UE", 0x3001004, [(6, 0x20)], 32, .fixed .fabric, .domain, [FAB_FLIT_UE_COUNT], [], 0⟩

def FAB_RETRY_COUNT : Fld := ⟨31, 0, .rc, 0⟩
/-- spec/17 R370. -/
def FAB_RETRY : Reg := ⟨"FAB_RETRY", 0x3001008, [(6, 0x20)], 32, .fixed .fabric, .domain, [FAB_RETRY_COUNT], [], 0⟩

def FAB_LINK_FAIL_COUNT : Fld := ⟨31, 0, .rc, 0⟩
/-- spec/17 R370. -/
def FAB_LINK_FAIL : Reg := ⟨"FAB_LINK_FAIL", 0x300100C, [(6, 0x20)], 32, .fixed .fabric, .domain, [FAB_LINK_FAIL_COUNT], [], 0⟩

def BND_CTL_EN : Fld := ⟨0, 0, .rw, 0⟩
def BND_CTL_TKO_EN : Fld := ⟨1, 1, .rw, 1⟩
def BND_CTL_DETACH : Fld := ⟨2, 2, .wo, 0⟩
def BND_CTL_GIVEBACK : Fld := ⟨3, 3, .wo, 0⟩
/-- spec/18. -/
def BND_CTL : Reg := ⟨"BND_CTL", 0x3100000, [], 32, .fixed .fabric, .domain, [BND_CTL_EN, BND_CTL_TKO_EN, BND_CTL_DETACH, BND_CTL_GIVEBACK], [], 0⟩

def BND_CFG_LEAP : Fld := ⟨23, 0, .rw, 0x10000⟩
def BND_CFG_MISS : Fld := ⟨27, 24, .rw, 8⟩
/-- spec/18. -/
def BND_CFG : Reg := ⟨"BND_CFG", 0x3100008, [], 64, .fixed .fabric, .domain, [BND_CFG_LEAP, BND_CFG_MISS], [], 0⟩

def BND_STATUS_STATE : Fld := ⟨2, 0, .ro, 0⟩
def BND_STATUS_LINK : Fld := ⟨3, 3, .ro, 0⟩
def BND_STATUS_TWIN : Fld := ⟨7, 4, .ro, 1⟩
def BND_STATUS_TAKEN : Fld := ⟨8, 8, .ro, 0⟩
def BND_STATUS_LOSS_SEEN : Fld := ⟨9, 9, .w1c, 0⟩
def BND_STATUS_REJ : Fld := ⟨10, 10, .w1c, 0⟩
/-- spec/18 R373. -/
def BND_STATUS : Reg := ⟨"BND_STATUS", 0x3100010, [], 32, .fixed .fabric, .domain, [BND_STATUS_STATE, BND_STATUS_LINK, BND_STATUS_TWIN, BND_STATUS_TAKEN, BND_STATUS_LOSS_SEEN, BND_STATUS_REJ], [], 0⟩

def BND_TKO_TIME : Fld := ⟨63, 0, .ro, 0⟩
/-- spec/18 R380. -/
def BND_TKO : Reg := ⟨"BND_TKO", 0x3100018, [], 64, .fixed .fabric, .domain, [BND_TKO_TIME], [], 0⟩

def BND_ATT_DEV : Fld := ⟨3, 0, .wo, 0⟩
def BND_ATT_ADDR : Fld := ⟨39, 6, .wo, 0⟩
/-- spec/18 R372. -/
def BND_ATT : Reg := ⟨"BND_ATT", 0x3100030, [], 64, .fixed .fabric, .domain, [BND_ATT_DEV, BND_ATT_ADDR], [], 0⟩

def BND_ATT_STATUS_CODE : Fld := ⟨3, 0, .ro, 0⟩
def BND_ATT_STATUS_BUSY : Fld := ⟨4, 4, .ro, 0⟩
def BND_ATT_STATUS_UNREACH : Fld := ⟨5, 5, .ro, 0⟩
def BND_ATT_STATUS_LEN : Fld := ⟨31, 16, .ro, 0⟩
/-- spec/18 R372. -/
def BND_ATT_STATUS : Reg := ⟨"BND_ATT_STATUS", 0x3100038, [], 32, .fixed .fabric, .domain, [BND_ATT_STATUS_CODE, BND_ATT_STATUS_BUSY, BND_ATT_STATUS_UNREACH, BND_ATT_STATUS_LEN], [], 0⟩

def BND_HB_MISS_COUNT : Fld := ⟨31, 0, .rc, 0⟩
/-- spec/18 R386. -/
def BND_HB_MISS : Reg := ⟨"BND_HB_MISS", 0x3100100, [], 32, .fixed .fabric, .domain, [BND_HB_MISS_COUNT], [], 0⟩

def BND_GRANT_GATED_COUNT : Fld := ⟨31, 0, .rc, 0⟩
/-- spec/18 R386. -/
def BND_GRANT_GATED : Reg := ⟨"BND_GRANT_GATED", 0x3100104, [], 32, .fixed .fabric, .domain, [BND_GRANT_GATED_COUNT], [], 0⟩

def BND_MIRROR_HOLD_COUNT : Fld := ⟨31, 0, .rc, 0⟩
/-- spec/18 R386. -/
def BND_MIRROR_HOLD : Reg := ⟨"BND_MIRROR_HOLD", 0x3100108, [], 32, .fixed .fabric, .domain, [BND_MIRROR_HOLD_COUNT], [], 0⟩

def BND_TAKEOVERS_COUNT : Fld := ⟨31, 0, .rc, 0⟩
/-- spec/18 R386. -/
def BND_TAKEOVERS : Reg := ⟨"BND_TAKEOVERS", 0x310010C, [], 32, .fixed .fabric, .domain, [BND_TAKEOVERS_COUNT], [], 0⟩

def BND_SPLITS_COUNT : Fld := ⟨31, 0, .rc, 0⟩
/-- spec/18 R386. -/
def BND_SPLITS : Reg := ⟨"BND_SPLITS", 0x3100110, [], 32, .fixed .fabric, .domain, [BND_SPLITS_COUNT], [], 0⟩

def BND_KEY_HALF_REJ_COUNT : Fld := ⟨31, 0, .rc, 0⟩
/-- spec/18 R386. -/
def BND_KEY_HALF_REJ : Reg := ⟨"BND_KEY_HALF_REJ", 0x3100114, [], 32, .fixed .fabric, .domain, [BND_KEY_HALF_REJ_COUNT], [], 0⟩

def BND_MCTX_WORD : Fld := ⟨63, 0, .ro, 0⟩
/-- spec/18 R385. -/
def BND_MCTX : Reg := ⟨"BND_MCTX", 0x3180000, [(1024, 0x100), (32, 0x8)], 64, .fixed .fabric, .domain, [BND_MCTX_WORD], [], 0⟩

def regsEth : List Reg := [ETH_MODE, ETH_SP_CFG, ETH_SP_STATUS, ETH_SP_WD, ETH_UCAST, ETH_RXDEF, ETH_TPID, ETH_RXCV, ETH_FLT0, ETH_FLT1, ETH_RING_CFG, ETH_RING_FC, ETH_RING_STATE, ETH_TXTS_STATUS, ETH_TXTS_OVF, ETH_TXTS_POP, ETH_TXTS_POP_NS, ETH_RX_FRAMES, ETH_RX_FCS_BAD, ETH_RX_RUNT, ETH_RX_OVERSIZE, ETH_RX_FILTERED, ETH_RX_FLT_DROP, ETH_RX_NOBUF, ETH_RX_NOBUF_MID, ETH_RX_OVERRUN, ETH_RX_PAUSE, ETH_TX_FRAMES, ETH_TX_OVERSIZE, ETH_TX_CTL_BAD, ETH_TX_UNDERRUN, ETH_TX_PAUSE_SENT, ETH_WD_TRIPS, ETH_WD_DROP, ETH_RX_ABORT, ETH_TX_ABORT]

def regsSkm : List Reg := [SKM_EPOCH, SKM_HASH_CFG, SKM_HKEY, SKM_CNT_FIRST_PASSES, SKM_CNT_CHURN_PASSES, SKM_CNT_DEPTH, SKM_CNT_MALFORMED, SKM_CNT_DEPTH_DROP, SKM_CNT_MAL_DROP, SKM_CNT_TREE_BAD, SKM_CNT_TREE_DEEP, SKM_INDIR, SKM_SET_PARSE, SKM_SET_CLASS, SKM_SET_KSEG, SKM_SET_TREE0, SKM_SET_TREE1, SKM_NEXT_PARSE, SKM_NEXT_CLASS, SKM_NEXT_KSEG, SKM_NEXT_TREE0, SKM_NEXT_TREE1]

def regsTmg : List Reg := [TMG_CTL, TMG_ENQ_FULL, TMG_POL_DROP, TMG_STRICT_DROP, TMG_AGED, TMG_GATE_NOFIT, TMG_WHEEL_LATE, TMG_SP_SHAPE, TMG_SP_TOK, TMG_SP_GATE, TMG_Q_CFG, TMG_Q_SHAPE, TMG_Q_STATE, TMG_Q_TOK, TMG_GCL_HDR0, TMG_GCL_HDR1, TMG_GCL_E, TMG_POL0, TMG_POL1, TMG_POL2, TMG_POLCNT]

def regsCph : List Reg := [CPH_BURST, CPH_STATUS, CPH_DONE, CPH_CFG, CPH_KEY_REFUSED, CPH_DEFERRED, CPH_AES_SLOW, CPH_REKEY, CPH_DONE_STALE, CPH_KEY_MAT, CPH_KEY_CTL, CPH_KEY_LIMIT, CPH_KEY_WARN, CPH_KEY_USED]

def regsMem : List Reg := [MEM_PAIL_S0, MEM_PAIL_S1, MEM_PAIL_D0, MEM_PAIL_D1, MEM_PAIL_FREE, MEM_SCRUB, MEM_ERR_TOTAL, MEM_INJECT, MEM_SRAM_CE, MEM_SRAM_CHK, MEM_SRAM_UE, MEM_DRAM_CE, MEM_DRAM_CHK, MEM_DRAM_UE, MEM_PARTIAL_UE, MEM_UE_FRAME, MEM_ERR_LOG]

def regsDrc : List Reg := [DRC_ORDER, DRC_RT, DRC_WHISTLE, DRC_STATUS, DRC_RT_LATE, DRC_WH_LATE, DRC_WHISTLES]

def regsFab : List Reg := [FAB_CTL, FAB_HUDDLE, FAB_SLOW, FAB_INBOX, FAB_ATT, FAB_ATT_STATUS, FAB_LINK_STATUS, FAB_ROUTE, FAB_E2E_RESEND, FAB_E2E_DUP, FAB_UNREACH, FAB_REFUSED_IN, FAB_STORE_FAIL, FAB_HOP_LIMIT, FAB_ROUTE_CHANGE, FAB_FLIT_CE, FAB_FLIT_UE, FAB_RETRY, FAB_LINK_FAIL]

def regsBnd : List Reg := [BND_CTL, BND_CFG, BND_STATUS, BND_TKO, BND_ATT, BND_ATT_STATUS, BND_HB_MISS, BND_GRANT_GATED, BND_MIRROR_HOLD, BND_TAKEOVERS, BND_SPLITS, BND_KEY_HALF_REJ, BND_MCTX]

end Sys2Proof.Machine
end

