-- ==== Sys2Proof/Machine/Types.lean ====
section
/-! DEFINITION. The blocks' own state beside their registers: everything the spec's chapters say a block holds that no
register shows whole. All of it is plain data. -/

namespace Sys2Proof.Machine

/-- Who makes an access (R394 INIT, R20 initiator). -/
inductive Init where
  | host
  | ctx (c : Nat)
  | peer (d : Nat)
  | mgc
  | hw
  deriving DecidableEq, Repr

/-- A frame held in pails: the handle of its first pail, its LENGTH without FCS, and the descriptor fields of
Table DRK-5a that travel with it. `ring` is 0, or 1 + port * 16 + ring while the frame counts against a receive ring, and `taken` says that the
skimmer has taken it from there; `rxcv` is its
receive check value (R265); `ts` names the queue pair and CSEQ of the TX_FRAME that asked for a stamp, and its tag; `indir` is the
indirection entry that dispatched its first pass, and `home` the context that churned it; `inAt` is the instant it took its
ring place. -/
structure Frame where
  pail : Nat := 0
  len : Nat := 0
  source : Nat := 0
  flags : Nat := 0
  churn : Nat := 0
  epoch : Nat := 0
  hash : Nat := 0
  arg : Nat := 0
  stampNs : Nat := 0
  stampFrac : Nat := 0
  parse : Bytes := []
  ring : Nat := 0
  taken : Bool := false
  rxcv : Nat := 0
  ts : Option (Nat × Nat × Nat) := none
  indir : Option Nat := none
  home : Nat := 0
  inAt : Nat := 0
  deriving DecidableEq, Repr

/-- An event waiting for dispatch or in a context's FIFO (R110, Table DRK-4). `pinned` names the context of a pinned
event; `unit` is the radio unit of a PLAN event; `record` and `head` are window bytes 32-63 and 64-191 of an event
without a frame. -/
structure Ev where
  typ : Nat := 0
  pinned : Option Nat := none
  unit : Nat := 0
  source : Nat := 0
  arg : Nat := 0
  length : Nat := 0
  record : Bytes := []
  head : Bytes := []
  frame : Option Frame := none
  indir : Option Nat := none
  deriving DecidableEq, Repr

/-- A context's state, as DRK_COREn_STATE.CTX_STATE encodes it (R125). -/
inductive CtxSt where
  | idle | running | waiting | unbound
  deriving DecidableEq, Repr

/-- What a waiting context waits for (R153, R141, R365, R107): a ticket, any ticket, an instant, its drain, the data of a
load of `n` bytes, from address `a`, through the fabric window, or its earlier stores through that window. -/
inductive Blocked where
  | nothing
  | ticket (slot d : Nat)
  | anyTicket (d : Nat)
  | instant (t d : Nat)
  | drain
  | drainChurn
  | load (d n a : Nat) (signed : Bool)
  | fence
  deriving DecidableEq, Repr

/-- A ticket slot (R142): free, holding an operation, or holding a result not yet collected. -/
inductive Ticket where
  | free
  | pending (op : Nat)
  | ready (word : Word)
  deriving DecidableEq, Repr

/-- One context (R101, R103, R109, R113, R142). `gone` says that the event no longer owns its own frame (R148). -/
structure Ctx where
  st : CtxSt := .unbound
  g : SMap Word := []
  p : BitVec 8 := 1
  keep : SMap Word := []
  pc : Nat := 0
  event : Nat := 0
  budget : Nat := 0
  epoch : Nat := 0
  faultCode : Nat := 0
  faultPc : Nat := 0
  faultAddr : Word := 0
  inFault : Bool := false
  win : SMap Byte := []
  winDirty : Bool := false
  frame : Option Frame := none
  gone : Bool := false
  owned : List Frame := []
  grants : List Nat := []
  frac : Nat := 0
  tickets : SMap Ticket := []
  blocked : Blocked := .nothing
  guardN : Nat := 0
  guardSquash : Bool := false
  fifo : List Ev := []
  held : List Ev := []
  indir : Option Nat := none
  deriving DecidableEq, Repr

/-- A program image in a cluster's shared memory (Table DRK-6). -/
structure Image where
  id : Nat := 0
  mr : Nat := 0
  flags : Nat := 0
  dataLen : Nat := 0
  sharedLen : Nat := 0
  budget : Nat := 0
  faultEntry : Nat := 0
  entry : List Nat := []
  code : Bytes := []
  data : Bytes := []
  deriving DecidableEq, Repr

/-- A tagged instruction that has not ended (R407, Table OBS-2): its context, PC and word, its address and space, the
CTX field's flags, its CODE byte and the instant of its issue; and the instant at which its context issued the next
instruction, once it has. -/
structure TagRec where
  ctx : Nat
  pc : Nat
  insn : Nat
  addr : Nat := 0
  space : Nat := 0xFF
  flags : Nat := 0
  code : Nat := 0
  issue : Nat
  ended : Option Nat := none
  deriving DecidableEq, Repr

/-- One core (R99, R121, R122): its local memory, the image it is bound to and the one it is switching to (0 none; an
image is named by its load number); the instructions left until its next tag, its LFSR and its tagged instruction. -/
structure Core where
  locl : SMap Byte := []
  bound : Nat := 0
  switching : Option Nat := none
  tagGap : Nat := 0
  lfsr : BitVec 32 := 0
  tag : Option TagRec := none
  deriving DecidableEq, Repr

/-- What a posted engine operation does when its unit serves it (Table DRI-12). -/
inductive OpKind where
  | enqAir (handle tid : Nat)
  | enqTmg (queue : Nat) (txctl : Bytes)
  | clone
  | cblk (enc : Bool) (key addr : Nat) (block : Bytes)
  | leave
  | renq (handle tid dev : Nat)
  | rmsg (dev : Nat) (msg : Bytes)
  deriving DecidableEq, Repr

/-- A posted engine operation (R142, R148): `frame` is the frame handed off, `own` says that it is the event's own one;
`orphan` says that its event has ended by a fault (R117); `res` is the status and value its unit has answered. -/
structure Op where
  ctx : Nat
  slot : Nat
  kind : OpKind
  frame : Option Frame
  orphan : Bool
  res : Option (Nat × Nat)
  own : Bool := false
  deriving DecidableEq, Repr

/-- An image load or unload being carried out (R119-R121): the command that asked, its cores, the load's number (0 for an
unload), what is measured, whether it has been committed, and the RESULT it will complete with. -/
structure Load where
  qp : Nat
  cseq : Nat
  mask : Nat
  num : Nat
  image : Nat
  mr : Nat
  digest : Bytes
  committed : Bool
  result : Nat
  deriving DecidableEq, Repr

/-- The Dreka cores (chapter 05). -/
structure Drk where
  ctxs : SMap Ctx := []
  cores : SMap Core := []
  images : SMap Image := []
  shared : SMap (SMap Byte) := []
  ops : SMap Op := []
  nextOp : Nat := 0
  nextLoad : Nat := 1
  raised : List Ev := []
  loads : List Load := []
  handover : SMap Nat := []
  deriving DecidableEq, Repr

/-- A leave grant or request (Tables PWR-3, PWR-9). `since` is the instant a request began to wait; `tag` names the engine
operation of a leave.ask. -/
structure Leave where
  cls : Nat
  amount : Nat
  req : Nat
  index : Nat
  since : Nat := 0
  id : Nat := 0
  tag : Nat := 0
  deriving DecidableEq, Repr

/-- Where a moving domain is going (R391, R392, R443). -/
inductive Move where
  | waitLeave (thenRet : Bool)
  | switchOn (thenRet : Bool)
  | fill (thenRet : Bool)
  | down (toRet : Bool)
  deriving DecidableEq, Repr

/-- The power block and the referee (chapter 19). `domLeave` is the leave each domain holds in the fixed sum; `grants`
is keyed by the entry of ADM_GRANTi; `onOrder` lists the domains whose switch-on waits its turn, in grant order. -/
structure Pwr where
  domLeave : SMap Nat := [(0, 1800)]
  moves : SMap (Option Move) := []
  grants : SMap Leave := []
  queue : List Leave := []
  nextId : Nat := 1
  issued : Nat := 0
  onOrder : List Nat := []
  pwrgd : Bool := true
  deriving DecidableEq, Repr

/-- One event-log entry (Table OBS-3). -/
structure EvtEntry where
  time : Nat
  block : Nat
  kind : Nat
  seq : Nat
  arg0 : Nat
  arg1 : Nat
  deriving DecidableEq, Repr

/-- What a replay brings in at a recorded tick (R411, R416): a host write, an input with its bytes, a radio event, the address
of an uncorrectable word, a pace outcome. -/
inductive RepItem where
  | host (a n v : Nat)
  | input (src sub : Nat) (b : Bytes)
  | phy (unit ev arg : Nat)
  | error (a : Nat)
  | pace (inst code : Nat)
  deriving DecidableEq, Repr

/-- A CONTEST record of points 0-28: its point and instance, the contender it names, its instant and its stream offset. -/
structure RepContest where
  key : Nat
  who : Nat
  at_ : Nat
  off : Nat
  deriving DecidableEq, Repr

/-- A CHECK record: its sink, length and CRC-32C, its instant and its stream offset. -/
structure RepCheck where
  sink : Nat
  len : Nat
  crc : Nat
  at_ : Nat
  off : Nat
  deriving DecidableEq, Repr

/-- An INPUT record whose bytes still come: its source and sub-source, length and CRC-32C, instant and stream offset, and the
PAYLOAD bytes read so far. -/
structure RepWant where
  src : Nat
  sub : Nat
  len : Nat
  crc : Nat
  at_ : Nat
  off : Nat
  got : Bytes := []
  deriving DecidableEq, Repr

/-- A replay (R415-R417): whether the recording was made in FULL mode; the instant of the latest TIME record read, whether the
MARK has been read, and the last instant recorded; the inputs, contests, crossings, values and checks read and not yet met,
each crossing by its point and instance; the last crossing of each, in ticks, and START's; whether the unit has stopped frozen,
and whether an input of the stream is being taken now. -/
structure Replay where
  full : Bool := false
  base : Nat := 0
  ended : Bool := false
  last : Nat := 0
  items : List (Nat × RepItem) := []
  want : Option RepWant := none
  contests : List RepContest := []
  crosses : List (Nat × Nat) := []
  crossed : SMap Nat := []
  start : Nat := 0
  values : List (Nat × Word) := []
  checks : List RepCheck := []
  frozen : Bool := false
  fed : Bool := false
  deriving DecidableEq, Repr

/-- Observability (chapter 20): the event log, the log limiter of R442 (key and millisecond of the last entry), the
scorebook's staged words, its last TIME instant, the last contender and crossing of each decision point, the egress
frame count of CHECK records, and the MSI-X messages sent on each vector; for each RC register, by offset, the instant and
number of its updates of that instant, and the instant of its last read (R14); for each programmable counter, by offset, the
instant of its last increment and the sum of that instant's (R406); the FIFO events of each link, the bond port at 6 (R50); and
the replay. -/
structure Obs where
  log : SMap EvtEntry := []
  limit : SMap Nat := []
  staging : List Word := []
  lastTime : Nat := 0
  contend : SMap (Nat × Nat) := []
  cross : SMap Nat := []
  egress : Nat := 0
  markDone : Bool := false
  msix : SMap Nat := []
  rcUps : SMap (Nat × Nat) := []
  rcReads : SMap Nat := []
  pmcUps : SMap (Nat × Nat) := []
  fifos : SMap Nat := []
  rep : Replay := {}
  deriving DecidableEq, Repr

/-- The memory block (chapter 15): the pails never yet allocated and those returned, in order, of each region; the
scrubber's positions; each channel's last batch, due instant and progress; the whistled reads pending. -/
structure MemSt where
  freshS : Nat := 0
  freshD : Nat := 0
  retS : List Nat := []
  retD : List Nat := []
  scrubS : Nat := 0
  scrubD : Nat := 0
  lastBatch : SMap Nat := []
  lastTemp : SMap Nat := []
  dueAt : SMap (Option Nat) := []
  lateSeen : SMap Bool := []
  batch : Option Nat := none
  batchAt : Nat := 0
  whistles : List (Nat × Nat × Nat × Nat) := []
  deriving DecidableEq, Repr

/-- The timebase island (chapter 02): the counter, its 32-bit fraction, whether it has locked and counts, NS at the tick
before the last (the highest one, so that no instant is reached twice), the steps that wait for their ticks (R53), the TSF offsets in force (R56), the PPS servo's integral term, the last
accepted edge and the run of edges within 20 ns, and the fractions latched for each requester (R51). -/
structure Tmb where
  ns : Word := 0
  frac : BitVec 32 := 0
  running : Bool := false
  prev : Nat := 0
  steps : List Int := []
  tsfOff : SMap Word := []
  integ : Int := 0
  ppsLast : Option Nat := none
  ppsRun : Nat := 0
  ppsIgnored : Nat := 0
  ppsHold : Bool := false
  fracLatch : SMap Nat := []
  deriving DecidableEq, Repr

/-- A PMBus write of the AVS loop in progress: the voltage commanded and the attempts that have failed (R44). -/
structure PmbusTry where
  mv : Nat
  failed : Nat
  deriving DecidableEq, Repr

/-- What a PMBus transaction of the loop does (R43, R44): PAGE, a read of VOUT_MODE or VOUT_COMMAND, or a write of
VOUT_COMMAND's mantissa. -/
inductive PmbusOp where
  | page (n : Nat)
  | readMode
  | readVout
  | writeVout (m : Nat)
  deriving DecidableEq, Repr

/-- One PMBus transaction: the regulator's 7-bit address, whether the bus runs at 1 MHz, and what it does (R41). -/
structure PmbusTx where
  addr : Nat
  fast : Bool
  op : PmbusOp
  deriving DecidableEq, Repr

/-- Pace and the AVS loop (R39-R44, R49). `slow` counts each monitor's consecutive windows below 60 % of its median;
`floors` are the last ten FLOOR values; `voutN` is the regulator's exponent; `v` the loop's voltage;
`vout` the mantissa last written to it; `bus` the transactions of the latest PMBus attempt; `target` the TARGET the loop
acts on; `enabling` says that ENABLE has risen and the enable steps are still to be done. -/
structure Pace where
  slow : SMap Nat := []
  floors : List Nat := []
  windows : Nat := 0
  voutN : Int := 0
  v : Nat := 0
  iterAt : Nat := 0
  iterNow : Bool := false
  busy : Option PmbusTry := none
  vout : Option Nat := none
  bus : List PmbusTx := []
  target : Nat := 0x533
  enabling : Bool := false
  deriving DecidableEq, Repr

/-- Where the start-up sequence of Table SEC-1 stands. `slots` lists the flash slots still to be tried. -/
inductive Boot where
  | reset | strapped | fused | locked | rom
  | slots (l : List Nat)
  | recovery | stopped | accepted | firmware | ready
  deriving DecidableEq, Repr

/-- What the fuses hold (R60, R63, R70, Table SEC-8): grade, stepping, minimum SVN, the root public key, DEVICE_ID, the
unique device secret, and the root's signature over the DIK certificate. -/
structure Fuses where
  grade : Nat := 0
  step : Nat := 0
  minSvn : Nat := 0
  rootKey : Bytes := []
  deviceId : Bytes := []
  uds : Bytes := []
  dikSig : Bytes := []
  deriving DecidableEq, Repr

/-- An extend whose digest is complete (R68). -/
structure Extend where
  mr : Nat
  source : Nat
  image : Nat
  digest : Bytes
  deriving DecidableEq, Repr

/-- An attestation request pending in SEC (R76): its source of Table SEC-10, the requester's own tags, the bytes. -/
structure AttReq where
  source : Nat
  tagA : Nat
  tagB : Nat
  tagC : Nat
  bytes : Bytes
  deriving DecidableEq, Repr

/-- The request being served, with its snapshot (R74). -/
structure AttServe where
  req : AttReq
  mrs : List Bytes
  logCount : Nat
  time : Nat
  deriving DecidableEq, Repr

/-- The management core's start-up and trust state (chapter 03). `pendingWarm` is a warm reset that waits for the ROM to end
its remaining steps (R401). -/
structure Sec where
  boot : Boot := .reset
  fuses : Fuses := {}
  mrs : SMap Bytes := []
  log : SMap Bytes := []
  count : Nat := 0
  extends_ : List Extend := []
  hostExt : Bool := false
  fwImage : Bytes := []
  window : SMap Byte := []
  aliasPub : Bytes := []
  aliasSig : Bytes := []
  aliasKey : Nat := 0
  dikPub : Bytes := []
  udsLocked : Bool := false
  attPending : List AttReq := []
  attServing : Option AttServe := none
  attSent : List (Nat × Nat × Bytes) := []
  pendingWarm : Bool := false
  deriving DecidableEq, Repr

/-- How a consumed command's work ended (Table HIF-6). -/
structure HDone where
  status : Nat
  result : Nat := 0
  flags : Nat := 0
  stampNs : Nat := 0
  stampFrac : Nat := 0
  deriving DecidableEq, Repr

/-- A consumed command not yet completed (Table HIF-5). `started` says that it has started in CSEQ order. -/
structure HCmd where
  qp : Nat
  cseq : Nat
  tag : Nat := 0
  op : Nat := 0
  flags : Nat := 0
  addr0 : Nat := 0
  len0 : Nat := 0
  target : Nat := 0
  addr1 : Nat := 0
  len1 : Nat := 0
  stampTag : Nat := 0
  arg : Bytes := []
  started : Bool := false
  done : Option HDone := none
  deriving DecidableEq, Repr

/-- A queue pair's indices (R87): the host's TAIL and HEAD, the next command and completion entry, the commands announced
and not fetched, the completion entries posted and not released; and its unsignalled completions (R94). -/
structure HQueue where
  tail : Nat := 0
  head : Nat := 0
  sq : Nat := 0
  cq : Nat := 0
  avail : Nat := 0
  used : Nat := 0
  unsig : Nat := 0
  firstUnsig : Nat := 0
  deriving DecidableEq, Repr

/-- What the host sets in the PCI Express configuration space (Table HIF-1): Bus Master Enable, the power state (0 D0, 3
D3hot), MSI-X Enable and Function Mask, and the payload bound. The values are those PCI Express gives a function at reset
(PRESUMED, log 148). -/
structure Pcie where
  busMaster : Bool := false
  power : Nat := 0
  msixEn : Bool := false
  funcMask : Bool := false
  maxPayload : Nat := 128
  deriving DecidableEq, Repr

/-- The host interface (chapter 04): the queue pairs, the commands in flight in the order consumed, the journal, and
the bytes the device has written to host memory. `feeder` names the queue pair that
feeds each host queue (R92), `next` the queue pair that the fetch arbiter tries first (R88). -/
structure Hif where
  pcie : Pcie := {}
  next : Nat := 0
  qs : SMap HQueue := []
  cmds : List HCmd := []
  journal : SMap Bytes := []
  hostMem : SMap Byte := []
  feeder : SMap Nat := []
  deriving DecidableEq, Repr

/-- A frame being received on a sub-port: its ring, its bytes with FCS, its pails and its stamp (R256-R260), the instant its
fate was settled, and the longest frame its sub-port takes, as it stood then (R255). A frame that ends before its first 22
bytes has no ring and no pails. -/
structure EthIn where
  ring : Option Nat
  bytes : Bytes
  pails : List Nat
  ns : Nat
  frac : Nat
  at_ : Nat := 0
  lim : Nat := 0
  deriving DecidableEq, Repr

/-- A frame or segment being sent on a sub-port: the TMG queue it came from, the frame, whether its last segment is the
one being sent, the bytes on the wire with FCS (R266), and the instant it started. -/
structure EthOut where
  queue : Nat
  frame : Frame
  last : Bool
  bytes : Bytes
  at_ : Nat := 0
  deriving DecidableEq, Repr

/-- One transmit stamp (R58): the TX_FRAME that asked (queue pair, CSEQ) or none for a program stamp, and the instant of its
capture. -/
structure Stamp where
  cmd : Option (Nat × Nat)
  tag : Nat
  ns : Nat
  frac : Nat
  sub : Nat
  at_ : Nat := 0
  deriving DecidableEq, Repr

/-- One priority of a sub-port: when its pause ends, since when it has been paused without a break, when a pause for it
was last received, and the last XOFF sent while it is held off (R261, R262). -/
structure Pause where
  till : Option Nat := none
  since : Option Nat := none
  lastRx : Nat := 0
  sent : Option Nat := none
  deriving DecidableEq, Repr

/-- What a sub-port's PHY is set to (Table ETH-1): its speed in Gb/s, CR abilities rather than KR, and its FEC as SPs_CFG.FEC
numbers it at 25 Gb/s (3 for the RS(544,514) of the other speeds). -/
structure EthPhy where
  speed : Nat
  cr : Bool
  fec : Nat
  deriving DecidableEq, Repr

/-- One Ethernet port (chapter 11). Sub-ports are keyed 0-3, priorities sub-port * 8 + p; `pauseQ` holds generated pause
frames (sub-port, priority, quanta) that wait for the frame in transmission. -/
structure EthPort where
  rings : SMap (List Frame) := []
  rxIn : SMap (Option EthIn) := []
  tx : SMap (Option EthOut) := []
  pause : SMap Pause := []
  stamps : List Stamp := []
  popNs : SMap Nat := []
  wire : SMap Bytes := []
  pauseSent : SMap (Nat × Nat) := []
  pauseQ : List (Nat × Nat × Nat) := []
  rr : Nat := 0
  rrHigh : Nat := 0
  deriving DecidableEq, Repr

/-- The skimmer (chapter 12): the frames waiting at each input (0 churn, 3 WMAC, 4 HIF, 5 FAB; those of 1 ETH0 and
2 ETH1 wait in their rings), the input served last, the references to the current rule set, the hash-dispatched chains
outstanding and the events held for each indirection entry (512: for a hash change), and the entries that hold (R286). -/
structure Skm where
  inputs : SMap (List Frame) := []
  last : Nat := 0
  curCount : Nat := 0
  outstanding : SMap Nat := []
  heldEv : SMap (List (Nat × Ev)) := []
  moving : SMap Bool := []
  hashHold : Bool := false
  deriving DecidableEq, Repr

/-- One staging set (R345): its items and images, and its pending submission: FABRIC, INSTANT, the queue and CSEQ of its
KICKOFF, and whether the coordinator has sent the commit (R352). -/
structure KckSet where
  items : List Bytes := []
  images : List Bytes := []
  queue : Nat := 0
  cseq : Nat := 0
  fabric : Bool := false
  instant : Nat := 0
  committed : Bool := false
  deriving DecidableEq, Repr

/-- A frame in a TMG queue: its enqueue stamp, its transmit control word and the next segment to send (R263, R266). -/
structure TmgFrame where
  frame : Frame
  stamp : Nat
  txctl : Nat
  seg : Nat
  deriving DecidableEq, Repr

/-- A TMG queue (R297, R303): its frames, its shaper tokens in units of 2^-16 byte with the instant they were last
accrued and the part of a unit still owed, in 1/8,000,000, its deficit, and the calendar-wheel instant it waits for. -/
structure TmgQ where
  frames : List TmgFrame := []
  tok : Int := 805306368
  since : Nat := 0
  rem : Nat := 0
  deficit : Nat := 0
  till : Option Nat := none
  deriving DecidableEq, Repr

/-- A policer's tokens in units of 2^-16 byte (R301), accrued to an instant, and of each bucket the part of a unit still owed,
in 1/8,000,000. -/
structure TmgPol where
  tc : Nat := 0
  tp : Nat := 0
  since : Nat := 0
  tcRem : Nat := 0
  tpRem : Nat := 0
  deriving DecidableEq, Repr

/-- A sub-port of TMG: its shaper (as a queue's), the queue whose turn each class is in, and a gate switch pending (bank and start). -/
structure TmgSp where
  tok : Int := 805306368
  since : Nat := 0
  rem : Nat := 0
  till : Option Nat := none
  turn : SMap Nat := []
  switch : Option (Nat × Nat) := none
  deriving DecidableEq, Repr

/-- The traffic manager (chapter 13). `recover` is the instant since which the free pails have stayed at or above twice
PAIL_FLOOR. -/
structure Tmg where
  qs : SMap TmgQ := []
  pols : SMap TmgPol := []
  sps : SMap TmgSp := []
  recover : Option Nat := none
  deriving DecidableEq, Repr

/-- A block admitted by the cipher (R315): its operation, direction, key index, the key as it was at admission, its input
block, and whether the core serving it is a slow one. -/
structure CBlk where
  op : Nat
  enc : Bool
  key : Nat
  kb : Bytes
  block : Bytes
  slow : Bool := false
  deriving DecidableEq, Repr

/-- A protection job's slot (R321, R322): its JOB, its raiser, whether it protects for transmission, the STATUS it ended
with, and for RX the instant by which it must end. -/
structure CJob where
  job : Nat
  src : Nat
  tx : Bool
  done : Option Nat := none
  till : Option Nat := none
  spoilt : Bool := false
  deriving DecidableEq, Repr

/-- The link cipher (chapter 14): the operations held by the burst limit, the issue queue, the blocks in the AES cores,
the keys being expanded, the count of the present µs with the THRESH in force, the quiet µs, the instant of the next ask
after a refusal, the job slots and the raise count. -/
structure Cph where
  wait : List Nat := []
  issue : List CBlk := []
  aes : SMap CBlk := []
  expanding : List Nat := []
  us : Nat := 0
  count : Nat := 0
  thresh : Nat := 0x640
  quiet : Nat := 0
  retryAt : Option Nat := none
  slots : SMap CJob := []
  raises : Nat := 0
  deriving DecidableEq, Repr

/-- A frame in an air queue, with its enqueue stamp (R156). -/
structure AirFrame where
  frame : Frame
  stamp : Nat
  deriving DecidableEq, Repr

/-- An air queue (R156, R162, R163): its frames, its start tag, its credit in units of 2^-16 byte with the instant it was
last accrued, the instant it last became ACTIVE, and the wheel instant it waits for. -/
structure AirQ where
  frames : List AirFrame := []
  tag : Nat := 0
  cred : Int := 0
  since : Nat := 0
  active : Nat := 0
  till : Option Nat := none
  deriving DecidableEq, Repr

/-- A plan slot (R165-R170): 0 FREE, 1 PENDING, 2 READY, 3 IN_USE; its latest request; whether that request ended EXPIRED
with nothing posted; the accepted plan record, its place in acceptance order, and whether it waits for its grant; and the
coefficients that the unit loaded when the plan became READY, by precoder handle (R226). -/
structure PlanSlot where
  st : Nat := 0
  seq : Nat := 0
  raised : Bool := false
  kind : Nat := 0
  twt : Nat := 0xFFFF
  notAfter : Nat := 0
  window : List Nat := []
  missed : Bool := false
  plan : Bytes := []
  order : Nat := 0
  wait : Bool := false
  coefs : List (Nat × List Host.Cell) := []
  deriving DecidableEq, Repr

/-- The plan interface of a unit: REQ_SEQ, the slots, the SP_START requests waiting for a slot, the acceptance count. -/
structure AirUnit where
  seq : Nat := 0
  slots : SMap PlanSlot := []
  spWait : List Nat := []
  order : Nat := 0
  deriving DecidableEq, Repr

/-- A target wake time entry (R174, R175): the instant its period began, and the writes deferred to the period's end. -/
structure TwtSt where
  start : Int := 0
  next : Option Word := none
  conf : Option Word := none
  deriving DecidableEq, Repr

/-- The airtime scheduler (chapter 07). `base` is the instant of MEMORY's reset, from which credits accrue. -/
structure Air where
  qs : SMap AirQ := []
  units : SMap AirUnit := []
  twts : SMap TwtSt := []
  base : Nat := 0
  deriving DecidableEq, Repr

/-- A lease held by this device (R195, WMAC_LEASEi): its station and TID, its numbers, how many are assigned, how many of
those are not closed, the instant of the last assignment, and whether a BlockAckReq is due (Gaps). -/
structure Lease where
  handle : Nat
  tid : Nat
  sn : Nat
  len : Nat
  pn : Nat
  used : Nat := 0
  live : Nat := 0
  lastUse : Nat := 0
  recalled : Bool := false
  bar : Bool := false
  deriving DecidableEq, Repr

/-- An unclosed lease a home has granted: the station's local index and TID, the holder, the numbers. -/
structure HomeLease where
  n : Nat
  tid : Nat
  dev : Nat
  sn : Nat
  len : Nat
  at_ : Nat
  recalled : Bool := false
  deriving DecidableEq, Repr

/-- A lease request a home has deferred or gated (R195, R376). -/
structure LeaseReq where
  handle : Nat
  tid : Nat
  dev : Nat
  gated : Bool
  deriving DecidableEq, Repr

/-- An MPDU taken for transmission (R181, R187-R189): its air queue, numbers, frame, the lease they came from, the
transmissions so far, its key and protection job with the nonce and AAD it was built with, whether its present
transmission has an inverted FCS, whether the job must be raised again, and the frame bytes that its SNAP header overlies. -/
structure Mpdu where
  q : Nat
  sn : Nat
  pn : Nat
  af : AirFrame
  lease : Nat
  handle : Nat
  sent : Nat := 0
  key : Nat := 0
  prot : Bool := false
  job : Option Nat := none
  jobEnd : Nat := 0
  nonce : Bytes := []
  aad : Bytes := []
  late : Bool := false
  src : Bytes := []
  deriving DecidableEq, Repr

/-- A received MPDU (R190): the unit and station it came from, its TID, SN and PN, key ID, flags, addresses and header, and
the pails that hold its body. -/
structure RxMpdu where
  unit : Nat
  handle : Nat
  tid : Nat
  sn : Nat
  pn : Nat := 0
  keyId : Nat := 0
  prot : Bool := false
  retry : Bool := false
  amsdu : Bool := false
  mgmt : Bool := false
  da : Bytes := []
  sa : Bytes := []
  mic : Bytes := []
  frame : Frame := {}
  job : Option Nat := none
  stored : Bool := false
  deriving DecidableEq, Repr

/-- A recipient scoreboard of one link and TID (R190): its window start and the SNs set. -/
structure Score where
  ws : Nat := 0
  seen : List Nat := []
  deriving DecidableEq, Repr

/-- A reorder buffer of one station and TID (R190, R191): the MPDUs held, the instant at which the oldest gap's hold ends, the
last WS sent to the link devices, and the last SN of a TID without session. WS stands in the context's BA_RX word. -/
structure Reorder where
  held : List RxMpdu := []
  gapTill : Option Nat := none
  wsSent : Nat := 0
  lastSn : Option Nat := none
  deriving DecidableEq, Repr

/-- An EDCA backoff (R185): its counter, once drawn, its contention window, and the AIFSN in force since the
last draw. -/
structure Edca where
  counter : Option Nat := none
  cw : Option Nat := none
  aifsn : Nat := 0
  deriving DecidableEq, Repr

/-- How the data of a user is coded (R204). -/
inductive Coding where
  | bcc | ldpc
  deriving DecidableEq, Repr

/-- The exchange in progress on a unit (R170-R172, R221): its plan slot, AC, the start of its PPDU, the end of its TXOP, the
MPDUs it carries, the BlockAckReqs sent first (handle, TID, SSN), the stations whose responses it asks for, its data
symbols, whether a response was missing, the sounding record that runs first with the leave it holds, and the bit maps of its stations whose report
is stored, and whose report is stored or counted missing; whether its RTS or MU-RTS awaits the CTS (R168); the uplink symbols
granted to each user of a trigger (R172); the coding of each user (R204); and the coefficients it sends with (R226). -/
structure Exchange where
  slot : Option Nat := none
  ac : Nat := 0
  start : Nat := 0
  txopEnd : Nat := 0
  mpdus : List Mpdu := []
  bars : List (Nat × Nat × Nat) := []
  asked : List Nat := []
  symbols : Nat := 0
  failed : Bool := false
  sound : Option Nat := none
  sndNeed : Nat := 0
  sndStored : Nat := 0
  sndSeen : Nat := 0
  rts : Bool := false
  grants : List (Nat × Nat) := []
  codes : List (Nat × Coding) := []
  coefs : List (Nat × List Host.Cell) := []
  deriving DecidableEq, Repr

/-- A response prepared for release at SIFS (R186, R48): its instant and the MPDUs it acknowledges. -/
structure Response where
  due : Nat
  acks : List (Nat × Nat × Nat) := []
  deriving DecidableEq, Repr

/-- A station's migration away or in (R196): the old handle and the instant until which it is accepted; the new home
waits for the moved state while `arrived` is false. -/
structure Move16 where
  old : Nat
  till : Nat
  arrived : Bool
  deriving DecidableEq, Repr

/-- The wireless MAC (chapter 08). Leases held by this device are keyed as WMAC_LEASEi; scoreboards by (index × 8 + TID) × 4 + unit;
reorder buffers, retransmissions and requests asked by index × 8 + TID; backoffs by unit × 4 + AC; exchanges, responses
and idle instants by unit; the PN of each unit's group frames; the key ID last seen from each station; the unassigned SNs of closed leases
(index × 8 + TID, first, count) that WS has not passed, the TIDs whose next grant owes a BlockAckReq, the
generation that a free index last held, the closures and MPDUs that reached a new home before its state (R196), and the
converted frames that wait for pails (unit, whether protected, frame). -/
structure Wmac where
  leases : SMap Lease := []
  granted : List HomeLease := []
  deferred : List LeaseReq := []
  asked : SMap Nat := []
  retx : SMap (List Mpdu) := []
  score : SMap Score := []
  reorder : SMap Reorder := []
  rxWait : List RxMpdu := []
  keySeen : SMap Nat := []
  edca : SMap Edca := []
  exch : SMap (Option Exchange) := []
  resp : SMap (Option Response) := []
  groupPn : SMap Nat := []
  moves : SMap Move16 := []
  holes : List (Nat × Nat × Nat) := []
  gap : SMap Bool := []
  gens : SMap Nat := []
  closes : List (Nat × Nat × Nat × Nat × Nat) := []
  early : List RxMpdu := []
  out : List (Nat × Bool × Bytes) := []
  deriving DecidableEq, Repr

/-- The formats of a PPDU (Table WBR-1). -/
inductive PhyFmt where
  | nonHt | ht | vht | heSu | heMu | heErSu | heTb | ehtMu | ehtTb
  deriving DecidableEq, Repr

/-- What the signal fields after L-SIG say (R203, R213): the format, the BW as a plan's, the MCS and the streams of the data, and
the punctured 20 MHz subchannels. -/
structure SigField where
  fmt : PhyFmt
  bw : Nat
  mcs : Nat
  nss : Nat
  punct : Nat := 0
  deriving DecidableEq, Repr

/-- A unit's reception (R212-R216): 0 search, 1 detected, 2 past L-SIG; the AGC freeze level in dBm above -128; the
instant at which the PPDU ends by L-SIG; the 20 MHz subchannels that the PPDU covers; the instant until which R213 holds
subchannels busy, and which; the subchannels with energy at or above ED_LVL, and since when the primary one has been idle. The
gain index the AGC holds; the WBx_DET fields in force since the detection (R219); the signal fields that passed, and the
iterations run on each LDPC codeword (R205). -/
structure Rx where
  st : Nat := 0
  level : Nat := 0
  till : Nat := 0
  cover : Nat := 0
  holdTill : Nat := 0
  hold : Nat := 0
  busy : Nat := 0
  idleAt : Nat := 0
  gain : Nat := 0
  restart : Bool := false
  jump : Nat := 0
  iter : Nat := 0
  sig : Option SigField := none
  runs : List Nat := []
  deriving DecidableEq, Repr

/-- One PPDU of a radio unit at the balls (R217): the instants of its first and after its last sample, the lead, profile and
lag of WBx_TXRAMP in force for it, and its chains. -/
structure Burst where
  at_ : Nat
  till : Nat
  lead : Nat
  prof : Nat
  lag : Nat
  chains : Nat
  deriving DecidableEq, Repr

/-- A pending sounding record (R220): its address, AC, expiry, and whether it needs and holds a full-chain grant. -/
structure Sound where
  addr : Nat
  ac : Nat
  till : Nat
  need : Nat
  held : Bool
  deriving DecidableEq, Repr

/-- A radio unit (chapter 09): its receiver, whether TX_EN waits for standing leave and whether it is to be returned after
the PPDU in progress, its pending sounding records, the PPDUs it has placed, and the control words last received from the
transceiver for each chain (R207). -/
structure Wb where
  rx : Rx := {}
  txAsk : Bool := false
  txOff : Bool := false
  sounds : List Sound := []
  bursts : List Burst := []
  words : SMap Nat := []
  deriving DecidableEq, Repr

/-- What FEL keeps of a unit in AON (R17, R208, R210): the instant its sample indices are aligned to, and whether an edge has
aligned it since its last enable. -/
structure FelUnit where
  aligned : Option Nat := none
  fresh : Bool := false
  deriving DecidableEq, Repr

/-- The front-end links' part in AON: FEL_SYSREF_STAMP and the units. -/
structure Fel where
  stamp : Nat := 0
  units : SMap FelUnit := []
  deriving DecidableEq, Repr

/-- A spatial-engine job held (R223): its record's address and whether it has its leave. -/
structure SpeJob where
  addr : Nat
  granted : Bool := false
  deriving DecidableEq, Repr

/-- A precoder entry (R225, R226): in use, its unit, the instant its job ended, the bank in use and its stations; the
generation stays when it is freed. -/
structure Prec where
  used : Bool := false
  unit : Nat := 0
  gen : Nat := 0
  at_ : Nat := 0
  bank : Nat := 0
  stas : List Nat := []
  deriving DecidableEq, Repr

/-- The spatial engine: the queued jobs, the job on each lane, the precoder entries. -/
structure Spe where
  queue : List Nat := []
  lanes : SMap SpeJob := []
  precs : SMap Prec := []
  deriving DecidableEq, Repr

/-- A pending transmit entry of the telemetry radio (R244): its index, neighbour, whether it is protected and its job, its
header as posted, and the transmissions made. -/
structure TlmTx where
  entry : Nat
  nbr : Nat
  prot : Bool := false
  job : Option Nat := none
  hdr : Bytes := []
  tries : Nat := 0
  deriving DecidableEq, Repr

/-- The slot being served (R240, R242): its ASN, the neighbour of its RX cell, its window, and its frequency in Hz and antenna. -/
structure TlmSlot where
  asn : Nat
  nbr : Nat
  opens : Nat
  closes : Nat
  freq : Nat := 0
  ant : Bool := false
  deriving DecidableEq, Repr

/-- A reception in progress (R233-R235): 1 detected, 2 SFD found, 3 PHR passed; its profile, the power and instant of its
detection, the slot it began in, its frame start (R242), whether it is coded, and the entry it has claimed with the frame's
length and FCS size. -/
structure TlmRx where
  st : Nat
  prof : Nat
  level : Nat
  at_ : Nat
  slot : TlmSlot
  start : Nat := 0
  coded : Bool := false
  entry : Nat := 0
  len : Nat := 0
  fcs : Nat := 2
  deriving DecidableEq, Repr

/-- A transmission at the TIQ port (R238): the instants of its frame's start and end, the ramp in force for it (step, lead and
lag in ns, and the amplitudes), its carrier frequency and antenna, the bits it sends from the preamble on, and the entry that
ends SENT with it. -/
structure TlmBurst where
  at_ : Nat
  till : Nat
  step : Nat
  lead : Nat
  lag : Nat
  amp : Nat
  freq : Nat
  ant : Bool
  bits : List Bool
  ends : Option Nat := none
  deriving DecidableEq, Repr

/-- An acknowledgement awaited from an end device (R244): its entry, whether the cell was shared, the window it may start in,
and, once it is being verified, its job, MIC, frame counter and the backoff draw should it fail. -/
structure TlmAwait where
  entry : Nat
  shared : Bool
  opens : Nat
  closes : Nat
  job : Option Nat := none
  mic : Bytes := []
  fc : Nat := 0
  draw : Nat := 0
  deriving DecidableEq, Repr

/-- A received frame not yet delivered (R245-R247): its entry and what its header will say; its verification job with the MIC
received; the verdict, 0 none yet, 1 accepted, 2 a repeat; and its acknowledgement: asked, due, its bytes up to its MIC, its
job, and whether it was sent. -/
structure TlmPend where
  entry : Nat
  nbr : Nat
  slot : TlmSlot
  off : Int
  start : Nat
  rssi : Nat
  prof : Nat
  coded : Bool
  outside : Bool
  secured : Bool
  src : Nat × Nat := (0, 0)
  fcs : Nat := 2
  fc : Nat := 0
  level : Nat := 0
  len : Nat := 0
  dsn : Nat := 0
  job : Option Nat := none
  mic : Bytes := []
  verdict : Nat := 0
  ackAsked : Bool := false
  due : Nat := 0
  ack : Bytes := []
  ackProt : Bool := false
  ackJob : Option Nat := none
  acked : Option Bool := none
  deriving DecidableEq, Repr

/-- The telemetry radio (chapter 10): pending transmit entries in post order; the reception in progress; receive entries, 1
claimed, 2 delivered; frames not yet delivered; the slot whose window may be open; the acknowledgements awaited; the next ASN
not served; the shared-cell backoff (exponent, count) of each neighbour; the transmissions placed; the carrier frequencies
and antennas the port is told, each from an instant on, newest last; and bit 9 of the control word that the transceiver
returns (R237). -/
structure Tlm where
  tx : List TlmTx := []
  rx : Option TlmRx := none
  rxSt : SMap Nat := []
  pend : List TlmPend := []
  slot : Option TlmSlot := none
  await : List TlmAwait := []
  served : Nat := 0
  backoff : SMap (Nat × Nat) := []
  air : List TlmBurst := []
  tunes : List (Nat × Nat × Bool) := []
  lockIn : Bool := true
  deriving DecidableEq, Repr

/-- What a remote operation carries (Table FAB-3). -/
inductive FabMsg where
  | store (a n : Nat) (v : Nat)
  | load (a n : Nat)
  | enq (handle tid : Nat) (b : Bytes)
  | msg (b : Bytes)
  | leaseReq (handle tid : Nat)
  | leaseGrant (handle tid sn len pn : Nat) (bar : Bool)
  | leaseClose (handle tid sn used : Nat)
  | leaseBar (handle tid sn : Nat)
  | leaseRecall (handle tid sn : Nat)
  | leaseReport (leases : List (Nat × Nat × Nat × Nat))
  | mpdu (m : RxMpdu) (body : Bytes)
  | bar (handle tid ssn : Nat)
  | ws (handle tid ws : Nat)
  | ba (handle word : Nat) (v : Nat)
  | moved (handle : Nat) (words : List Nat) (leases : List (Nat × Nat × Nat × Nat))
  | kickItems (set t : Nat) (items images : List Bytes)
  | kickReady (set : Nat)
  | kickCommit (set : Nat)
  | attest (req : Bytes)
  | other (kind : Nat)
  deriving DecidableEq, Repr

/-- KIND of an operation (Table FAB-3); the traffic of a station's reorder buffers and hand-over goes with MPDU. -/
def FabMsg.kind : FabMsg → Nat
  | .store .. => 1 | .load .. => 2 | .enq .. => 3 | .msg _ => 4
  | .leaseReq .. => 5 | .leaseGrant .. => 5 | .leaseClose .. => 5 | .leaseBar .. => 5 | .leaseRecall .. => 5 | .leaseReport _ => 5
  | .mpdu .. => 6 | .bar .. => 6 | .ws .. => 6 | .ba .. => 6 | .moved .. => 6
  | .kickItems .. => 7 | .kickReady _ => 7 | .kickCommit _ => 7
  | .attest _ => 9
  | .other k => k

/-- The data bytes that an operation carries, where the spec gives them. -/
def FabMsg.len : FabMsg → Nat
  | .store _ n _ => n | .enq _ _ b => b.length | .msg b => b.length | .mpdu _ b => b.length
  | .kickItems _ _ items images => 32 * items.length + 256 * images.length
  | .attest b => b.length
  | _ => 0

/-- Those bytes. -/
def FabMsg.data : FabMsg → Bytes
  | .store _ n v => leBytes n v | .enq _ _ b => b | .msg b => b | .mpdu _ b => b
  | .kickItems _ _ items images => items.flatMap id ++ images.flatMap id
  | .attest b => b
  | _ => []

/-- The header flit of an operation up to its ARGS (Table FAB-2); completions go on VC1. -/
def flitHdr (kind src dst status seq len : Nat) : Bytes :=
  leBytes 1 kind ++ leBytes 1 (src + 16 * dst) ++ leBytes 1 (if kind = 0x80 then 8 else 0) ++ leBytes 1 status ++ leBytes 4 seq ++
    leBytes 2 len ++ List.replicate 6 0

/-- Who waits for an operation's completion: a posted engine operation, a context's load, a store of context `c` posted when
`n` was the next operation's number, the attestation window, a kickoff. -/
inductive FabTok where
  | none_
  | op (id : Nat)
  | ctx (c : Nat)
  | store (c n : Nat)
  | att
  | kick (set dev : Nat)
  deriving DecidableEq, Repr

/-- An operation issued and not completed (R363): its number, content, the instant of issue and of its last sending. -/
structure FabOp where
  seq : Nat
  msg : FabMsg
  tok : FabTok
  at_ : Nat
  sent : Nat
  deriving DecidableEq, Repr

/-- A Falpo or bond link (R354-R357): its STATE, 0 down, 1 training, 2 up, 3 held; its SEQ and the last slot acknowledged, the next slot expected, the resends of the
oldest slot, the instant ACK last advanced, the credits of both channels, whether its next control word carries NAK, the peer's DEVICE_ID, whether it
clashes with this device (R358), and whether the ends have exchanged HELLO. -/
structure FabLink where
  st : Nat := 0
  seq : Nat := 0
  ack : Nat := 0
  expect : Nat := 0
  resends : Nat := 0
  ackAt : Nat := 0
  cred0 : Nat := 128
  cred1 : Nat := 128
  nak : Bool := false
  peer : Bytes := []
  clash : Bool := false
  hello : Bool := false
  deriving DecidableEq, Repr

/-- A member's link-state record (R359): its up links with their peers, its floor pace, its GEN and alias, the instant it
arrived, and since when its floor has been below, or at or above, 60 % of the median (R369). -/
structure LinkRec where
  links : List (Nat × Nat) := []
  floor : Nat := 0
  gen : Nat := 0
  alias_ : Option Nat := none
  at_ : Nat := 0
  lowSince : Option Nat := none
  highSince : Option Nat := none
  locked : Bool := false
  deriving DecidableEq, Repr

/-- The fabric (chapter 17): links; records by device; uncompleted operations, OP_SEQ and waiting issues by destination;
expected OP_SEQ and completions given (source × 2^32 + OP_SEQ) by source; the instant each route changed while its drain
lasts; the operations that were outstanding then; the time servo's parent, whether it has made its one step
at the join, and its run of good exchanges; the attestation
request in progress (peer, address); the headers sent, each with what else it carries. -/
structure Fab where
  links : SMap FabLink := []
  recs : SMap LinkRec := []
  ops : SMap (List FabOp) := []
  opSeq : SMap Nat := []
  wait : List (Nat × FabMsg × FabTok) := []
  expect : SMap Nat := []
  given : SMap (Nat × Nat) := []
  drain : SMap Nat := []
  parent : Option Nat := none
  stepped : Bool := false
  lockRun : Nat := 0
  floodAt : Nat := 0
  att : Option (Nat × Nat) := none
  wire : List (Bytes × List Nat) := []
  deriving DecidableEq, Repr

/-- One mirrored change (Table BND-2). -/
inductive Mir where
  | word (n m v : Nat)
  | lease (l : HomeLease)
  | unlease (n tid sn : Nat)
  | sta (n v : Nat)
  | qcfg (q w v : Nat)
  | key (k ctl limit warn : Nat) (mat : Bytes)
  | keyOff (k : Nat)
  | used (k v : Nat)
  deriving DecidableEq, Repr

/-- The twin bond (chapter 18): its port; the changes sent and not acknowledged, with the number of the next one; the
acknowledged TX_PN and SEQ of each station; the mirrored leases, AIR_STA and AIR_QCFG values; frames held for an
acknowledgement; the last heartbeat, the run of misses and the interval counted last; the stations taken; the members that
still owe a lease report and the instant grants resume; the changes of the twin applied and acknowledged; the instants of a detach or give-back in progress; the number after
the snapshot's last change; whether a member beside the twins has been seen; the attestation request in progress; the
hand-over messages sent. -/
structure Bnd where
  port : FabLink := {}
  out : List (Nat × Mir) := []
  next : Nat := 0
  ackPn : SMap Nat := []
  ackSeq : SMap Nat := []
  mLeases : List HomeLease := []
  mSta : SMap Word := []
  mQcfg : SMap Word := []
  held : List (Nat × Nat × Frame) := []
  hbSent : Nat := 0
  hbSeen : Nat := 0
  hbEdge : Nat := 0
  misses : Nat := 0
  taken : List Nat := []
  owing : List Nat := []
  resumeAt : Option Nat := none
  detachAt : Option Nat := none
  leaving : Bool := false
  giveAt : Option Nat := none
  applied : Nat := 0
  snapEnd : Nat := 0
  third : Bool := false
  att : Option Nat := none
  wire : List FabMsg := []
  deriving DecidableEq, Repr

/-- A part of a fabric-wide set that this device applies for another (R352). -/
structure KckPart where
  dev : Nat
  set : Nat
  t : Nat
  items : List Bytes
  images : List Bytes
  committed : Bool := false
  deriving DecidableEq, Repr

/-- Kickoff (chapter 16): the staging sets, the pending sets in submission order, the parts of other devices' sets, and for
each pending fabric-wide set the devices that have passed the check, are ready and have confirmed the commit. -/
structure Kck where
  sets : SMap KckSet := []
  order : List Nat := []
  parts : List KckPart := []
  passed : SMap (List Nat) := []
  ready : SMap (List Nat) := []
  confirmed : SMap (List Nat) := []
  deriving DecidableEq, Repr

/-- A boundary FIFO that can underrun or overrun (Table PAC-4): a JESD204C lane, the TIQ port, a sub-port with the bytes its
frame had sent, a Falpo link 0-5 or the bond port 6. -/
inductive BoundaryFifo where
  | jesdTx (lane : Nat)
  | jesdRx (lane : Nat)
  | tiqTx
  | tiqRx
  | ethTx (p sub sent : Nat)
  | ethRx (p sub : Nat)
  | linkTx (l : Nat)
  | linkRx (l : Nat)
  deriving DecidableEq, Repr

/-- The TAP (R439): its instruction register; the boundary cells' update and capture values, by ball in the order of
Table PKG-3, PERST_N last; and TEST_EN at the last PWRGD rise (R420). -/
structure Tap where
  ir : BitVec 8 := 0xFF
  cells : SMap Bool := []
  sampled : SMap Bool := []
  testEn : Bool := false
  deriving DecidableEq, Repr

end Sys2Proof.Machine
end

