-- ==== Sys2Proof/Syntax.lean ====
section
/-! DEFINITION. The commands of the block, one constructor for each row of the opcode table, in its order but one. Operands are the
fields of an instruction word, the indices and values of a register access, or what an event brings from outside. -/

namespace Sys2Proof

open Machine

/-- The commands. `c` is a context, `d`, `a`, `b` registers, `p` a predicate (or a port), `who` the initiator of an access,
`v` the value written, `qp` a queue pair and `cseq` a command on it, `x` a radio unit, `n` and `t` a station and its TID. -/
inductive Instr where
  /-- CSR_WRITE (R11). -/
  | csrWrite (who : Init) (off n : Nat) (v : Word)
  /-- RC_READ (R14). -/
  | rcRead (who : Init) (bar2 : Bool) (off n : Nat)
  /-- UNMAPPED_ACCESS (R20). -/
  | unmappedAccess (who : Init) (a n : Nat) (write : Bool) (v : Word)
  /-- DOWN_BLOCK_ACCESS (R394). -/
  | downBlockAccess (who : Init) (a n : Nat) (write : Bool) (v : Word)
  /-- PACE_WINDOW_END (R39). -/
  | paceWindowEnd (counts : List Nat)
  /-- AVS_ENABLE (R43). -/
  | avsEnable (who : Init) (cfg : Word) (mode cmd : List (Option Nat))
  /-- AVS_DISABLE (R41). -/
  | avsDisable (who : Init) (cfg : Word)
  /-- AVS_ITERATION (R43). -/
  | avsIteration
  /-- PMBUS_ATTEMPT_END (R44). -/
  | pmbusAttemptEnd (ok : Bool)
  /-- REF_LOST (R52). -/
  | refLost
  /-- REF_RETURN (R52). -/
  | refReturn
  /-- TMB_RATE_WRITE (R53). -/
  | tmbRateWrite (who : Init) (v : Word)
  /-- TIMEBASE_STEP (R53). -/
  | timebaseStep (who : Init) (v : Word)
  /-- TMB_TIME_READ (R51). -/
  | tmbTimeRead (who : Init) (half : Bool)
  /-- PPS_EDGE (R54). -/
  | ppsEdge (falling : Bool)
  /-- PPS_HOLDOVER (R54). -/
  | ppsHoldover
  /-- BOUNDARY_FIFO_EVENT (R50). -/
  | boundaryFifoEvent (f : BoundaryFifo)
  /-- RESPONSE_RELEASE (R48). -/
  | responseRelease (x : Nat) (ready : Bool)
  /-- POWER_ON_RESET (R60). -/
  | powerOnReset (low : Nat) (whole testEn : Bool)
  /-- STRAP_LATCH (R428). -/
  | strapLatch (refsel bootsrc fabid : Nat)
  /-- FUSE_SENSE (R60). -/
  | fuseSense (f : Fuses)
  /-- TIMEBASE_LOCK (R60). -/
  | timebaseLock
  /-- ROM_START (R60). -/
  | romStart
  /-- HOST_POWER_ON (R60). -/
  | hostPowerOn
  /-- IMAGE_SLOT_CHECK (R61). -/
  | imageSlotCheck (flash : Option (List (Nat × Bytes)))
  /-- FIRMWARE_START (R60). -/
  | firmwareStart
  /-- SEC_RCV_GO (R63). -/
  | secRcvGo (who : Init) (v : Word)
  /-- SEC_EXT_GO (R67). -/
  | secExtGo (who : Init) (v : Word)
  /-- MR_EXTEND (R68). -/
  | mrExtend
  /-- ATTEST_REQUEST (R76). -/
  | attestRequest (source tagA tagB : Nat) (bytes : Bytes)
  /-- ATTEST_SERVICE (R74). -/
  | attestService
  /-- ATTEST_REPORT_DONE (R76). -/
  | attestReportDone (reachable : Bool)
  /-- HIF_BAR2_BASE_WRITE (R79). -/
  | hifBar2BaseWrite (who : Init) (v : Word)
  /-- QUEUE_ENABLE (R81). -/
  | queueEnable (qp : Nat) (who : Init) (v : Word)
  /-- QUEUE_DISABLE (R81). -/
  | queueDisable (qp : Nat) (who : Init) (v : Word)
  /-- QUEUE_DRAINED (R81). -/
  | queueDrained (qp : Nat)
  /-- SQ_DOORBELL (R87). -/
  | sqDoorbell (qp : Nat) (who : Init) (v : Word)
  /-- CQ_DOORBELL (R87). -/
  | cqDoorbell (qp : Nat) (who : Init) (v : Word)
  /-- COMMAND_FETCH (R88). -/
  | commandFetch (qp : Nat) (host : List (Nat × Bytes))
  /-- HIF_NOP (R83). -/
  | hifNop (qp cseq : Nat)
  /-- TX_FRAME (R91). -/
  | txFrame (qp cseq : Nat) (data : Option Bytes)
  /-- RX_BUF (R92). -/
  | rxBuf (qp cseq : Nat)
  /-- MEM_WRITE (R83). -/
  | memWrite (qp cseq : Nat) (data : Option Bytes)
  /-- MEM_READ (R83). -/
  | memRead (qp cseq : Nat) (reachable : Bool)
  /-- IMAGE_LOAD (R120). -/
  | imageLoad (qp cseq : Nat) (data : Option Bytes)
  /-- IMAGE_UNLOAD (R121). -/
  | imageUnload (qp cseq : Nat)
  /-- STAGE_ITEMS (R347). -/
  | stageItems (qp cseq : Nat) (data : Option Bytes)
  /-- STAGE_DISCARD (R347). -/
  | stageDiscard (qp cseq : Nat)
  /-- KICKOFF (R348). -/
  | kickoff (qp cseq : Nat)
  /-- ATTEST (R93). -/
  | attest (qp cseq : Nat) (req : Option Bytes)
  /-- COMPLETION_POST (R86). -/
  | completionPost (qp cseq : Nat)
  /-- IRQ_TIMER (R94). -/
  | irqTimer (qp : Nat)
  /-- HOST_LOSS (R95). -/
  | hostLoss (cause v : Nat)
  /-- HOST_QUEUE_DELIVER (R307). -/
  | hostQueueDeliver (h : Nat) (reachable : Bool)
  /-- EVENT_DISPATCH (R110). -/
  | eventDispatch
  /-- EVENT_START (R103). -/
  | eventStart (c : Nat)
  /-- END_DRAIN_DONE (R141). -/
  | endDrainDone (c : Nat)
  /-- IMAGE_COMMIT (R120). -/
  | imageCommit
  /-- CORE_SWITCH (R121). -/
  | coreSwitch (n : Nat)
  /-- BENCH_HANDOVER (R123). -/
  | benchHandover (c : Nat)
  /-- DRK_BENCH_REL (R124). -/
  | drkBenchRel (who : Init) (v : Word)
  /-- ADD (R136). -/
  | add (c d a b : Nat)
  /-- SUB (R136). -/
  | sub (c d a b : Nat)
  /-- AND (R136). -/
  | and (c d a b : Nat)
  /-- OR (R136). -/
  | or (c d a b : Nat)
  /-- XOR (R136). -/
  | xor (c d a b : Nat)
  /-- ANDN (R136). -/
  | andn (c d a b : Nat)
  /-- SHL (R136). -/
  | shl (c d a b : Nat)
  /-- SHR (R136). -/
  | shr (c d a b : Nat)
  /-- SAR (R136). -/
  | sar (c d a b : Nat)
  /-- MUL (R136). -/
  | mul (c d a b : Nat)
  /-- MULHU (R136). -/
  | mulhu (c d a b : Nat)
  /-- MIN (R136). -/
  | min (c d a b : Nat)
  /-- MAX (R136). -/
  | max (c d a b : Nat)
  /-- MINU (R136). -/
  | minu (c d a b : Nat)
  /-- MAXU (R136). -/
  | maxu (c d a b : Nat)
  /-- POPC (R136). -/
  | popc (c d a : Nat)
  /-- CLZ (R136). -/
  | clz (c d a : Nat)
  /-- BSWAP (R136). -/
  | bswap (c d a : Nat)
  /-- BSWAP4 (R136). -/
  | bswap4 (c d a : Nat)
  /-- BSWAP2 (R136). -/
  | bswap2 (c d a : Nat)
  /-- SEL (R136). -/
  | sel (c d a b p : Nat)
  /-- CMP_EQ (R136). -/
  | cmpEq (c p a b : Nat)
  /-- CMP_NE (R136). -/
  | cmpNe (c p a b : Nat)
  /-- CMP_LT (R136). -/
  | cmpLt (c p a b : Nat)
  /-- CMP_GE (R136). -/
  | cmpGe (c p a b : Nat)
  /-- CMP_LTU (R136). -/
  | cmpLtu (c p a b : Nat)
  /-- CMP_GEU (R136). -/
  | cmpGeu (c p a b : Nat)
  /-- CMP_TST (R136). -/
  | cmpTst (c p a b : Nat)
  /-- CMP_NTST (R136). -/
  | cmpNtst (c p a b : Nat)
  /-- PAND (R136). -/
  | pand (c p a b : Nat)
  /-- POR (R136). -/
  | por (c p a b : Nat)
  /-- PXOR (R136). -/
  | pxor (c p a b : Nat)
  /-- PANDN (R136). -/
  | pandn (c p a b : Nat)
  /-- PNOT (R136). -/
  | pnot (c p a : Nat)
  /-- MFP (R136). -/
  | mfp (c d : Nat)
  /-- MTP (R136). -/
  | mtp (c a : Nat)
  /-- ADDI (R136). -/
  | addi (c d a imm : Nat)
  /-- ANDI (R136). -/
  | andi (c d a imm : Nat)
  /-- ORI (R136). -/
  | ori (c d a imm : Nat)
  /-- XORI (R136). -/
  | xori (c d a imm : Nat)
  /-- SHLI (R136). -/
  | shli (c d a n : Nat)
  /-- SHRI (R136). -/
  | shri (c d a n : Nat)
  /-- SARI (R136). -/
  | sari (c d a n : Nat)
  /-- LUI (R136). -/
  | lui (c d imm : Nat)
  /-- CMPI_EQ (R136). -/
  | cmpiEq (c p a imm : Nat)
  /-- CMPI_NE (R136). -/
  | cmpiNe (c p a imm : Nat)
  /-- CMPI_LT (R136). -/
  | cmpiLt (c p a imm : Nat)
  /-- CMPI_GE (R136). -/
  | cmpiGe (c p a imm : Nat)
  /-- CMPIU_EQ (R136). -/
  | cmpiuEq (c p a imm : Nat)
  /-- CMPIU_NE (R136). -/
  | cmpiuNe (c p a imm : Nat)
  /-- CMPIU_LTU (R136). -/
  | cmpiuLtu (c p a imm : Nat)
  /-- CMPIU_GEU (R136). -/
  | cmpiuGeu (c p a imm : Nat)
  /-- EXT (R136). -/
  | ext (c d a pos len : Nat)
  /-- EXTS (R136). -/
  | exts (c d a pos len : Nat)
  /-- INS (R136). -/
  | ins (c d a pos len : Nat)
  /-- CLRF (R136). -/
  | clrf (c d a pos len : Nat)
  /-- MOVX (R136). -/
  | movx (c d imm : Nat)
  /-- MOVXS (R136). -/
  | movxs (c d imm : Nat)
  /-- ORHX (R136). -/
  | orhx (c d a imm : Nat)
  /-- ADDX (R136). -/
  | addx (c d a imm : Nat)
  /-- LD1 (R137). -/
  | ld1 (c d a imm : Nat)
  /-- LD2 (R137). -/
  | ld2 (c d a imm : Nat)
  /-- LD4 (R137). -/
  | ld4 (c d a imm : Nat)
  /-- LD8 (R137). -/
  | ld8 (c d a imm : Nat)
  /-- LD1S (R137). -/
  | ld1s (c d a imm : Nat)
  /-- LD2S (R137). -/
  | ld2s (c d a imm : Nat)
  /-- LD4S (R137). -/
  | ld4s (c d a imm : Nat)
  /-- ST1 (R137). -/
  | st1 (c d a imm : Nat)
  /-- ST2 (R137). -/
  | st2 (c d a imm : Nat)
  /-- ST4 (R137). -/
  | st4 (c d a imm : Nat)
  /-- ST8 (R137). -/
  | st8 (c d a imm : Nat)
  /-- ASWAP (R139). -/
  | aswap (c d a b : Nat)
  /-- AADD (R139). -/
  | aadd (c d a b : Nat)
  /-- AOR (R139). -/
  | aor (c d a b : Nat)
  /-- AAND (R139). -/
  | aand (c d a b : Nat)
  /-- ACAS (R139). -/
  | acas (c d a b : Nat)
  /-- NOP (R140). -/
  | nop (c : Nat)
  /-- FENCE (R107). -/
  | fence (c : Nat)
  /-- END (R141). -/
  | endEvent (c : Nat)
  /-- MFS (R101). -/
  | mfs (c d n : Nat)
  /-- MTS (R102). -/
  | mts (c n a : Nat)
  /-- BT (R140). -/
  | bt (c p disp : Nat)
  /-- BF (R140). -/
  | bf (c p disp : Nat)
  /-- B (R140). -/
  | branchB (c disp : Nat)
  /-- CALLT (R140). -/
  | callt (c p disp : Nat)
  /-- CALLF (R140). -/
  | callf (c p disp : Nat)
  /-- CALL (R140). -/
  | call (c disp : Nat)
  /-- JR (R140). -/
  | jr (c d a : Nat)
  /-- PRED (R133). -/
  | pred (c p : Nat) (neg : Bool) (n : Nat)
  /-- HDR_FETCH (R145). -/
  | hdrFetch (c d a : Nat)
  /-- HDR_STORE (R145). -/
  | hdrStore (c d a : Nat)
  /-- HDR_PUSH (R145). -/
  | hdrPush (c d a : Nat)
  /-- HDR_PULL (R145). -/
  | hdrPull (c d a : Nat)
  /-- TREE_LOOKUP (R146). -/
  | treeLookup (c d a b t : Nat)
  /-- HASH (R147). -/
  | hash (c d a b : Nat)
  /-- HASHIX (R147). -/
  | hashix (c d a : Nat)
  /-- ENQ_AIR (R149). -/
  | enqAir (c d a b : Nat)
  /-- ENQ_TMG (R150). -/
  | enqTmg (c d a b : Nat)
  /-- DEQ_AIR (R149). -/
  | deqAir (c d a : Nat)
  /-- DROP (R148). -/
  | drop (c d a : Nat)
  /-- CLONE (R150). -/
  | clone (c d a : Nat)
  /-- CBLK_ENC (R151). -/
  | cblkEnc (c d a b : Nat)
  /-- CBLK_DEC (R151). -/
  | cblkDec (c d a b : Nat)
  /-- CLMUL (R152). -/
  | clmul (c d a b : Nat)
  /-- CLMULH (R152). -/
  | clmulh (c d a b : Nat)
  /-- WAIT (R153). -/
  | wait (c d a : Nat)
  /-- WAITANY (R153). -/
  | waitany (c d : Nat)
  /-- UNTIL (R153). -/
  | untilTime (c d a : Nat)
  /-- UNTIL_WAKE (R153). -/
  | untilWake (c : Nat)
  /-- LEAVE_ASK (R153). -/
  | leaveAsk (c d a b : Nat)
  /-- LEAVE_GIVE (R153). -/
  | leaveGive (c d a : Nat)
  /-- CHURN (R153). -/
  | churn (c : Nat)
  /-- TIME (R153). -/
  | time (c d : Nat)
  /-- TIMEFRAC (R153). -/
  | timefrac (c d : Nat)
  /-- STA_LD (R153). -/
  | staLd (c d a : Nat)
  /-- STA_ADD (R153). -/
  | staAdd (c d a b : Nat)
  /-- STA_OR (R153). -/
  | staOr (c d a b : Nat)
  /-- STA_ANDN (R153). -/
  | staAndn (c d a b : Nat)
  /-- STA_CAS (R153). -/
  | staCas (c d a b : Nat)
  /-- RENQ (R154). -/
  | renq (c d a b : Nat)
  /-- RMSG (R154). -/
  | rmsg (c d a b : Nat)
  /-- UNASSIGNED_INSTRUCTION (R132). -/
  | unassignedInstruction (c w : Nat)
  /-- ENGINE_OP_COMPLETE (R142). -/
  | engineOpComplete (id : Nat)
  /-- AIR_ENQUEUE (R156). -/
  | airEnqueue (op : Nat)
  /-- AIR_AGE_SCAN (R158). -/
  | airAgeScan
  /-- AIR_CTL_WRITE (R161). -/
  | airCtlWrite (who : Init) (v : Word)
  /-- AIR_WHEEL_SLOT (R164). -/
  | airWheelSlot
  /-- PLAN_REQUEST (R165). -/
  | planRequest (x : Nat)
  /-- PLAN_POST (R167). -/
  | planPost (x : Nat) (who : Init) (v : Word)
  /-- PLAN_EXPIRE (R170). -/
  | planExpire (x k : Nat)
  /-- BACKOFF_SLOT_DECISION (R185). -/
  | backoffSlotDecision (x : Nat) (draws : List Nat)
  /-- MPDU_MODULATION_START (R189). -/
  | mpduModulationStart (x i : Nat)
  /-- PPDU_END (R170). -/
  | ppduEnd (x : Nat)
  /-- ACK_RESPONSE_RECEIVE (R188). -/
  | ackResponseReceive (x n t : Nat) (sns : List Nat)
  /-- ACK_TIMEOUT (R188). -/
  | ackTimeout (x : Nat)
  /-- TWT_SP_START (R175). -/
  | twtSpStart (e : Nat)
  /-- TWT_SP_END (R175). -/
  | twtSpEnd (e : Nat)
  /-- AIR_TWT_WRITE (R174). -/
  | airTwtWrite (e word : Nat) (who : Init) (v : Word)
  /-- MPDU_RECEIVE (R190). -/
  | mpduReceive (x : Nat) (b : Bytes) (sat : List Nat)
  /-- MPDU_FORWARD_ARRIVE (R190). -/
  | mpduForwardArrive (m : RxMpdu) (body : Bytes)
  /-- REORDER_HOLD_EXPIRE (R191). -/
  | reorderHoldExpire (n t : Nat)
  /-- BLOCKACKREQ_RECEIVE (R191). -/
  | blockackreqReceive (x n t ssn : Nat)
  /-- WS_UPDATE_RECEIVE (R191). -/
  | wsUpdateReceive (handle t ws : Nat)
  /-- LEASE_REQUEST (R195). -/
  | leaseRequest (handle tid dev : Nat)
  /-- LEASE_GRANT_RECEIVE (R195). -/
  | leaseGrantReceive (handle tid sn len pn : Nat) (bar : Bool)
  /-- LEASE_DEFERRED_GRANT (R195). -/
  | leaseDeferredGrant
  /-- LEASE_CLOSE (R195). -/
  | leaseClose (handle tid dev sn used : Nat)
  /-- LEASE_RECALL (R195). -/
  | leaseRecall (n t lastUse : Nat)
  /-- MIGRATE_STATE_ARRIVE (R196). -/
  | migrateStateArrive (handle : Nat) (words : List Nat) (leases : List (Nat × Nat × Nat × Nat))
  /-- MIGRATE_GRACE_END (R196). -/
  | migrateGraceEnd (n : Nat)
  /-- PREAMBLE_DETECT (R212). -/
  | preambleDetect (x level cover : Nat) (words : List Nat)
  /-- LSIG_CHECK (R213). -/
  | lsigCheck (x lsig : Nat)
  /-- SIG_FIELD_CHECK (R213). -/
  | sigFieldCheck (x : Nat) (f : SigField) (crc : Bool)
  /-- RX_RESTART (R214). -/
  | rxRestart (x level : Nat)
  /-- CCA_CHANGE (R216). -/
  | ccaChange (x sub level : Nat)
  /-- SYSREF_EDGE (R208). -/
  | sysrefEdge (off : Nat)
  /-- FEL_LINK_ENABLE (R210). -/
  | felLinkEnable (x : Nat) (who : Init) (v : Word)
  /-- FEL_LINK_UP (R210). -/
  | felLinkUp (x st : Nat)
  /-- FEL_LINK_LOSS (R211). -/
  | felLinkLoss (x lane : Nat)
  /-- TX_ENABLE (R218). -/
  | txEnable (x : Nat) (who : Init) (v : Word)
  /-- TX_DISABLE (R218). -/
  | txDisable (x : Nat) (who : Init) (v : Word)
  /-- SND_POST (R220). -/
  | sndPost (x : Nat) (who : Init) (v : Word)
  /-- SOUNDING_EXPIRE (R221). -/
  | soundingExpire (x : Nat)
  /-- FEEDBACK_RECEIVE (R222). -/
  | feedbackReceive (x i ndpAt : Nat) (report : Option Bytes)
  /-- SPE_SUBMIT (R223). -/
  | speSubmit (who : Init) (v : Word)
  /-- SPE_JOB_START (R224). -/
  | speJobStart (lane : Nat)
  /-- SPE_JOB_DONE (R224). -/
  | speJobDone (lane : Nat)
  /-- PRECODER_EXPIRE (R225). -/
  | precoderExpire (e : Nat)
  /-- TLM_ENABLE (R244). -/
  | tlmEnable (who : Init) (v : Word)
  /-- TLM_DISABLE (R244). -/
  | tlmDisable (who : Init) (v : Word)
  /-- TLM_SLOT_START (R240). -/
  | tlmSlotStart (lock : Bool)
  /-- TLM_PREAMBLE_DETECT (R233). -/
  | tlmPreambleDetect (syms : List Nat) (level : Nat)
  /-- SFD_FOUND (R233). -/
  | sfdFound (window : Nat)
  /-- SFD_TIMEOUT (R233). -/
  | sfdTimeout
  /-- PHR_CHECK (R234). -/
  | phrCheck (soft : List Int)
  /-- RX_REARM (R235). -/
  | rxRearm (syms : List Nat) (level : Nat)
  /-- TLM_FRAME_RECEIVE (R245). -/
  | tlmFrameReceive (soft : List Int) (rssi : Nat)
  /-- ENHANCED_ACK_RELEASE (R239). -/
  | enhancedAckRelease (ready : Bool)
  /-- TLM_TXPOST (R244). -/
  | tlmTxpost (who : Init) (v : Word)
  /-- TLM_ACK_RECEIVE (R244). -/
  | tlmAckReceive (b : Bytes) (start draw : Nat)
  /-- TLM_ACK_WAIT_EXPIRE (R244). -/
  | tlmAckWaitExpire (draw : Nat)
  /-- TLM_ENTRY_EXPIRE (R244). -/
  | tlmEntryExpire (i : Nat)
  /-- TLM_RXFREE (R248). -/
  | tlmRxfree (who : Init) (v : Word)
  /-- NEIGHBOUR_VALIDATE (R241). -/
  | neighbourValidate (n : Nat) (who : Init) (v : Word)
  /-- NEIGHBOUR_INVALIDATE (R241). -/
  | neighbourInvalidate (n : Nat) (who : Init) (v : Word)
  /-- REFIND (R243). -/
  | refind (n : Nat)
  /-- ETH_MODE_WRITE (R253). -/
  | ethModeWrite (p : Nat) (who : Init) (v : Word)
  /-- SUBPORT_DISABLE (R253). -/
  | subportDisable (p sub : Nat) (who : Init)
  /-- ETH_LINK_CHANGE (R253). -/
  | ethLinkChange (p sub : Nat) (partner : Option EthPhy)
  /-- ETH_FRAME_FATE (R256). -/
  | ethFrameFate (p sub : Nat) (b : Bytes)
  /-- ETH_FRAME_END (R254). -/
  | ethFrameEnd (p sub : Nat)
  /-- PAUSE_FRAME_RECEIVE (R262). -/
  | pauseFrameReceive (p sub : Nat) (b : Bytes)
  /-- PAUSE_TIMER_EXPIRE (R262). -/
  | pauseTimerExpire (p sub prio : Nat)
  /-- PAUSE_REFRESH (R261). -/
  | pauseRefresh (p sub prio : Nat)
  /-- WATCHDOG_TRIP (R262). -/
  | watchdogTrip (p sub prio : Nat)
  /-- STORM_CLEAR (R262). -/
  | stormClear (p sub prio : Nat)
  /-- TXTS_POP (R267). -/
  | txtsPop (p : Nat) (who : Init)
  /-- FRAME_TX_START (R306). -/
  | frameTxStart (p sub : Nat)
  /-- FRAME_TX_END (R266). -/
  | frameTxEnd (p sub : Nat)
  /-- SKIMMER_PASS (R271). -/
  | skimmerPass
  /-- SKM_INDIR_WRITE (R286). -/
  | skmIndirWrite (i : Nat) (who : Init) (v : Word)
  /-- INDIR_RELEASE (R286). -/
  | indirRelease (i : Nat)
  /-- TMG_ENQUEUE (R297). -/
  | tmgEnqueue (op : Nat)
  /-- TMG_AGE_SCAN (R298). -/
  | tmgAgeScan
  /-- CALENDAR_WHEEL_SLOT (R304). -/
  | calendarWheelSlot
  /-- GATE_ENTRY (R308). -/
  | gateEntry (k : Nat)
  /-- GATE_SWITCH_START (R310). -/
  | gateSwitchStart (k : Nat)
  /-- STRICT_AUTO_CLEAR (R302). -/
  | strictAutoClear
  /-- POLICER_WRITE (R300). -/
  | policerWrite (i word : Nat) (who : Init) (v : Word)
  /-- SHAPER_WRITE (R305). -/
  | shaperWrite (queue : Bool) (i : Nat) (who : Init) (v : Word)
  /-- CPH_ADMIT (R315). -/
  | cphAdmit (op : Nat)
  /-- AES_BLOCK_DONE (R314). -/
  | aesBlockDone (aes : Nat)
  /-- CPH_MICROSECOND (R316). -/
  | cphMicrosecond
  /-- BURST_RETURN (R316). -/
  | burstReturn
  /-- BURST_RETRY (R316). -/
  | burstRetry
  /-- KEY_INSTALL (R318). -/
  | keyInstall (k : Nat) (who : Init) (v : Word)
  /-- KEY_WITHDRAW (R318). -/
  | keyWithdraw (k : Nat) (who : Init) (v : Word)
  /-- KEY_LIMIT_WRITE (R319). -/
  | keyLimitWrite (k : Nat) (who : Init) (v : Word)
  /-- CIPHER_JOB_DONE (R322). -/
  | cipherJobDone (who : Init) (v : Word)
  /-- CIPHER_RX_TIMEOUT (R322). -/
  | cipherRxTimeout (slot : Nat)
  /-- MEM_PAIL_WRITE (R328). -/
  | memPailWrite (d : Bool) (word : Nat) (who : Init) (v : Word)
  /-- DRC_ORDER_WRITE (R330). -/
  | drcOrderWrite (r : Nat) (who : Init) (v : Word)
  /-- DRAM_INIT_DONE (R331). -/
  | dramInitDone
  /-- RETRAIN_DUE (R332). -/
  | retrainDue (ch temp : Nat)
  /-- RETRAIN_BATCH_END (R332). -/
  | retrainBatchEnd (temp : Nat)
  /-- RETRAIN_LATE (R332). -/
  | retrainLate (ch : Nat)
  /-- WHISTLE (R333). -/
  | whistle (port a need arrive p sub sent : Nat)
  /-- SCRUB_READ (R340). -/
  | scrubRead (sram : Bool)
  /-- MEM_INJECT_ARM (R343). -/
  | memInjectArm (who : Init) (v : Word)
  /-- KICKOFF_INSTANT (R351). -/
  | kickoffInstant (dev set : Nat)
  /-- KICK_DISTRIBUTE_RECEIVE (R352). -/
  | kickDistributeReceive (src set t : Nat) (items images : List Bytes)
  /-- KICK_READY (R352). -/
  | kickReady (dev set : Nat)
  /-- KICK_COMMIT_RECEIVE (R352). -/
  | kickCommitReceive (src set : Nat)
  /-- FAB_CTL_WRITE (R354). -/
  | fabCtlWrite (who : Init) (v : Word)
  /-- FAB_LINK_UP (R354). -/
  | fabLinkUp (l : Nat)
  /-- HELLO_RECEIVE (R354). -/
  | helloReceive (l fabid plink : Nat) (id : Bytes)
  /-- FLIT_BLOCK_RECEIVE (R356). -/
  | flitBlockReceive (l seq ack : Nat) (nak : Bool) (c0 c1 ce : Nat) (bad : Option Nat) (head : Bool) (hops : Nat)
  /-- LINK_RESEND_TIMEOUT (R356). -/
  | linkResendTimeout (l : Nat)
  /-- LINK_STATE_FLOOD (R359). -/
  | linkStateFlood
  /-- LINK_STATE_RECORD_RECEIVE (R359). -/
  | linkStateRecordReceive (src : Nat) (links : List (Nat × Nat)) (floor gen : Nat) (alias_ : Option Nat) (locked : Bool)
  /-- REMOTE_OP_EXECUTE (R363). -/
  | remoteOpExecute (src seq : Nat) (m : FabMsg)
  /-- REMOTE_MSG_EVENT (R366). -/
  | remoteMsgEvent (src : Nat) (b : Bytes)
  /-- REMOTE_MSG_FRAME (R366). -/
  | remoteMsgFrame (src len off arg : Nat)
  /-- REMOTE_COMPLETION_RECEIVE (R364). -/
  | remoteCompletionReceive (d seq st : Nat) (data : Bytes) (ue : Bool)
  /-- E2E_RESEND (R363). -/
  | e2eResend (d : Nat)
  /-- LOST_TIMEOUT (R364). -/
  | lostTimeout (d : Nat)
  /-- FAB_ATT_WRITE (R367). -/
  | fabAttWrite (who : Init) (v : Word)
  /-- TIME_EXCHANGE (R368). -/
  | timeExchange
  /-- TIME_PAIR_RECEIVE (R368). -/
  | timePairReceive (t1 t2 t3 t4 : Nat)
  /-- BOND_HEARTBEAT (R378). -/
  | bondHeartbeat
  /-- HEARTBEAT_MISS (R378). -/
  | heartbeatMiss
  /-- TAKEOVER_LEASE_REPORT (R380). -/
  | takeoverLeaseReport (dev : Nat) (l : List (Nat × Nat × Nat × Nat))
  /-- TAKEOVER_GRANT_RESUME (R380). -/
  | takeoverGrantResume
  /-- MIRROR_WRITE_RECEIVE (R374). -/
  | mirrorWriteReceive (m : Mir)
  /-- MIRROR_ACK_RECEIVE (R376). -/
  | mirrorAckReceive (upTo : Nat)
  /-- BND_ENABLE (R382). -/
  | bndEnable (who : Init) (v : Word)
  /-- BND_DISABLE (R379). -/
  | bndDisable (who : Init) (v : Word)
  /-- CATCHUP_START (R382). -/
  | catchupStart
  /-- CATCHUP_DONE (R382). -/
  | catchupDone
  /-- DETACH (R384). -/
  | detach (who : Init) (v : Word)
  /-- DETACH_INSTANT (R384). -/
  | detachInstant
  /-- DETACH_COMPLETE (R384). -/
  | detachComplete
  /-- GIVEBACK (R383). -/
  | giveback (who : Init) (v : Word)
  /-- GIVEBACK_INSTANT (R383). -/
  | givebackInstant (ok : Bool)
  /-- DOMAIN_TARGET_ON (R392). -/
  | domainTargetOn (d : Nat) (who : Init)
  /-- DOMAIN_TARGET_RETENTION (R443). -/
  | domainTargetRetention (d : Nat) (who : Init)
  /-- DOMAIN_TARGET_OFF (R391). -/
  | domainTargetOff (d : Nat) (who : Init)
  /-- DOMAIN_SWITCH_ON (R392). -/
  | domainSwitchOn (d : Nat)
  /-- DOMAIN_SWITCH_DOWN (R391). -/
  | domainSwitchDown (d : Nat)
  /-- LEAVE_GRANT (R396). -/
  | leaveGrant
  /-- PWR_REF_BUDGET_WRITE (R398). -/
  | pwrRefBudgetWrite (who : Init) (v : Word)
  /-- RESET_PIN (R400). -/
  | resetPin (low : Nat) (whole : Bool)
  /-- PWR_RESET (R400). -/
  | pwrReset (who : Init) (v : Word)
  /-- WATCHDOG_EXPIRE (R400). -/
  | watchdogExpire
  /-- PWRGD_FALL (R425). -/
  | pwrgdFall
  /-- TAP_RESET (R400). -/
  | tapReset
  /-- PMC_FREEZE (R406). -/
  | pmcFreeze (who : Init) (freeze : Bool)
  /-- PMC_CLEAR (R406). -/
  | pmcClear (who : Init)
  /-- TAG_SAMPLE (R407). -/
  | tagSample (core wait : Nat)
  /-- SCB_EVT_ACK_WRITE (R409). -/
  | scbEvtAckWrite (who : Init) (v : Word)
  /-- SCB_TIME_RECORD (R411). -/
  | scbTimeRecord
  /-- SCB_STOP (R413). -/
  | scbStop (who : Init) (v : Word)
  /-- EXTEST (R439). -/
  | extest (scan : Option (Nat × Nat))
  /-- SAMPLE_PRELOAD (R439). -/
  | samplePreload (balls shifted : Nat)
  /-- CLAMP (R439). -/
  | clamp
  /-- HIGHZ (R439). -/
  | highz
  /-- BYPASS (R439). -/
  | bypass (ir : BitVec 8)
  /-- BAR2_WRITE (R79). -/
  | bar2Write (off n : Nat) (v : Word)
  /-- KEY_EXPANSION_DONE (R318). -/
  | keyExpansionDone (k : Nat)
  /-- BOND_HEARTBEAT_RECEIVE (R378). -/
  | bondHeartbeatReceive
  /-- BND_ATT_WRITE (R372). -/
  | bndAttWrite (who : Init) (v : Word)
  /-- TWIN_REPORT_RECEIVE (R372). -/
  | twinReportReceive (code : Nat) (report : Bytes)
  /-- DETACH_AGREE_RECEIVE (R384). -/
  | detachAgreeReceive (t : Nat)
  /-- DETACH_STATE_ARRIVE (R384). -/
  | detachStateArrive (handle : Nat) (words : List Nat) (leases : List (Nat × Nat × Nat × Nat)) (mpdus : List (RxMpdu × Bytes))
  deriving DecidableEq, Repr

end Sys2Proof
end

