-- ==== Sys2Proof/Decode.lean ====
section
/-! DEFINITION. The words of Dreka instructions (R131-R133, Tables DRI-1 to DRI-12): the command that an instruction word
spells for a context, and the words of a command. The opcode table gives its rows no bits, so a table word spells no
command. -/

namespace Sys2Proof

/-- The command that a word spells by the opcode table's bits: the table gives none. -/
def decodeTableWord (_nbits _w : Nat) : Option Instr := none

/-! ## Fields of a word (R131, Table DRI-1) -/

/-- `n` bits of a word from bit `lo` up. -/
def wordField (w lo n : Nat) : Nat := w / 2 ^ lo % 2 ^ n

/-- An A-form word: major, d, a, b, fn. -/
def formA (maj d a b fn : Nat) : Nat := maj * 2 ^ 26 + d * 2 ^ 21 + a * 2 ^ 16 + b * 2 ^ 11 + fn
/-- An I- or M-form word: major, d, a, a 16-bit immediate. -/
def formI (maj d a imm : Nat) : Nat := maj * 2 ^ 26 + d * 2 ^ 21 + a * 2 ^ 16 + imm
/-- A B-form word: major, NEG, predicate, a 21-bit displacement. -/
def formB (maj neg p disp : Nat) : Nat := maj * 2 ^ 26 + neg * 2 ^ 25 + p * 2 ^ 21 + disp
/-- An F-form word: major 0x0C, d, a, pos, length minus 1, fn. -/
def formF (d a pos len fn : Nat) : Nat := 0x0C * 2 ^ 26 + d * 2 ^ 21 + a * 2 ^ 16 + pos * 2 ^ 10 + (len - 1) * 2 ^ 4 + fn
/-- An E-form word: major 0x28, d, a, b, eng, fn. -/
def formE (d a b eng fn : Nat) : Nat := 0x28 * 2 ^ 26 + d * 2 ^ 21 + a * 2 ^ 16 + b * 2 ^ 11 + eng * 2 ^ 6 + fn
/-- A PRED word (R133): the predicate, NEG, the number of guarded instructions. -/
def formPred (p neg n : Nat) : Nat := 0x3E * 2 ^ 26 + p * 2 ^ 23 + neg * 2 ^ 22 + (n - 1) * 2 ^ 20

/-! ## Decoding, group by group (Table DRI-2) -/

/-- Major 0x01 (Table DRI-3). -/
def decInt (c d a b fn : Nat) : Option Instr :=
  if fn = 0 then some (.add c d a b)
  else if fn = 1 then some (.sub c d a b)
  else if fn = 2 then some (.and c d a b)
  else if fn = 3 then some (.or c d a b)
  else if fn = 4 then some (.xor c d a b)
  else if fn = 5 then some (.andn c d a b)
  else if fn = 6 then some (.shl c d a b)
  else if fn = 7 then some (.shr c d a b)
  else if fn = 8 then some (.sar c d a b)
  else if fn = 9 then some (.mul c d a b)
  else if fn = 10 then some (.mulhu c d a b)
  else if fn = 11 then some (.min c d a b)
  else if fn = 12 then some (.max c d a b)
  else if fn = 13 then some (.minu c d a b)
  else if fn = 14 then some (.maxu c d a b)
  else if fn = 15 ∧ b = 0 then some (.popc c d a)
  else if fn = 16 ∧ b = 0 then some (.clz c d a)
  else if fn = 17 ∧ b = 0 then some (.bswap c d a)
  else if fn = 18 ∧ b = 0 then some (.bswap4 c d a)
  else if fn = 19 ∧ b = 0 then some (.bswap2 c d a)
  else if 32 ≤ fn ∧ fn < 40 then some (.sel c d a b (fn - 32))
  else none

/-- Major 0x02 (Table DRI-4): the predicate is d[23:21]. -/
def decCmp (c p a b fn : Nat) : Option Instr :=
  if 8 ≤ p then none
  else if fn = 0 then some (.cmpEq c p a b)
  else if fn = 1 then some (.cmpNe c p a b)
  else if fn = 2 then some (.cmpLt c p a b)
  else if fn = 3 then some (.cmpGe c p a b)
  else if fn = 4 then some (.cmpLtu c p a b)
  else if fn = 5 then some (.cmpGeu c p a b)
  else if fn = 6 then some (.cmpTst c p a b)
  else if fn = 7 then some (.cmpNtst c p a b)
  else none

/-- Major 0x03 (Table DRI-4): predicates in 5-bit fields whose two high bits are 0. -/
def decPred (c d a b fn : Nat) : Option Instr :=
  if fn = 5 then (if a = 0 ∧ b = 0 then some (.mfp c d) else none)
  else if fn = 6 then (if d = 0 ∧ b = 0 then some (.mtp c a) else none)
  else if 8 ≤ d ∨ 8 ≤ a ∨ 8 ≤ b then none
  else if fn = 0 then some (.pand c d a b)
  else if fn = 1 then some (.por c d a b)
  else if fn = 2 then some (.pxor c d a b)
  else if fn = 3 then some (.pandn c d a b)
  else if fn = 4 ∧ b = 0 then some (.pnot c d a)
  else none

/-- Major 0x08 (Table DRI-5): imm[7:6] selects the kind. -/
def decShift (c d a imm : Nat) : Option Instr :=
  if imm / 64 = 0 then some (.shli c d a imm)
  else if imm / 64 = 1 then some (.shri c d a (imm - 64))
  else if imm / 64 = 2 then some (.sari c d a (imm - 128))
  else none

/-- Majors 0x04-0x0B (Table DRI-5); for the compares, d[25:24] selects the test and d[23:21] names the predicate. -/
def decImm (c maj d a imm : Nat) : Option Instr :=
  if maj = 0x04 then some (.addi c d a imm)
  else if maj = 0x05 then some (.andi c d a imm)
  else if maj = 0x06 then some (.ori c d a imm)
  else if maj = 0x07 then some (.xori c d a imm)
  else if maj = 0x08 then decShift c d a imm
  else if maj = 0x09 then (if a = 0 then some (.lui c d imm) else none)
  else if maj = 0x0A then
    (if d / 8 = 0 then some (.cmpiEq c d a imm)
    else if d / 8 = 1 then some (.cmpiNe c (d - 8) a imm)
    else if d / 8 = 2 then some (.cmpiLt c (d - 16) a imm)
    else some (.cmpiGe c (d - 24) a imm))
  else if maj = 0x0B then
    (if d / 8 = 0 then some (.cmpiuEq c d a imm)
    else if d / 8 = 1 then some (.cmpiuNe c (d - 8) a imm)
    else if d / 8 = 2 then some (.cmpiuLtu c (d - 16) a imm)
    else some (.cmpiuGeu c (d - 24) a imm))
  else none

/-- Major 0x0C (Table DRI-6): the encoded length is the length minus 1. -/
def decField (c d a pos len1 fn : Nat) : Option Instr :=
  if 64 < pos + len1 + 1 then none
  else if fn = 0 then some (.ext c d a pos (len1 + 1))
  else if fn = 1 then some (.exts c d a pos (len1 + 1))
  else if fn = 2 then some (.ins c d a pos (len1 + 1))
  else if fn = 3 then some (.clrf c d a pos (len1 + 1))
  else none

/-- Majors 0x10-0x1B (Table DRI-8). -/
def decMem (c maj d a imm : Nat) : Option Instr :=
  if maj = 0x10 then some (.ld1 c d a imm)
  else if maj = 0x11 then some (.ld2 c d a imm)
  else if maj = 0x12 then some (.ld4 c d a imm)
  else if maj = 0x13 then some (.ld8 c d a imm)
  else if maj = 0x14 then some (.ld1s c d a imm)
  else if maj = 0x15 then some (.ld2s c d a imm)
  else if maj = 0x16 then some (.ld4s c d a imm)
  else if maj = 0x18 then some (.st1 c d a imm)
  else if maj = 0x19 then some (.st2 c d a imm)
  else if maj = 0x1A then some (.st4 c d a imm)
  else if maj = 0x1B then some (.st8 c d a imm)
  else none

/-- Major 0x1C (Table DRI-10). -/
def decAtomic (c d a b fn : Nat) : Option Instr :=
  if fn = 0 then some (.aswap c d a b)
  else if fn = 1 then some (.aadd c d a b)
  else if fn = 2 then some (.aor c d a b)
  else if fn = 3 then some (.aand c d a b)
  else if fn = 4 then some (.acas c d a b)
  else none

/-- Major 0x1D (Table DRI-11). -/
def decSystem (c d a b fn : Nat) : Option Instr :=
  if b ≠ 0 then none
  else if fn = 3 then some (.mfs c d a)
  else if fn = 4 then some (.mts c d a)
  else if d ≠ 0 ∨ a ≠ 0 then none
  else if fn = 0 then some (.nop c)
  else if fn = 1 then some (.fence c)
  else if fn = 2 then some (.endEvent c)
  else none

/-- Majors 0x20 and 0x21 (R131, R140): p0 with NEG = 0 is the unconditional form. -/
def decBranch (c maj neg z24 p disp : Nat) : Option Instr :=
  if z24 ≠ 0 then none
  else if maj = 0x20 then
    (if neg = 1 then some (.bf c p disp) else if p = 0 then some (.branchB c disp) else some (.bt c p disp))
  else (if neg = 1 then some (.callf c p disp) else if p = 0 then some (.call c disp) else some (.callt c p disp))

/-- Major 0x28 (Table DRI-12). -/
def decEngine (c d a b eng fn : Nat) : Option Instr :=
  if eng = 0x00 then
    (if fn = 0 then some (.hdrFetch c d a)
    else if fn = 1 then some (.hdrStore c d a)
    else if fn = 2 then some (.hdrPush c d a)
    else if fn = 3 then some (.hdrPull c d a)
    else none)
  else if eng = 0x01 then (if fn < 4 then some (.treeLookup c d a b fn) else none)
  else if eng = 0x02 then (if fn = 0 then some (.hash c d a b) else if fn = 1 then some (.hashix c d a) else none)
  else if eng = 0x03 then
    (if fn = 0 then some (.enqAir c d a b)
    else if fn = 1 then some (.enqTmg c d a b)
    else if fn = 2 then some (.deqAir c d a)
    else if fn = 3 then some (.drop c d a)
    else if fn = 4 then some (.clone c d a)
    else none)
  else if eng = 0x04 then (if fn = 0 then some (.cblkEnc c d a b) else if fn = 1 then some (.cblkDec c d a b) else none)
  else if eng = 0x05 then (if fn = 0 then some (.clmul c d a b) else if fn = 1 then some (.clmulh c d a b) else none)
  else if eng = 0x06 then
    (if fn = 0 then some (.wait c d a)
    else if fn = 1 then some (.waitany c d)
    else if fn = 2 then some (.untilTime c d a)
    else none)
  else if eng = 0x07 then
    (if fn = 0 then some (.leaveAsk c d a b) else if fn = 1 then some (.leaveGive c d a) else none)
  else if eng = 0x08 then (if fn = 0 ∧ d = 0 ∧ a = 0 ∧ b = 0 then some (.churn c) else none)
  else if eng = 0x09 then (if fn = 0 then some (.time c d) else if fn = 1 then some (.timefrac c d) else none)
  else if eng = 0x0A then
    (if fn = 0 then some (.staLd c d a)
    else if fn = 1 then some (.staAdd c d a b)
    else if fn = 2 then some (.staOr c d a b)
    else if fn = 3 then some (.staAndn c d a b)
    else if fn = 4 then some (.staCas c d a b)
    else none)
  else if eng = 0x0B then (if fn = 0 then some (.renq c d a b) else if fn = 1 then some (.rmsg c d a b) else none)
  else none

/-- Major 0x30 (Table DRI-7); `imm` is the second word. -/
def decWide (c d a fn imm : Nat) : Option Instr :=
  if fn = 0 then (if a = 0 then some (.movx c d imm) else none)
  else if fn = 1 then (if a = 0 then some (.movxs c d imm) else none)
  else if fn = 2 then some (.orhx c d a imm)
  else if fn = 3 then some (.addx c d a imm)
  else none

/-- The command that an instruction word, with the word after it, spells for a context; none for an unassigned encoding
(R132). -/
def decodeDreka (c w next : Nat) : Option Instr :=
  let maj := wordField w 26 6
  let d := wordField w 21 5
  let a := wordField w 16 5
  let b := wordField w 11 5
  if maj = 0x01 then decInt c d a b (wordField w 0 11)
  else if maj = 0x02 then decCmp c d a b (wordField w 0 11)
  else if maj = 0x03 then decPred c d a b (wordField w 0 11)
  else if maj = 0x0C then decField c d a (wordField w 10 6) (wordField w 4 6) (wordField w 0 4)
  else if maj < 0x10 then decImm c maj d a (wordField w 0 16)
  else if maj < 0x1C then decMem c maj d a (wordField w 0 16)
  else if maj = 0x1C then decAtomic c d a b (wordField w 0 11)
  else if maj = 0x1D then decSystem c d a b (wordField w 0 11)
  else if maj = 0x20 ∨ maj = 0x21 then
    decBranch c maj (wordField w 25 1) (wordField w 24 1) (wordField w 21 3) (wordField w 0 21)
  else if maj = 0x22 then (if b = 0 ∧ wordField w 0 11 = 0 then some (.jr c d a) else none)
  else if maj = 0x28 then decEngine c d a b (wordField w 6 5) (wordField w 0 6)
  else if maj = 0x30 then decWide c d a (wordField w 0 16) next
  else if maj = 0x3E then
    (if wordField w 0 20 = 0 then
      some (.pred c (wordField w 23 3) (wordField w 22 1 == 1) (wordField w 20 2 + 1))
    else none)
  else none

/-- The command that a context's fetched words stand for: an unassigned word is itself a command (R132). -/
def fetchedDreka (c w next : Nat) : Instr := (decodeDreka c w next).getD (.unassignedInstruction c w)

/-! ## Encoding -/

/-- The word of a command that a context issues as one instruction word; none for any other command. -/
def encodeDreka : Instr → Option Nat
  | .add _ d a b => some (formA 0x01 d a b 0)
  | .sub _ d a b => some (formA 0x01 d a b 1)
  | .and _ d a b => some (formA 0x01 d a b 2)
  | .or _ d a b => some (formA 0x01 d a b 3)
  | .xor _ d a b => some (formA 0x01 d a b 4)
  | .andn _ d a b => some (formA 0x01 d a b 5)
  | .shl _ d a b => some (formA 0x01 d a b 6)
  | .shr _ d a b => some (formA 0x01 d a b 7)
  | .sar _ d a b => some (formA 0x01 d a b 8)
  | .mul _ d a b => some (formA 0x01 d a b 9)
  | .mulhu _ d a b => some (formA 0x01 d a b 10)
  | .min _ d a b => some (formA 0x01 d a b 11)
  | .max _ d a b => some (formA 0x01 d a b 12)
  | .minu _ d a b => some (formA 0x01 d a b 13)
  | .maxu _ d a b => some (formA 0x01 d a b 14)
  | .popc _ d a => some (formA 0x01 d a 0 15)
  | .clz _ d a => some (formA 0x01 d a 0 16)
  | .bswap _ d a => some (formA 0x01 d a 0 17)
  | .bswap4 _ d a => some (formA 0x01 d a 0 18)
  | .bswap2 _ d a => some (formA 0x01 d a 0 19)
  | .sel _ d a b p => some (formA 0x01 d a b (32 + p))
  | .cmpEq _ p a b => some (formA 0x02 p a b 0)
  | .cmpNe _ p a b => some (formA 0x02 p a b 1)
  | .cmpLt _ p a b => some (formA 0x02 p a b 2)
  | .cmpGe _ p a b => some (formA 0x02 p a b 3)
  | .cmpLtu _ p a b => some (formA 0x02 p a b 4)
  | .cmpGeu _ p a b => some (formA 0x02 p a b 5)
  | .cmpTst _ p a b => some (formA 0x02 p a b 6)
  | .cmpNtst _ p a b => some (formA 0x02 p a b 7)
  | .pand _ p a b => some (formA 0x03 p a b 0)
  | .por _ p a b => some (formA 0x03 p a b 1)
  | .pxor _ p a b => some (formA 0x03 p a b 2)
  | .pandn _ p a b => some (formA 0x03 p a b 3)
  | .pnot _ p a => some (formA 0x03 p a 0 4)
  | .mfp _ d => some (formA 0x03 d 0 0 5)
  | .mtp _ a => some (formA 0x03 0 a 0 6)
  | .addi _ d a imm => some (formI 0x04 d a imm)
  | .andi _ d a imm => some (formI 0x05 d a imm)
  | .ori _ d a imm => some (formI 0x06 d a imm)
  | .xori _ d a imm => some (formI 0x07 d a imm)
  | .shli _ d a n => some (formI 0x08 d a n)
  | .shri _ d a n => some (formI 0x08 d a (64 + n))
  | .sari _ d a n => some (formI 0x08 d a (128 + n))
  | .lui _ d imm => some (formI 0x09 d 0 imm)
  | .cmpiEq _ p a imm => some (formI 0x0A p a imm)
  | .cmpiNe _ p a imm => some (formI 0x0A (8 + p) a imm)
  | .cmpiLt _ p a imm => some (formI 0x0A (16 + p) a imm)
  | .cmpiGe _ p a imm => some (formI 0x0A (24 + p) a imm)
  | .cmpiuEq _ p a imm => some (formI 0x0B p a imm)
  | .cmpiuNe _ p a imm => some (formI 0x0B (8 + p) a imm)
  | .cmpiuLtu _ p a imm => some (formI 0x0B (16 + p) a imm)
  | .cmpiuGeu _ p a imm => some (formI 0x0B (24 + p) a imm)
  | .ext _ d a pos len => some (formF d a pos len 0)
  | .exts _ d a pos len => some (formF d a pos len 1)
  | .ins _ d a pos len => some (formF d a pos len 2)
  | .clrf _ d a pos len => some (formF d a pos len 3)
  | .ld1 _ d a imm => some (formI 0x10 d a imm)
  | .ld2 _ d a imm => some (formI 0x11 d a imm)
  | .ld4 _ d a imm => some (formI 0x12 d a imm)
  | .ld8 _ d a imm => some (formI 0x13 d a imm)
  | .ld1s _ d a imm => some (formI 0x14 d a imm)
  | .ld2s _ d a imm => some (formI 0x15 d a imm)
  | .ld4s _ d a imm => some (formI 0x16 d a imm)
  | .st1 _ d a imm => some (formI 0x18 d a imm)
  | .st2 _ d a imm => some (formI 0x19 d a imm)
  | .st4 _ d a imm => some (formI 0x1A d a imm)
  | .st8 _ d a imm => some (formI 0x1B d a imm)
  | .aswap _ d a b => some (formA 0x1C d a b 0)
  | .aadd _ d a b => some (formA 0x1C d a b 1)
  | .aor _ d a b => some (formA 0x1C d a b 2)
  | .aand _ d a b => some (formA 0x1C d a b 3)
  | .acas _ d a b => some (formA 0x1C d a b 4)
  | .nop _ => some (formA 0x1D 0 0 0 0)
  | .fence _ => some (formA 0x1D 0 0 0 1)
  | .endEvent _ => some (formA 0x1D 0 0 0 2)
  | .mfs _ d n => some (formA 0x1D d n 0 3)
  | .mts _ n a => some (formA 0x1D n a 0 4)
  | .bt _ p disp => some (formB 0x20 0 p disp)
  | .bf _ p disp => some (formB 0x20 1 p disp)
  | .branchB _ disp => some (formB 0x20 0 0 disp)
  | .callt _ p disp => some (formB 0x21 0 p disp)
  | .callf _ p disp => some (formB 0x21 1 p disp)
  | .call _ disp => some (formB 0x21 0 0 disp)
  | .jr _ d a => some (formA 0x22 d a 0 0)
  | .hdrFetch _ d a => some (formE d a 0 0 0)
  | .hdrStore _ d a => some (formE d a 0 0 1)
  | .hdrPush _ d a => some (formE d a 0 0 2)
  | .hdrPull _ d a => some (formE d a 0 0 3)
  | .hash _ d a b => some (formE d a b 2 0)
  | .hashix _ d a => some (formE d a 0 2 1)
  | .enqAir _ d a b => some (formE d a b 3 0)
  | .enqTmg _ d a b => some (formE d a b 3 1)
  | .deqAir _ d a => some (formE d a 0 3 2)
  | .drop _ d a => some (formE d a 0 3 3)
  | .clone _ d a => some (formE d a 0 3 4)
  | .cblkEnc _ d a b => some (formE d a b 4 0)
  | .cblkDec _ d a b => some (formE d a b 4 1)
  | .clmul _ d a b => some (formE d a b 5 0)
  | .clmulh _ d a b => some (formE d a b 5 1)
  | .wait _ d a => some (formE d a 0 6 0)
  | .waitany _ d => some (formE d 0 0 6 1)
  | .untilTime _ d a => some (formE d a 0 6 2)
  | .leaveAsk _ d a b => some (formE d a b 7 0)
  | .leaveGive _ d a => some (formE d a 0 7 1)
  | .time _ d => some (formE d 0 0 9 0)
  | .timefrac _ d => some (formE d 0 0 9 1)
  | .staLd _ d a => some (formE d a 0 10 0)
  | .staAdd _ d a b => some (formE d a b 10 1)
  | .staOr _ d a b => some (formE d a b 10 2)
  | .staAndn _ d a b => some (formE d a b 10 3)
  | .staCas _ d a b => some (formE d a b 10 4)
  | .renq _ d a b => some (formE d a b 11 0)
  | .rmsg _ d a b => some (formE d a b 11 1)
  | .treeLookup _ d a b t => some (formE d a b 1 t)
  | .churn _ => some (formE 0 0 0 8 0)
  | .pred _ p neg n => some (formPred p (cond neg 1 0) n)
  | _ => none

/-- The first word of an instruction of the wide form, with its second word. -/
def encodeWide : Instr → Option (Nat × Nat)
  | .movx _ d imm => some (formI 0x30 d 0 0, imm)
  | .movxs _ d imm => some (formI 0x30 d 0 1, imm)
  | .orhx _ d a imm => some (formI 0x30 d a 2, imm)
  | .addx _ d a imm => some (formI 0x30 d a 3, imm)
  | _ => none

end Sys2Proof
end

