-- ==== Sys2Proof/Config.lean ====
section
/-! DEFINITION. What one part's manufacture fixes and the spec does not state: the digest of its boot ROM and the digest
of the root key that the ROM holds. Both are free values: nothing says what they are (assumption 35). The free values of the later chapters stand below them
(assumptions 48, 112, 113, 127 and 140). -/

namespace Sys2Proof

/-- The SHA-384 digest of the boot ROM (Table SEC-5): the spec does not give the ROM's contents. -/
opaque Config.romDigest : Nat → BitVec 8

/-- The SHA-384 digest of the Amvocor root public key that the ROM holds (R63): the spec does not give it. -/
opaque Config.rootDigest : Nat → BitVec 8

/-- The AP's own address on radio unit x, which nonces, AAD and received addresses are built from (R189): no register of
the spec holds it. -/
opaque Config.apAddr : Nat → Nat

/-- The preamble of a plan's PPDU, in ns, from its record: IEEE 802.11be gives it, the spec does not (R171). -/
opaque Config.preamble : List (BitVec 8) → Nat

/-- The packet extension of a plan's PPDU, in ns, from its record and its users' nominal packet padding (R171): the spec
names no place that holds the padding. -/
opaque Config.packetExt : List (BitVec 8) → Nat

/-- The time by which the RTS or MU-RTS of PROTECT and its CTS move the PPDU of a plan, in ns (R168): the spec gives no
rate or length for them. -/
opaque Config.protectAir : List (BitVec 8) → Nat

/-- The length of the RTS or MU-RTS of a plan, in ns (R168). -/
opaque Config.rtsAir : List (BitVec 8) → Nat

/-- The length of the trigger frame of a UL_TB plan, in ns (R172). -/
opaque Config.triggerAir : List (BitVec 8) → Nat

/-- The Duration field of an MPDU that a unit sends at an instant (R181): the spec gives no value for it. -/
opaque Config.macDuration : Nat → Nat → Nat

/-- The length in ns of part 0 NDPA, 1 NDP, 2 BFRP of a sounding exchange, by its BW, CHAINS and NSTA (R221): IEEE 802.11be
gives it. -/
opaque Config.soundingAir : Nat → Nat → Nat → Nat → Nat

/-- The length in ns of the response that acknowledges a number of MPDUs (R186). -/
opaque Config.responseAir : Nat → Nat

/-- The gain index that the AGC of a unit settles on for a level (R212): the spec bounds the steps and gives no index. -/
opaque Config.agcGain : Nat → Nat → Nat

/-- The source address of the pause frames a sub-port generates (R261): no register holds it. -/
opaque Config.pauseSource : Nat → Nat → Nat

/-- The receive gain index that TLM sends for a level (R237): the spec gives no rule for it. -/
opaque Config.tlmGain : Nat → Nat

/-- The instant in ns, from the ramp's start, at which a raised-cosine profile reaches code 2 to 7 (Table WBR-5: unequal
steps). -/
opaque Config.rampStep : Nat → Nat → Nat

/-- The punctured 20 MHz subchannels of a unit's operating channel (R203, R216): no register holds them. -/
opaque Config.punctured : Nat → Nat

/-- U-APSD delivery is in force for a station, by its handle and TID, and the most frames of one service period (R179): no
word of its context holds them. -/
opaque Config.uapsd : Nat → Nat → Bool
opaque Config.uapsdMax : Nat → Nat

/-- The tones of a multiple-RU value of the RU field, and the data tones among them (IEEE 802.11be; R168 gives only the
field). -/
opaque Config.mruTones : Nat → Nat
opaque Config.mruData : Nat → Nat

/-- The 26-tone places that a multiple-RU value covers, as a bit map over 148 places. -/
opaque Config.mruMap : Nat → Nat

/-- The body that leaves the antennas for an MPDU whose protection job found no slot, by its PN and the place of the byte: it is
sent (R189), and the spec gives it no keystream. -/
opaque Config.lateBody : Nat → Nat → BitVec 8

/-- A station shows LDPC support (R204): no word of its context holds it. -/
opaque Config.ldpc : Nat → Bool

/-- Where the keystream area of a descriptor slot stands (R321): the spec has the raiser write it and gives no place. -/
opaque Config.streamAddr : Nat → Nat

/-- The coefficients that a PRECODE job writes for a handle at an instant (R226): the spec gives their place, not their
values. -/
opaque Config.coefficients : Nat → Nat → List (BitVec 8)

/-- The group that a GROUP job chooses for the i-th station of a list at an instant (R223): the spec bounds the groups and
does not choose them. -/
opaque Config.muGroup : List Nat → Nat → Nat → Nat

/-- The upper half of an unload's RESULT, by the image unloaded: R120 states it for a load only. -/
opaque Config.unloadResult : Nat → BitVec 32

/-- The 48 bytes of a digest that is given byte by byte. -/
def Config.digestOf (f : Nat → BitVec 8) : Bytes := (List.range 48).map f

end Sys2Proof
end

