-- ==== Sys2Proof/Machine/State.lean ====
section
/-! DEFINITION. The machine's state, all of it plain data, and the state right after power-on reset. -/

namespace Sys2Proof.Machine

/-- The block raises no fault: every outcome of a command is a next state (R20, R394: a bad access reads 0, is discarded
and is logged; a program's fault is taken by its context). -/
inductive Fault where
  /-- Raised by nobody; a closed type needs a constructor. Safe: no step answers it. -/
  | none_
  deriving DecidableEq, Repr

/-- Why a command has no meaning here. -/
inductive Refusal where
  /-- Raised by an arm of the dispatch whose command is not modelled. Safe: the machine stops. -/
  | notModelled (mnemonic : String)
  deriving DecidableEq, Repr

/-- The block: its registers by BAR0 offset (`csr`, one not listed has its reset value), what split reads latch (R13) and the
value last read by each requester, the bytes of SRAM and DRAM with the errors of their checked words, every block's own
state, and the commands that wait, first in first out. -/
structure State where
  csr : SMap Word := []
  latch : SMap Word := []
  rdata : SMap Word := []
  mem : List Host.Cell := []
  chk : SMap (BitVec 32) := []
  memst : MemSt := {}
  tmb : Tmb := {}
  pace : Pace := {}
  sec : Sec := {}
  hif : Hif := {}
  drk : Drk := {}
  pwr : Pwr := {}
  obs : Obs := {}
  eth : SMap EthPort := []
  skm : Skm := {}
  tmg : Tmg := {}
  cph : Cph := {}
  air : Air := {}
  wmac : Wmac := {}
  wb : SMap Wb := []
  fel : Fel := {}
  spe : Spe := {}
  tlm : Tlm := {}
  fab : Fab := {}
  bnd : Bnd := {}
  kck : Kck := {}
  tap : Tap := {}
  pending : List Instr := []
  deriving DecidableEq, Repr

/-- The block right after a power-on reset (R60, R400): every register at its reset value (by which AON and HOST read on), memory
with nothing listed, start-up not begun, and no command waiting. -/
def State.reset : State := {}

end Sys2Proof.Machine
end

