-- ==== Sys2Proof/Machine/Ops.lean ====
section
/-! DEFINITION. The named operations over registers, time, domains, counters and the event log that every block uses. -/

namespace Sys2Proof.Machine

/-! ## Registers -/

/-- A register's stored value. -/
def State.rg (s : State) (r : Reg) (i : List Nat := []) : Word := SMap.get s.csr (r.addr i) (r.resetOf i)

/-- Store a register whole. -/
def State.wg (s : State) (r : Reg) (v : Word) (i : List Nat := []) : State :=
  { s with csr := SMap.set s.csr (r.addr i) v (r.resetOf i) }

/-- A field's value. -/
def State.fg (s : State) (r : Reg) (f : Fld) (i : List Nat := []) : Nat := fld (s.rg r i) f.hi f.lo

/-- Set a field. -/
def State.fs (s : State) (r : Reg) (f : Fld) (x : Nat) (i : List Nat := []) : State :=
  s.wg r (setFld (s.rg r i) f.hi f.lo x) i

/-- A one-bit field as a Bool. -/
def State.flag (s : State) (r : Reg) (f : Fld) (i : List Nat := []) : Bool := s.fg r f i == 1

/-! ## Time and domains -/

/-- TMB_TIME.NS. -/
def State.now (s : State) : Nat := s.tmb.ns.toNat

/-- The timebase's 16-bit fraction (the upper bits of the 32-bit one, R51). -/
def State.nowFrac (s : State) : Nat := s.tmb.frac.toNat / 65536

/-- The timebase's whole millisecond (R442). -/
def State.ms (s : State) : Nat := s.now / 1000000

/-- PWR_DOMd_STATUS.STATE. -/
def State.domState (s : State) (d : Dom) : Nat := s.fg PWR_DOM_STATUS PWR_DOM_STATUS_STATE [d.num]

/-- The domain is on: off, retention and moving do not count (R33, R394). -/
def State.domOn (s : State) (d : Dom) : Bool := s.domState d == 2

/-- The domain that holds a CSR block's common part (Table ARC-1, R17). -/
def blockDom (b : Nat) : Dom :=
  if b = 5 then .host
  else if b = 0x10 ∨ b = 0x11 ∨ b = 0x28 ∨ b = 0x29 then .memory
  else if b = 0x12 then .rada else if b = 0x13 then .radb else if b = 0x14 then .radc
  else if b = 0x15 then .spatial
  else if b = 0x18 then .telem
  else if 0x20 ≤ b ∧ b ≤ 0x23 then .wired
  else if b = 0x24 then .cipher
  else if b = 0x30 ∨ b = 0x31 then .fabric
  else .aon

/-- The domain of a register instance. -/
def Reg.domOf (r : Reg) (i : List Nat) : Dom :=
  match r.dom with
  | .fixed d => d
  | .unit => Dom.ofUnit (getAt i 0 0)
  | .core => Dom.ofCore (getAt i 0 0)
  | .block => blockDom (getAt i 0 0)

/-! ## Block counters -/

/-- The sum of a programmable counter's increments in this instant. -/
def State.pmcNow (s : State) (a : Nat) : Nat :=
  match SMap.find s.obs.pmcUps a with
  | some (t, n) => if t = s.now then n else 0
  | none => 0

/-- A programmable counter counts `n`; the sum of an instant is kept for a write that falls in it (R406). -/
def State.pmcAdd (s : State) (r : Reg) (i : List Nat) (n : Nat) : State :=
  let a := r.addr i
  let ups := SMap.ins (s.obs.pmcUps.filter fun e => e.2.1 = s.now) a (s.now, s.pmcNow a + n)
  { s with obs := { s.obs with pmcUps := ups } }.wg r (s.rg r i + BitVec.ofNat 64 n) i

/-- Block counter j of a block counts an increment of the counter at a block offset, unless it is frozen (R405, R406). -/
def State.pmcBlk (s : State) (b off n : Nat) : List Nat → State
  | [] => s
  | j :: t =>
    let s' :=
      if s.flag PMC_BLK_SEL PMC_BLK_SEL_EN [b, j] && s.fg PMC_BLK_SEL PMC_BLK_SEL_SEL [b, j] == off / 4
          && !s.flag PMC_CTL PMC_CTL_FREEZE then
        s.pmcAdd PMC_BLK_CNT [b, j] n
      else s
    State.pmcBlk s' b off n t

/-! ## Interrupt messages and the event log -/

/-- SCB_STATUS.STATE is replaying. -/
def State.replaying (s : State) : Bool := s.fg SCB_STATUS SCB_STATUS_STATE == 3

/-- Host memory can be reached: the host has set Bus Master Enable and the function is in D0 (R95). A replay takes the host's
part from its stream (R416). -/
def State.hostReach (s : State) : Bool := (s.hif.pcie.busMaster && s.hif.pcie.power == 0) || s.replaying

/-- A vector's message may leave: the vector and the function are not masked, and host memory can be reached (R94). -/
def State.msixOpen (s : State) (v : Nat) : Bool :=
  s.hostReach && !s.hif.pcie.funcMask && !s.flag HIF_MSIX_CTRL HIF_MSIX_CTRL_MASK [v]

/-- Send an MSI-X message, or set its pending bit while it may not leave (R94). With MSI-X not enabled nothing is signalled
(PCI Express; log 148), and a replay signals nothing (R416). -/
def State.sendMsix (s : State) (v : Nat) : State :=
  if !s.hif.pcie.msixEn || s.replaying then s
  else if !s.msixOpen v then
    s.wg HIF_MSIX_PBA (s.rg HIF_MSIX_PBA ||| BitVec.ofNat 64 (2 ^ v))
  else { s with obs := { s.obs with msix := SMap.set s.obs.msix v (SMap.get s.obs.msix v 0 + 1) 0 } }

/-- Send the messages that are pending and may now leave, of a list of vectors. -/
def State.msixFlush (s : State) : List Nat → State
  | [] => s
  | v :: t =>
    let s1 :=
      if bitN (s.rg HIF_MSIX_PBA).toNat v && s.hif.pcie.msixEn && s.msixOpen v then
        (s.wg HIF_MSIX_PBA (setFld (s.rg HIF_MSIX_PBA) v v 0)).sendMsix v
      else s
    State.msixFlush s1 t

/-- Write one entry to the event log (R408), and send the log's message when TOTAL equalled ACK (R409). -/
def State.logPut (s : State) (block kind arg0 arg1 : Nat) : State :=
  let t := (s.rg SCB_EVT_TOTAL).toNat
  let e : EvtEntry := ⟨s.now, block, kind, t % 2 ^ 32, arg0, arg1⟩
  let fresh := s.rg SCB_EVT_TOTAL == s.rg SCB_EVT_ACK
  let s1 := { s with obs := { s.obs with log := SMap.ins s.obs.log (t % 1024) e } }
  let s2 := s1.wg SCB_EVT_TOTAL (BitVec.ofNat 64 (t + 1))
  if fresh && s2.flag HIF_EVT_CFG HIF_EVT_CFG_EN && s2.domOn .host then
    s2.sendMsix (s2.fg HIF_EVT_CFG HIF_EVT_CFG_VEC)
  else s2

/-- The number of an initiator as PWR_DOWN_ACC.INIT codes it (R394). -/
def Init.code : Init → Nat
  | .host => 0 | .ctx _ => 1 | .peer _ => 2 | .mgc => 3 | .hw => 4

/-- A device program makes the access: a context here, or one of a peer through the fabric. -/
def Init.isCtx : Init → Bool
  | .ctx _ => true | .peer _ => true | _ => false

/-- A key for what is latched for each requester (R13, R51, R267). -/
def Init.key : Init → Nat
  | .host => 0 | .mgc => 1 | .hw => 2 | .ctx c => 16 + c | .peer d => 1024 + d

/-- The scorebook's code of a contender (R410). -/
def Init.contender : Init → Nat
  | .host => 2 * 512 | .mgc => 3 * 512 | .hw => 512 | .ctx c => c % 512 | .peer d => 512 + d % 512

end Sys2Proof.Machine
end

