-- ==== Sys2Proof/Machine/Record.lean ====
section
/-! DEFINITION. Stored bytes, the scorebook's stream into memory, and the event log (chapters 15 and 20). -/

namespace Sys2Proof.Machine

/-! ## Bytes -/

/-- One stored byte; memory is zero checked words until written (R331, R402). -/
def State.byte (s : State) (a : Nat) : Byte := SMap.get s.mem a 0

/-- Store one byte. -/
def State.setByte (s : State) (a : Nat) (v : Byte) : State := { s with mem := SMap.set s.mem a v 0 }

/-- The `n` stored bytes from an address. -/
def State.bytes (s : State) : Nat → Nat → Bytes
  | _, 0 => []
  | a, n + 1 => s.byte a :: State.bytes s (a + 1) n

/-- Store bytes from an address. -/
def State.setBytes (s : State) : Nat → Bytes → State
  | _, [] => s
  | a, b :: t => State.setBytes (s.setByte a b) (a + 1) t

/-- The difference of a checked word's stored check symbols from its data's encoding; 0 for a word without error. -/
def State.diff (s : State) (w : Nat) : BitVec 32 := SMap.get s.chk w 0

/-- Set that difference. -/
def State.setDiff (s : State) (w : Nat) (e : BitVec 32) : State := { s with chk := SMap.set s.chk w e 0 }

/-! ## Recording (R411-R413) -/

/-- SCB_STATUS.STATE is recording. -/
def State.recording (s : State) : Bool := s.fg SCB_STATUS SCB_STATUS_STATE == 2

/-- The scorebook's TICK: 2 ns ticks since the latest TIME record. -/
def State.tick (s : State) : Nat := (s.now - s.obs.lastTime) / 2 % 2 ^ 26

/-- Move whole checked words of staged records into the DRAM buffer while MEMORY is on (R411, R413). -/
def State.scbFlush (s : State) : Nat → State
  | 0 => s
  | n + 1 =>
    if s.domOn .memory && s.flag DRC_STATUS DRC_STATUS_INIT_DONE then
      match s.obs.staging with
      | a :: b :: c :: d :: t =>
        let head := (s.rg SCB_HEAD).toNat
        let base := s.fg SCB_BUF SCB_BUF_BASE * 2 ^ 24
        let at_ := base + head % 2 ^ s.fg SCB_BUF SCB_BUF_SIZE_LOG2
        let s1 := s.setBytes at_ (leBytes 8 a.toNat ++ leBytes 8 b.toNat ++ leBytes 8 c.toNat ++ leBytes 8 d.toNat)
        let s2 := { s1 with obs := { s1.obs with staging := t } }.setDiff (at_ / 32) 0
        State.scbFlush (s2.wg SCB_HEAD (BitVec.ofNat 64 (head + 32))) n
      | _ => s
    else s

/-- Words of zero that fill the last checked word at a stop. -/
def scbPad (k : Nat) : List Word := List.replicate ((4 - k % 4) % 4) 0

/-- Stop a recording: a MARK and any PAD are written and no record follows (R413). -/
def State.scbEnd (s : State) (mark cause : Nat) : State :=
  if s.recording then
    let m : Word := BitVec.ofNat 64 (0xC * 2 ^ 60 + mark * 2 ^ 48)
    let st := s.obs.staging ++ [m]
    let s1 := { s with obs := { s.obs with staging := st ++ scbPad st.length, markDone := true } }
    let s2 := s1.scbFlush (st.length + 1)
    ((s2.fs SCB_STATUS SCB_STATUS_STATE 4).fs SCB_STATUS SCB_STATUS_CAUSE cause).logPut 7 0x0D 0 cause
  else s

/-- Write the words of one record (R411), or stop the recording when the buffer or the staging buffer is full. -/
def State.scb (s : State) (ws : List Word) : State :=
  if s.recording then
    let held := s.obs.staging.length * 8 + 8 * ws.length
    let used := (s.rg SCB_HEAD).toNat - (s.rg SCB_TAIL).toNat
    let memOk := s.domOn .memory && s.flag DRC_STATUS DRC_STATUS_INIT_DONE
    if (memOk && decide (used + held > 2 ^ s.fg SCB_BUF SCB_BUF_SIZE_LOG2)) || (!memOk && decide (held > 262144)) then
      s.scbEnd 0x02 0x2
    else
      let st := s.obs.staging ++ ws
      { s with obs := { s.obs with staging := st } }.scbFlush st.length
  else s

/-- A record's first word: KIND, EXT and the low 56 bits. -/
def scbHead (kind ext low : Nat) : Word := BitVec.ofNat 64 (kind * 2 ^ 60 + ext * 2 ^ 56 + low % 2 ^ 56)

/-! ## Replay (R415-R417) -/

/-- Set the replay. -/
def State.setRep (s : State) (r : Replay) : State := { s with obs := { s.obs with rep := r } }

/-- External inputs are ignored: a replay takes them from its stream alone, and a unit that has stopped is frozen (R416). -/
def State.deaf (s : State) : Bool := (s.replaying || s.obs.rep.frozen) && !s.obs.rep.fed

/-- A replay stops at the first cause of Table OBS-7 and freezes; SCB_DIVERGE is the stream offset of the record. -/
def State.repStop (s : State) (cause off : Nat) : State :=
  ((((s.fs SCB_STATUS SCB_STATUS_STATE 4).fs SCB_STATUS SCB_STATUS_CAUSE cause).wg SCB_DIVERGE (BitVec.ofNat 64 off)).setRep
    { s.obs.rep with frozen := true }).logPut 7 0x0D 0 cause

/-- An instant lies in the present tick. -/
def State.atTick (s : State) (t : Nat) : Bool := decide (t ≤ s.now) && decide (s.now < t + 2)

/-- Two contenders have met in a replay, `c` admitted first: the record of this instant must name it. One that names another
names a contender that this order did not admit, and stops the replay (R416, cause 0x6; DESIGN CHOICE, assumption 158). -/
def State.judge (s : State) (key c : Nat) : State :=
  if s.replaying then
    match s.obs.rep.contests.find? fun x => x.key == key && s.atTick x.at_ with
    | some x =>
      if x.who = c then s.setRep { s.obs.rep with contests := s.obs.rep.contests.erase x } else s.repStop 6 x.off
    | none => s
  else s

/-- An address lies in the scorebook buffer or the supply ring. -/
def State.inBufs (s : State) (a : Nat) : Bool :=
  let lies (r : Reg) (b z : Fld) : Bool := decide (s.fg r b * 2 ^ 24 ≤ a) && decide (a < s.fg r b * 2 ^ 24 + 2 ^ s.fg r z)
  lies SCB_BUF SCB_BUF_BASE SCB_BUF_SIZE_LOG2 || lies SCB_SUP_BUF SCB_SUP_BUF_BASE SCB_SUP_BUF_SIZE_LOG2

/-- The host fills these buffers for a replay, which keeps what they hold (R415; DESIGN CHOICE, assumption 158). -/
def State.inScbBuf (s : State) (a : Nat) : Bool := s.replaying && s.inBufs a

/-- Memory loses its contents, but for the buffers of a replay. -/
def State.wipe (s : State) : State :=
  { s with mem := s.mem.filter (fun c => s.inScbBuf c.1), chk := s.chk.filter (fun c => s.inScbBuf (c.1 * 32)) }

/-- A result crosses in a replay: the crossing placed first at its point and instance, once its tick has come, has occurred. -/
def State.repCross (s : State) (k : Nat) : State :=
  if s.replaying then
    match s.obs.rep.crosses.find? fun x => x.1 == k && decide (x.2 ≤ s.now / 2) with
    | some x => s.setRep { s.obs.rep with crosses := s.obs.rep.crosses.erase x }
    | none => s
  else s

/-- A replayed item is an input of a source. -/
def RepItem.from_ (i : RepItem) (src sub : Nat) : Bool :=
  match i with
  | .input a b _ => a == src && b == sub
  | _ => false

/-- An input of a source may be taken now: always outside a replay, and in one while its record's tick has come. -/
def State.admits (s : State) (src sub : Nat) : Bool :=
  !s.deaf || (s.replaying && s.obs.rep.items.any fun x => decide (x.1 ≤ s.now) && x.2.from_ src sub)

/-- An input of a source is taken: the first record of it is met. -/
def State.repMeet (s : State) (src sub : Nat) : State :=
  if s.replaying && !s.obs.rep.fed then
    match s.obs.rep.items.find? fun x => decide (x.1 ≤ s.now) && x.2.from_ src sub with
    | some x => s.setRep { s.obs.rep with items := s.obs.rep.items.erase x }
    | none => s
  else s

/-- A value that self-timed logic or the management core reads from the stream in a replay (R417). -/
def State.repValue (s : State) (off : Nat) (v : Word) : State × Word :=
  match (if s.replaying then s.obs.rep.values.find? fun x => x.1 == off % 2 ^ 26 else none) with
  | some x => (s.setRep { s.obs.rep with values := s.obs.rep.values.erase x }, x.2)
  | none => (s, v)

/-- An egress frame that a CHECK record tells of must agree with it (cause 0x7). -/
def State.repCheck (s : State) (sink len crc : Nat) : State :=
  if s.replaying then
    match s.obs.rep.checks with
    | x :: t =>
      if x.sink = sink ∧ x.len = len ∧ x.crc = crc then s.setRep { s.obs.rep with checks := t } else s.repStop 7 x.off
    | [] => s
  else s

/-! ## Contests and crossings (R410) -/

/-- Another contender reached this contest point and location in the same instant: the one admitted before. A context
does not meet itself. -/
def State.rival (s : State) (point inst loc contender : Nat) : Option Nat :=
  match SMap.find s.obs.contend ((loc * 64 + point) * 8192 + inst) with
  | some (t, c) => if t = s.now && !(c == contender && decide (contender < 512)) then some c else none
  | none => none

/-- A contender reaches a contest point, at a location of the instance: when another reached it in the same instant, that
one is recorded as admitted first (R410, CONTEST of Table OBS-6). -/
def State.contestAt (s : State) (point inst loc contender : Nat) : State :=
  let s1 :=
    match s.rival point inst loc contender with
    | some c =>
      (s.scb [scbHead 3 0 (point * 2 ^ 50 + inst % 8192 * 2 ^ 37 + c % 2048 * 2 ^ 26 + s.tick)]).judge
        (point * 8192 + inst % 8192) (c % 2048)
    | none => s
  let seen := s1.obs.contend.filter fun e => e.2.1 = s.now
  { s1 with obs := { s1.obs with contend := SMap.ins seen ((loc * 64 + point) * 8192 + inst) (s.now, contender) } }

/-- A contest point that has one location for each instance. -/
def State.contest (s : State) (point inst contender : Nat) : State := s.contestAt point inst 0 contender

/-! ## Counters and their reads (R14) -/

/-- The outcome at point 26 of one update against a read of its RC register: 0 included, 1 left in the field (R14). -/
def State.rcOutcome (s : State) (a left : Nat) : State :=
  s.scb [scbHead 3 0 (26 * 2 ^ 50 + a / 0x100000 * 2 ^ 37 + (512 + left) * 2 ^ 26 + s.tick)]

/-- An update of the RC register at an offset: one that comes after a read of the same instant is left in the field, and
every update is remembered for the reads of its instant. -/
def State.rcUpdate (s : State) (a : Nat) : State :=
  if s.recording then
    let s1 := if SMap.find s.obs.rcReads a == some s.now then s.rcOutcome a 1 else s
    let n := match SMap.find s1.obs.rcUps a with
      | some (t, n) => if t = s1.now then n + 1 else 1
      | none => 1
    { s1 with obs := { s1.obs with rcUps := SMap.ins (s1.obs.rcUps.filter fun e => e.2.1 = s1.now) a (s1.now, n) } }
  else s

/-- The outcomes of `n` updates that a read includes. -/
def State.rcIncluded (s : State) (a : Nat) : Nat → State
  | 0 => s
  | n + 1 => State.rcIncluded (s.rcOutcome a 0) a n

/-- A read of the RC register at an offset includes the updates of its instant that came before it. -/
def State.rcRead (s : State) (a : Nat) : State :=
  if s.recording then
    let n := match SMap.find s.obs.rcUps a with
      | some (t, n) => if t = s.now then n else 0
      | none => 0
    let s1 := s.rcIncluded a n
    { s1 with obs := { s1.obs with
      rcUps := SMap.del s1.obs.rcUps a, rcReads := SMap.ins (s1.obs.rcReads.filter fun e => e.2 = s1.now) a s1.now } }
  else s

/-- Add to a 32-bit counter that saturates at 0xFFFF_FFFF, and to the block counters that mirror it; one that reads clear
meets the reads of its instant (R14). -/
def State.bump (s : State) (r : Reg) (i : List Nat := []) (n : Nat := 1) : State :=
  let a := r.addr i
  let s1 := if maskOf .rc r.flds = 0 then s else s.rcUpdate a
  (s1.wg r (BitVec.ofNat 64 (min 0xFFFFFFFF ((s1.rg r i).toNat + n))) i).pmcBlk (a / 0x100000) (a % 0x100000) n
    [0, 1, 2, 3]

/-! ## Outcomes and crossings -/

/-- A pace-monitor outcome (point 39, R410). -/
def State.paceOutcome (s : State) (inst code : Nat) : State :=
  s.scb [scbHead 3 0 (39 * 2 ^ 50 + inst % 8192 * 2 ^ 37 + (512 + code) * 2 ^ 26 + s.tick)]

/-- "No crossing; advance 0xF_FFFF ticks" records that a long gap needs (R411). -/
def crossGaps (point inst : Nat) : Nat → List Word
  | 0 => []
  | n + 1 => scbHead 4 0 (point * 2 ^ 50 + inst % 256 * 2 ^ 42 + 0xFFFFF) :: crossGaps point inst n

/-- A result crosses into a clocked part at this tick (CROSS of Table OBS-6). -/
def State.cross (s : State) (point inst : Nat) : State :=
  if s.recording then
    let k := point * 256 + inst
    let t := s.now / 2
    let d := t - SMap.get s.obs.cross k (s.obs.lastTime / 2)
    let gaps := d / 0xFFFFF
    let s1 := s.scb (crossGaps point inst gaps ++ [scbHead 4 0 (point * 2 ^ 50 + inst % 256 * 2 ^ 42 + d % 0xFFFFF)])
    { s1 with obs := { s1.obs with cross := SMap.ins s1.obs.cross k t } }
  else s.repCross (point * 256 + inst % 256)

/-- The words that carry bytes, 8 to a word. -/
def wordsOf (b : Bytes) : Nat → List Word
  | 0 => []
  | n + 1 => BitVec.ofNat 64 (leAt b 0 8) :: wordsOf (b.drop 8) n

/-- PAYLOAD records of up to 15 words each. -/
def payloads (ws : List Word) : Nat → List Word
  | 0 => []
  | n + 1 =>
    match ws with
    | [] => []
    | _ => scbHead 6 (ws.take 15).length 0 :: ws.take 15 ++ payloads (ws.drop 15) n

/-- One step of a reflected CRC over a bit. -/
def crcBitR (poly c : BitVec 32) : BitVec 32 := if c.getLsbD 0 then (c >>> 1) ^^^ poly else c >>> 1

/-- `n` such steps. -/
def crcBitsR (poly : BitVec 32) : Nat → BitVec 32 → BitVec 32
  | 0, c => c
  | n + 1, c => crcBitsR poly n (crcBitR poly c)

/-- A reflected 32-bit CRC with initial value and final XOR 0xFFFF_FFFF (Table ETH-3), its polynomial bit-reversed. -/
def crc32With (poly : BitVec 32) (b : Bytes) : BitVec 32 :=
  (b.foldl (fun c x => crcBitsR poly 8 (c ^^^ x.setWidth 32)) 0xFFFFFFFF) ^^^ 0xFFFFFFFF

/-- CRC-32, the FCS. -/
def crc32 (b : Bytes) : BitVec 32 := crc32With 0xEDB88320 b
/-- CRC-32C. -/
def crc32c (b : Bytes) : BitVec 32 := crc32With 0x82F63B78 b

/-- One step of CRC-16, not reflected. -/
def crc16Bits : Nat → BitVec 16 → BitVec 16
  | 0, c => c
  | n + 1, c => crc16Bits n (if c.getLsbD 15 then (c <<< 1) ^^^ 0x1021 else c <<< 1)

/-- CRC-16 of Table ETH-3. -/
def crc16 (b : Bytes) : BitVec 16 :=
  b.foldl (fun (c : BitVec 16) (x : Byte) => crc16Bits 8 (c ^^^ ((x.setWidth 16) <<< (8 : Nat)))) 0xFFFF

/-- The boundary that an input of a source crosses on its way in (Table OBS-5): host bytes, the fabric's links, the bond. -/
def State.crossIn (s : State) (src sub : Nat) : State :=
  if src = 4 then s.cross 36 0 else if src = 5 then s.cross 37 sub else if src = 6 then s.cross 37 6 else s

/-- An input from outside the device (INPUT and, in FULL mode, PAYLOAD of Table OBS-6). -/
def State.input (sGiven : State) (src sub : Nat) (b : Bytes) : State :=
  let s := sGiven.crossIn src sub
  if s.recording then
    let s1 := s.scb [scbHead 5 1 (src * 2 ^ 52 + b.length % 2 ^ 21 * 2 ^ 26 + s.tick),
      BitVec.ofNat 64 ((crc32c b).toNat + sub % 65536 * 2 ^ 32)]
    if s1.fg SCB_CTL SCB_CTL_MODE == 2 then s1.scb (payloads (wordsOf b (ceilDiv b.length 8)) (b.length + 1)) else s1
  else s.repMeet src (sub % 65536)

/-- A host write to BAR0 or BAR2 (HOSTW, R412). -/
def State.hostw (s : State) (a : Nat) (v : Word) (n : Nat) : State :=
  s.scb [scbHead 7 2 ((2 ^ n - 1) * 2 ^ 26 + s.tick), BitVec.ofNat 64 a, v]

/-- A radio event (PHY of Table OBS-6). -/
def State.phy (s : State) (unit ev arg : Nat) : State :=
  s.scb [scbHead 8 0 (unit * 2 ^ 52 + ev * 2 ^ 44 + arg % 2 ^ 18 * 2 ^ 26 + s.tick)]

/-- A value read from PMC, TMB or the pace registers (VALUE, R412). -/
def State.value (s : State) (off : Nat) (v : Word) : State :=
  s.scb [scbHead 10 1 (off % 2 ^ 26 * 2 ^ 26 + s.tick), v]

/-- An egress frame: one in every 2^CHECK is recorded (CHECK, R412). -/
def State.egress (s : State) (sink : Nat) (b : Bytes) : State :=
  let n := s.obs.egress
  let s1 := { s with obs := { s.obs with egress := n + 1 } }
  if n % 2 ^ s.fg SCB_CTL SCB_CTL_CHECK = 0 then
    (s1.scb [scbHead 11 1 (sink * 2 ^ 52 + b.length % 2 ^ 21 * 2 ^ 26 + s.tick), BitVec.ofNat 64 (crc32c b).toNat]).repCheck
      sink (b.length % 2 ^ 21) (crc32c b).toNat
  else s1

/-! ## The event log -/

/-- Write one entry to the event log; entries of one instant meet at its arbiter (R408, decision point 28). -/
def State.logEv (s : State) (block kind arg0 arg1 : Nat) : State :=
  (s.contest 28 0 (512 + block % 512)).logPut block kind arg0 arg1

/-- Write an entry unless one with the same key was written in this millisecond (R442). -/
def State.logLim (s : State) (key block kind arg0 arg1 : Nat) : State :=
  if SMap.find s.obs.limit key == some s.ms then s
  else { s with obs := { s.obs with limit := SMap.ins s.obs.limit key s.ms } }.logEv block kind arg0 arg1

/-- A discarded write is logged with its address. -/
def State.logDiscard (s : State) (a : Nat) : State :=
  s.logEv (a / 0x100000) 0x01 (0x8000000000 + a) 0

/-- A down-block access is recorded, counted, and logged once a millisecond for each domain (R394). -/
def State.downAccess (s : State) (a : Nat) (d : Dom) (who : Init) (write : Bool) : State :=
  let v := a % 2 ^ 40 + d.num * 2 ^ 40 + who.code * 2 ^ 44 + b2n write * 2 ^ 48
  ((s.wg PWR_DOWN_ACC (BitVec.ofNat 64 v)).bump PWR_DOWN_CNT).logLim (0x100 + d.num) 1 0x08 a who.code

/-- An unmapped access is logged with its address and initiator (R20). The entry stands under block SCB, since the spec names no
block for it, and ARG1 names the initiator by its contender code of R410: the context, the peer, the host or the management core
(DESIGN CHOICE, assumption 145). -/
def State.unmapped (s : State) (a : Nat) (who : Init) : State := s.logEv 7 0x09 a who.contender

end Sys2Proof.Machine
end

