-- ==== Sys2Proof/Machine/Mem.lean ====
section
/-! DEFINITION. SRAM, DRAM data and the checked word (chapter 15): the Reed-Solomon code, reads that decode, writes that
merge, the error log, the scorebook's stream into memory, and the pail pool with its link table. -/

namespace Sys2Proof.Machine

/-! ## Regions -/

/-- SRAM (Table ARC-2). -/
def inSram (a : Nat) : Bool := decide (0x4000000000 ≤ a) && decide (a < 0x4003000000)
/-- DRAM data (Table ARC-2). -/
def inDram (a : Nat) : Bool := decide (a < 0x1C0000000)
/-- A byte that memory holds. -/
def inMem (a : Nat) : Bool := inSram a || inDram a
/-- The whole range lies in SRAM or in DRAM data. -/
def rangeInMem (a n : Nat) : Bool :=
  (inSram a && decide (a + n ≤ 0x4003000000)) || decide (a + n ≤ 0x1C0000000)

/-! ## GF(2^8) and the code (R336) -/

/-- Multiply by α = 0x02 modulo x^8 + x^4 + x^3 + x^2 + 1. -/
def gfX (a : Byte) : Byte := if a.getLsbD 7 then (a <<< 1) ^^^ 0x1D else a <<< 1

/-- The product, by the low `n` bits of `b`. -/
def gfMulN : Nat → Byte → Byte → Byte
  | 0, _, _ => 0
  | n + 1, a, b => (if b.getLsbD 0 then a else 0) ^^^ gfMulN n (gfX a) (b >>> 1)

/-- The product in GF(2^8). -/
def gfMul (a b : Byte) : Byte := gfMulN 8 a b

/-- α^j. -/
def gfPow : Nat → Byte
  | 0 => 1
  | n + 1 => gfX (gfPow n)

/-- One step of the division by g(x) = x^4 + 0x0F x^3 + 0x36 x^2 + 0x78 x + 0x40, highest data byte first. -/
def rsStep (r : Byte × Byte × Byte × Byte) (d : Byte) : Byte × Byte × Byte × Byte :=
  let (r0, r1, r2, r3) := r
  let f := d ^^^ r3
  (gfMul 0x40 f, r0 ^^^ gfMul 0x78 f, r1 ^^^ gfMul 0x36 f, r2 ^^^ gfMul 0x0F f)

/-- The four check symbols of 32 data bytes, symbol j in bits 8j + 7 to 8j (R325, R336). -/
def rsCheck (d : Bytes) : BitVec 32 :=
  let (c0, c1, c2, c3) := d.reverse.foldl rsStep (0, 0, 0, 0)
  c3 ++ c2 ++ c1 ++ c0

/-- Check symbol j of a stored difference. -/
def chkSym (e : BitVec 32) (j : Nat) : Byte := (e >>> (8 * j)).setWidth 8

/-- Syndrome i of a word whose check symbols differ from the encoding of its data by `e`: the encoded word itself has
none, so only the difference counts (R336). -/
def syndrome (e : BitVec 32) (i : Nat) : Byte :=
  chkSym e 0 ^^^ gfMul (chkSym e 1) (gfPow i) ^^^ gfMul (chkSym e 2) (gfPow (2 * i)) ^^^ gfMul (chkSym e 3) (gfPow (3 * i))

/-- What a word's syndromes say (Table MEM-3). -/
inductive Decode where
  | good
  | check (j : Nat)
  | data (k : Nat) (v : Byte)
  | bad
  deriving DecidableEq, Repr

/-- The symbol position j whose locator explains the syndromes, counting down from `n - 1`. -/
def locate (s0 s1 s2 s3 : Byte) : Nat → Option Nat
  | 0 => none
  | n + 1 =>
    let a := gfPow n
    if gfMul s0 a = s1 ∧ gfMul s1 a = s2 ∧ gfMul s2 a = s3 then some n else locate s0 s1 s2 s3 n

/-- Decode by the syndrome table (R337). -/
def decodeDiff (e : BitVec 32) : Decode :=
  if e = 0 then .good
  else
    let s0 := syndrome e 0
    let s1 := syndrome e 1
    let s2 := syndrome e 2
    let s3 := syndrome e 3
    if s0 = 0 ∨ s1 = 0 ∨ s2 = 0 ∨ s3 = 0 then .bad
    else
      match locate s0 s1 s2 s3 36 with
      | none => .bad
      | some j => if j < 4 then .check j else .data (j - 4) s0

/-! ## Reading and writing checked words (R334-R343) -/

/-- Write one entry of the error log and count it in MEM_ERR_TOTAL (R341). -/
def State.memErr (s : State) (w kind pos src : Nat) : State :=
  let t := (s.rg MEM_ERR_TOTAL).toNat
  let v := w * 32 % 2 ^ 40 + kind * 2 ^ 40 + pos * 2 ^ 42 + src * 2 ^ 48
  let s1 := (s.wg MEM_ERR_LOG (BitVec.ofNat 64 v) [t % 32, 0]).wg MEM_ERR_LOG s.tmb.ns [t % 32, 1]
  s1.wg MEM_ERR_TOTAL (BitVec.ofNat 64 ((t + 1) % 2 ^ 32))

/-- The counter of Table MEM-6 of a word's memory: corrections, check corrections, uncorrectable words. -/
def memCounter (w : Nat) (k : Nat) : Reg :=
  if inSram (w * 32) then (if k = 0 then MEM_SRAM_CE else if k = 1 then MEM_SRAM_CHK else MEM_SRAM_UE)
  else (if k = 0 then MEM_DRAM_CE else if k = 1 then MEM_DRAM_CHK else MEM_DRAM_UE)

/-- Read and decode one checked word: correct and write back one wrong symbol, or report it uncorrectable (R335, R337,
R338, R341). The Bool says whether the data is good. -/
def State.decodeWord (s : State) (w src : Nat) : State × Bool :=
  match decodeDiff (s.diff w) with
  | .good => (s, true)
  | .check j =>
    (((s.setDiff w 0).bump (memCounter w 1)).memErr w 1 j src |>.logLim (0x200 + b2n (inSram (w * 32))) 0x28 0x06
      (w * 32) 1, true)
  | .data k v =>
    let s1 := (s.setByte (w * 32 + k) (s.byte (w * 32 + k) ^^^ v)).setDiff w 0
    ((s1.bump (memCounter w 0)).memErr w 0 (k + 4) src |>.logLim (0x200 + b2n (inSram (w * 32))) 0x28 0x06 (w * 32) 0,
      true)
  | .bad =>
    let s1 := ((s.bump (memCounter w 2)).memErr w 2 0x3F src).logEv 0x28 0x06 (w * 32) 2
    (s1.scb [scbHead 9 1 s1.tick, BitVec.ofNat 64 (w * 32)], false)

/-- Decode `n` words from word `w`; the address of the first uncorrectable one, if any. -/
def State.decodeWords (s : State) (w src : Nat) : Nat → State × Option Nat
  | 0 => (s, none)
  | n + 1 =>
    let (s1, ok) := s.decodeWord w src
    let (s2, bad) := State.decodeWords s1 (w + 1) src n
    (s2, if ok then bad else some (w * 32))

/-- The checked words that `n` bytes from `a` touch. -/
def wordSpan (a n : Nat) : Nat := if n = 0 then 0 else (a + n - 1) / 32 - a / 32 + 1

/-- Read `n` bytes: every word touched is decoded; the bytes, and the first uncorrectable word. -/
def State.read (s : State) (a n src : Nat) : State × Bytes × Option Nat :=
  let (s1, bad) := s.decodeWords (a / 32) src (wordSpan a n)
  (s1, s1.bytes a n, bad)

/-- Store a whole checked word; an armed injection for it plants its error and disarms (R343). -/
def State.writeWord (s : State) (w : Nat) (d : Bytes) : State :=
  let s1 := (s.setBytes (w * 32) d).setDiff w 0
  if s.flag MEM_INJECT MEM_INJECT_ARM && s.fg MEM_INJECT MEM_INJECT_ADDR == w then
    let pos := s.fg MEM_INJECT MEM_INJECT_POS
    let v : Byte := BitVec.ofNat 8 (s.fg MEM_INJECT MEM_INJECT_VALUE)
    let plant (t : State) (p : Nat) : State :=
      if p < 4 then t.setDiff w (t.diff w ^^^ ((v.setWidth 32) <<< (8 * p)))
      else
        let a := w * 32 + (p - 4)
        let before := rsCheck (t.bytes (w * 32) 32)
        let t1 := t.setByte a (t.byte a ^^^ v)
        t1.setDiff w (t1.diff w ^^^ before ^^^ rsCheck (t1.bytes (w * 32) 32))
    let s2 := plant s1 pos
    let s3 := if s.flag MEM_INJECT MEM_INJECT_TWO then plant s2 ((pos + 1) % 36) else s2
    s3.fs MEM_INJECT MEM_INJECT_ARM 0
  else s1

/-- Merge a partial write into its word, or discard it when the word is uncorrectable (R334, R339). -/
def State.mergeWord (s : State) (a : Nat) (d : Bytes) : State × Bool :=
  let w := a / 32
  match decodeDiff (s.diff w) with
  | .bad => (((s.bump MEM_PARTIAL_UE).memErr w 3 0x3F 1).logEv 0x28 0x06 (w * 32) 3, false)
  | .good => (s.setBytes a d, true)
  | _ =>
    let (s1, _) := s.decodeWord w 1
    (s1.setBytes a d, true)

/-- Write bytes: words covered whole are encoded afresh, the others are merged. The Bool is false when a partial write
was discarded. -/
def State.writeN (s : State) (a : Nat) (d : Bytes) : Nat → State × Bool
  | 0 => (s, true)
  | n + 1 =>
    if d.isEmpty then (s, true)
    else
      let k := 32 - a % 32
      let here := d.take k
      let (s1, ok) :=
        if a % 32 = 0 ∧ here.length = 32 then (s.writeWord (a / 32) here, true) else s.mergeWord a here
      let (s2, ok2) := State.writeN s1 (a + k) (d.drop k) n
      (s2, ok && ok2)

/-- Write bytes at an address. -/
def State.write (s : State) (a : Nat) (d : Bytes) : State × Bool := s.writeN a d (wordSpan a d.length)

/-- Write a little-endian number of `n` bytes. -/
def State.writeLe (s : State) (a n v : Nat) : State := (s.write a (leBytes n v)).1

/-! ## The pail pool (R326, R327) -/

/-- NS and ND. -/
def State.pailsS (s : State) : Nat := s.fg MEM_PAIL_S1 MEM_PAIL_S1_COUNT
def State.pailsD (s : State) : Nat := s.fg MEM_PAIL_D1 MEM_PAIL_D1_COUNT

/-- FREE_S and FREE_D. -/
def State.freeS (s : State) : Nat := s.pailsS - s.memst.freshS + s.memst.retS.length
def State.freeD (s : State) : Nat := s.pailsD - s.memst.freshD + s.memst.retD.length

/-- The device address of a pail. -/
def State.pailAddr (s : State) (h : Nat) : Nat :=
  let i := h - 1
  if i < s.pailsS then s.fg MEM_PAIL_S0 MEM_PAIL_S0_BASE * 512 + 512 * i
  else s.fg MEM_PAIL_D0 MEM_PAIL_D0_BASE * 512 + 512 * (i - s.pailsS)

/-- The address of a pail's link entry. -/
def State.linkAddr (s : State) (h : Nat) : Nat :=
  let i := h - 1
  if i < s.pailsS then s.fg MEM_PAIL_S1 MEM_PAIL_S1_LINK * 65536 + 8 * i
  else s.fg MEM_PAIL_D1 MEM_PAIL_D1_LINK * 65536 + 8 * (i - s.pailsS)

/-- Take the SRAM pail at the head of its free list. -/
def State.takeS (s : State) : Option (State × Nat) :=
  if s.memst.freshS < s.pailsS then
    some ({ s with memst := { s.memst with freshS := s.memst.freshS + 1 } }, s.memst.freshS + 1)
  else
    match s.memst.retS with
    | h :: t => some ({ s with memst := { s.memst with retS := t } }, h)
    | [] => none

/-- Take the DRAM pail at the head of its free list. -/
def State.takeD (s : State) : Option (State × Nat) :=
  if s.memst.freshD < s.pailsD then
    some ({ s with memst := { s.memst with freshD := s.memst.freshD + 1 } }, s.pailsS + s.memst.freshD + 1)
  else
    match s.memst.retD with
    | h :: t => some ({ s with memst := { s.memst with retD := t } }, h)
    | [] => none

/-- Set STRICT_HOST and STRICT_AUTO; STRICT is their union, and each change of STRICT is logged (R302). -/
def State.setStrict (s : State) (host auto : Nat) : State :=
  let was := s.fg TMG_CTL TMG_CTL_STRICT
  let now_ := if host = 1 ∨ auto = 1 then 1 else 0
  let s1 := ((s.fs TMG_CTL TMG_CTL_STRICT_HOST host).fs TMG_CTL TMG_CTL_STRICT_AUTO auto).fs TMG_CTL TMG_CTL_STRICT now_
  if was = now_ then s1 else s1.logEv 0x23 0x04 0 now_

/-- The device's free pail count. -/
def State.freePailCount (s : State) : Nat := s.freeS + s.freeD

/-- The free pail count has changed: STRICT_AUTO sets below PAIL_FLOOR, and the time at or above twice PAIL_FLOOR starts
or ends (R302). -/
def State.strictCheck (s : State) : State :=
  if s.domOn .wired then
    let floor := s.fg TMG_CTL TMG_CTL_PAIL_FLOOR
    let n := s.freePailCount
    let s1 :=
      if n < floor ∧ s.fg TMG_CTL TMG_CTL_STRICT_AUTO = 0 then s.setStrict (s.fg TMG_CTL TMG_CTL_STRICT_HOST) 1 else s
    if n < 2 * floor then { s1 with tmg := { s1.tmg with recover := none } }
    else if s1.tmg.recover = none then { s1 with tmg := { s1.tmg with recover := some s1.now } }
    else s1
  else s

/-- Allocate a pail (R326): a free SRAM pail while more than RESERVE are free, else a DRAM pail, else SRAM pails down to
the last one. -/
def State.allocPail (s : State) (who : Nat) : Option (State × Nat) :=
  let s0 := s.contest 21 (b2n (decide (s.freeS ≤ s.fg MEM_PAIL_S1 MEM_PAIL_S1_RESERVE) && decide (0 < s.freeD))) who
  let r :=
    if s0.freeS > s0.fg MEM_PAIL_S1 MEM_PAIL_S1_RESERVE then s0.takeS
    else
      match s0.takeD with
      | some x => some x
      | none => s0.takeS
  match r with
  | some (s1, h) => some (s1.strictCheck, h)
  | none => none

/-- Return a pail to the region it came from. -/
def State.freePail (s : State) (h : Nat) : State :=
  if h = 0 then s
  else if h ≤ s.pailsS then { s with memst := { s.memst with retS := s.memst.retS ++ [h] } }.strictCheck
  else { s with memst := { s.memst with retD := s.memst.retD ++ [h] } }.strictCheck

/-- Return several pails. -/
def State.freePails (s : State) : List Nat → State
  | [] => s
  | h :: t => State.freePails (s.freePail h) t

/-- Write a link entry (Table MEM-1). -/
def State.setLink (s : State) (h next start fill : Nat) : State :=
  s.writeLe (s.linkAddr h) 8 (next + start * 2 ^ 32 + fill * 2 ^ 41)

/-- A byte as its word decodes (R337). -/
def State.soundByte (s : State) (a : Nat) : Byte :=
  match decodeDiff (s.diff (a / 32)) with
  | .data k v => if a % 32 = k then s.byte a ^^^ v else s.byte a
  | _ => s.byte a

/-- A link entry's NEXT, START and FILL, as its word decodes. -/
def State.link (s : State) (h : Nat) : Nat × Nat × Nat :=
  let v := leNat ((List.range 8).map fun i => s.soundByte (s.linkAddr h + i))
  (bits v 31 0, bits v 40 32, bits v 50 41)

/-- Allocate `n` pails, or none. -/
def State.allocPails (s : State) (who : Nat) : Nat → Option (State × List Nat)
  | 0 => some (s, [])
  | n + 1 =>
    match s.allocPail who with
    | none => none
    | some (s1, h) =>
      match State.allocPails s1 who n with
      | none => none
      | some (s2, t) => some (s2, h :: t)

/-- The pails that `n` bytes take, the first holding data from offset 64 (R327). -/
def pailsFor (n : Nat) : Nat := if n ≤ 448 then 1 else 1 + ceilDiv (n - 448) 512

/-- Write a frame's bytes into its pails and chain them, the first from byte `start` on. -/
def State.fillPails (s : State) : List Nat → Nat → Bytes → State
  | [], _, _ => s
  | h :: t, start, d =>
    let here := d.take (512 - start)
    let s1 := (s.write (s.pailAddr h + start) here).1
    let s2 := s1.setLink h (getAt t 0 0) start here.length
    State.fillPails s2 t 0 (d.drop (512 - start))

/-- Place a frame in new pails; none when the pool empties, and then nothing is taken. -/
def State.storeFrame (s : State) (who : Nat) (d : Bytes) : Option (State × List Nat) :=
  match s.allocPails who (pailsFor d.length) with
  | none => none
  | some (s1, hs) => some (s1.fillPails hs 64 d, hs)

/-- The pails of a chain, at most `n`. -/
def State.chain (s : State) : Nat → Nat → List Nat
  | 0, _ => []
  | n + 1, h => if h = 0 then [] else h :: State.chain s n (s.link h).1

/-- The most pails one frame can have. -/
def maxChain : Nat := 96

/-- The bytes of a chain's pails, decoded; the first uncorrectable word, if any. -/
def State.readPails (s : State) (src : Nat) : List Nat → State × Bytes × Option Nat
  | [] => (s, [], none)
  | h :: t =>
    let (_, start, fill) := s.link h
    let (s1, b, bad) := s.read (s.pailAddr h + start) fill src
    let (s2, rest, bad2) := State.readPails s1 src t
    (s2, b ++ rest, match bad with | some x => some x | none => bad2)

/-- A frame's bytes as a hardware block reads them. -/
def State.frameBytes (s : State) (f : Frame) : State × Bytes × Option Nat :=
  let (s1, b, bad) := s.readPails 3 (s.chain maxChain f.pail)
  (s1, slice b 0 f.len, bad)

/-- Write bytes over a frame's data from an offset on, staying within its pails. -/
def State.patchPails (s : State) : List Nat → Nat → Bytes → State
  | [], _, _ => s
  | h :: t, off, d =>
    let (_, start, fill) := s.link h
    if off < fill then
      let here := d.take (fill - off)
      let s1 := (s.write (s.pailAddr h + start + off) here).1
      State.patchPails s1 t 0 (d.drop (fill - off))
    else State.patchPails s t (off - fill) d

/-- Return every pail of a frame. -/
def State.freeFrame (s : State) (f : Frame) : State := s.freePails (s.chain maxChain f.pail)

/-- Read up to `n` bytes of one run of memory word by word; each byte with whether its word is uncorrectable, and then 0. -/
def State.readMarked (s : State) (a n src : Nat) : Nat → State × List (Byte × Bool)
  | 0 => (s, [])
  | fuel + 1 =>
    if n = 0 then (s, [])
    else
      let k := min n (32 - a % 32)
      let (s1, b, bad) := s.read a k src
      let (s2, rest) := State.readMarked s1 (a + k) (n - k) src fuel
      (s2, (if bad.isSome then b.map fun _ => (0, true) else b.map fun x => (x, false)) ++ rest)

/-- `n` bytes of a chain of pails from an offset of its data, marked. -/
def State.runMarked (s : State) : List Nat → Nat → Nat → State × List (Byte × Bool)
  | [], _, _ => (s, [])
  | h :: t, off, n =>
    if n = 0 then (s, [])
    else
      let (_, start, fill) := s.link h
      if fill ≤ off then State.runMarked s t (off - fill) n
      else
        let k := min n (fill - off)
        let (s1, b) := s.readMarked (s.pailAddr h + start + off) k 3 20
        let (s2, rest) := State.runMarked s1 t 0 (n - k)
        (s2, b ++ rest)

/-- Up to `n` bytes of a frame from an offset, those of an uncorrectable word as 0. -/
def State.frameSlice (s : State) (f : Frame) (off n : Nat) : State × Bytes :=
  let (s1, m) := s.runMarked (s.chain maxChain f.pail) off (min n (f.len - off))
  (s1, m.map Prod.fst)

end Sys2Proof.Machine
end

