-- ==== Sys2Proof/Machine/Referee.lean ====
section
/-! DEFINITION. The referee (R395-R399): leave is asked, waits, is granted while it fits, and is returned. -/

namespace Sys2Proof.Machine

/-- Leave classes (Table PWR-3). -/
def clsStanding : Nat := 1
def clsPowerUp : Nat := 2
def clsFullChain : Nat := 3
def clsSpatial : Nat := 4
def clsRetrain : Nat := 5
def clsBurst : Nat := 6
def clsProgram : Nat := 7

/-- The sum of a list of leave. -/
def leaveSum : List Leave → Nat
  | [] => 0
  | l :: t => l.amount + leaveSum t

/-- The grants held. -/
def State.grantList (s : State) : List Leave := s.pwr.grants.map Prod.snd

/-- The leave of a class that is held (PWR_REF_CLASSc.HELD). -/
def State.classHeld (s : State) (c : Nat) : Nat := leaveSum (s.grantList.filter fun l => l.cls = c)

/-- The fixed sum: base and retention leave of every domain that is not off, and all standing leave. -/
def State.fixedSum (s : State) : Nat := (s.pwr.domLeave.map Prod.snd).sum + s.classHeld clsStanding

/-- The granted sum: every other grant. -/
def State.grantedSum (s : State) : Nat := leaveSum (s.grantList.filter fun l => l.cls ≠ clsStanding)

/-- PWR_REF_BUDGET.BUDGET. -/
def State.budget (s : State) : Nat := s.fg PWR_REF_BUDGET PWR_REF_BUDGET_BUDGET

/-- A request fits when fixed + granted + amount ≤ BUDGET (R396). -/
def State.leaveFits (s : State) (l : Leave) : Bool := decide (s.fixedSum + s.grantedSum + l.amount ≤ s.budget)

/-- A request passes the first test of R398. -/
def State.leaveCanFit (s : State) (l : Leave) : Bool := decide (s.fixedSum + l.amount ≤ s.budget)

/-- The PROGRAM grants held. -/
def State.programGrants (s : State) : Nat := (s.grantList.filter fun l => l.cls = clsProgram).length

/-- A requester's code at point 9: a context's ID, or a sub-block by its kind and index (R410). -/
def Leave.who (l : Leave) : Nat := if l.req = 6 then l.index % 512 else 512 + (l.req * 64 + l.index % 64) % 512

/-- Ask for leave: the request is queued, or refused and counted (R398). The Bool says whether it waits. -/
def State.askLeave (s : State) (cls amount req index : Nat) : State × Bool :=
  let l : Leave := { cls, amount, req, index, since := s.now }
  let s0 := s.contest 9 0 l.who
  if !s0.leaveCanFit l || decide (256 ≤ s0.pwr.queue.length) ||
      (cls == clsProgram && decide (1024 ≤ s0.programGrants)) then
    (s0.bump PWR_REF_REFUSED, false)
  else ({ s0 with pwr := { s0.pwr with queue := s0.pwr.queue ++ [l] } }, true)

/-- The first request of a class that fits, by its place in the queue. -/
def firstFit (s : State) (c : Nat) : List Leave → Nat → Option Nat
  | [], _ => none
  | l :: t, j => if l.cls = c ∧ s.leaveFits l then some j else firstFit s c t (j + 1)

/-- The first request of classes 0x3-0x7 that fits; one that has waited AGE µs without fitting stops the search. -/
def firstOther (s : State) : List Leave → Nat → Option Nat
  | [], _ => none
  | l :: t, j =>
    if l.cls < 3 then firstOther s t (j + 1)
    else if s.leaveFits l then some j
    else if l.since + s.fg PWR_REF_CFG PWR_REF_CFG_AGE * 1000 ≤ s.now then none
    else firstOther s t (j + 1)

/-- The request the referee grants next (R396, R45). -/
def State.nextGrant (s : State) : Option Nat :=
  match firstFit s clsStanding s.pwr.queue 0 with
  | some j => some j
  | none =>
    if s.fg PWR_PACE_STATUS PWR_PACE_STATUS_STATE = 2 then none
    else
      match firstFit s clsPowerUp s.pwr.queue 0 with
      | some j => some j
      | none => firstOther s s.pwr.queue 0

/-- The next free grant ID: from 1 upward, wrapping, skipping 0 and every ID held (R396). -/
def freshId (held : List Nat) : Nat → Nat → Nat
  | 0, i => i
  | n + 1, i =>
    let j := if i % 65536 = 0 then 1 else i % 65536
    if held.contains j then freshId held n (j + 1) else j

/-- The lowest free entry of ADM_GRANTi. -/
def lowestFree : SMap Leave → Nat → Nat
  | [], n => n
  | (k, _) :: t, n => if k = n then lowestFree t (n + 1) else n

/-- Grant the request at a place in the queue: it receives an ID and the lowest free entry. -/
def State.grantAt (s : State) (j : Nat) (l : Leave) : State × Nat :=
  let held := s.grantList.map Leave.id
  let id := freshId held (held.length + 1) s.pwr.nextId
  let e := lowestFree s.pwr.grants 0
  let p := s.pwr
  ({ s with pwr := { p with
      grants := SMap.ins p.grants e { l with id }, queue := p.queue.eraseIdx j, nextId := id + 1, issued := p.issued + 1 } }, id)

/-- Return every grant that passes a test. -/
def State.returnWhere (s : State) (p : Leave → Bool) : State :=
  { s with pwr := { s.pwr with grants := s.pwr.grants.filter fun e => !p e.2 } }

/-- Requesters return the grants that pass a test: each return is ordered at the referee arbiter (R396, point 9). -/
def State.giveBack (s : State) (p : Leave → Bool) : State :=
  ((s.grantList.filter p).foldl (fun (t : State) l => t.contest 9 0 l.who) s).returnWhere p

/-- Return the grant with an ID. -/
def State.returnId (s : State) (id : Nat) : State := s.giveBack fun l => l.id == id

/-- Return a requester's grant of a class. -/
def State.returnReq (s : State) (cls req index : Nat) : State :=
  s.giveBack fun l => l.cls == cls && l.req == req && l.index == index

/-- Withdraw a requester's waiting request. -/
def State.withdraw (s : State) (p : Leave → Bool) : State :=
  { s with pwr := { s.pwr with queue := s.pwr.queue.filter fun l => !p l } }

/-- A requester holds a grant of a class. -/
def State.holdsLeave (s : State) (cls req index : Nat) : Bool :=
  s.grantList.any fun l => l.cls == cls && l.req == req && l.index == index

/-- A requester waits for leave of a class. -/
def State.asksLeave (s : State) (cls req index : Nat) : Bool :=
  s.pwr.queue.any fun l => l.cls == cls && l.req == req && l.index == index

/-- The domain whose block made a request (Table PWR-9). -/
def leaveDom (l : Leave) : Option Dom :=
  if l.req = 1 then some (Dom.ofUnit l.index)
  else if l.req = 2 then some (Dom.ofUnit (l.index / 4))
  else if l.req = 3 then some .spatial
  else if l.req = 4 then some .memory
  else if l.req = 5 then some .cipher
  else if l.req = 6 then some (Dom.ofCore (l.index / 4))
  else none

/-- The queued requests that can no longer fit, which are refused at that moment (R398): they leave the queue and are
counted; their requesters act as their chapters say. -/
def State.refuseNoFit (s : State) : State × List Leave :=
  let bad := s.pwr.queue.filter fun l => !s.leaveCanFit l
  if bad.isEmpty then (s, [])
  else
    let s1 := { s with pwr := { s.pwr with queue := s.pwr.queue.filter fun l => s.leaveCanFit l } }
    (s1.bump PWR_REF_REFUSED [] bad.length, bad)

end Sys2Proof.Machine
end

