-- ==== Sys2Proof/Machine/Ring.lean ====
section
/-! DEFINITION. The Ethernet receive rings and the flow control their fill generates (R259-R261). -/

namespace Sys2Proof.Machine

/-- A port of the Ethernet block. -/
def State.port (s : State) (p : Nat) : EthPort := SMap.get s.eth p {}

/-- Set a port. -/
def State.setPort (s : State) (p : Nat) (x : EthPort) : State := { s with eth := SMap.set s.eth p x {} }

/-- The pails of a ring: those of its frames and of every frame being written (R259). -/
def State.ringPails (s : State) (p r : Nat) : Nat :=
  let e := s.port p
  let held := (SMap.get e.rings r []).map fun f => (s.chain maxChain f.pail).length
  let inn := e.rxIn.map fun x => match x.2 with | some i => if i.ring = some r then i.pails.length else 0 | none => 0
  held.sum + inn.sum

/-- The frames of a ring, those in reception counted from their fate. -/
def State.ringFrames (s : State) (p r : Nat) : Nat :=
  let e := s.port p
  (SMap.get e.rings r []).length +
    (e.rxIn.filter fun x => match x.2 with | some i => i.ring == some r | none => false).length

/-- Sub-port s of one of the two ports exists in the port's MODE (Table ETH-1). -/
def State.spExists (s : State) (p sub : Nat) : Bool :=
  let m := s.fg ETH_MODE ETH_MODE_MODE [p]
  if 2 ≤ p then false else if m = 0 then sub == 0 else if m = 1 then decide (sub < 2) else decide (sub < 4)

/-- Sub-port s is enabled: present in the mode, with its SPEN bit set. -/
def State.spEnabled (s : State) (p sub : Nat) : Bool :=
  s.domOn .wired && s.spExists p sub && bitN (s.fg ETH_MODE ETH_MODE_SPEN [p]) sub

/-- A sub-port's link is up. -/
def State.spLink (s : State) (p sub : Nat) : Bool := s.flag ETH_SP_STATUS ETH_SP_STATUS_LINK [p, sub]

/-- Gigabits per second of a sub-port. -/
def State.lineRate (s : State) (p : Nat) : Nat :=
  let m := s.fg ETH_MODE ETH_MODE_MODE [p]
  if m = 0 then 100 else if m = 1 then 50 else 25

/-- The timebase `n` bit times of a sub-port before or after this instant: whole ns and its 16-bit fraction. -/
def State.stampAt (s : State) (p n : Nat) (before : Bool) : Nat × Nat :=
  let t := s.now * 65536 + s.nowFrac
  let d := n * 65536 / s.lineRate p
  let u := if before then t - d else t + d
  (u / 65536, u % 65536)

/-- The receive stamp of a frame whose first 22 bytes have just arrived: the first symbol after its SFD (R57, R256). -/
def State.rxStamp (s : State) (p : Nat) : Nat × Nat := s.stampAt p 176 true

/-- The transmit stamp of a frame whose preamble starts now: the first symbol after its SFD (R57). -/
def State.txStamp (s : State) (p : Nat) : Nat × Nat := s.stampAt p 64 false

/-- FC_MODE of a sub-port: 1 PAUSE, 2 PFC. -/
def State.fcMode (s : State) (p sub : Nat) : Nat := s.fg ETH_SP_CFG ETH_SP_CFG_FC_MODE [p, sub]

/-- The rings that can hold a priority off (R261). -/
def State.fcRings (s : State) (p sub prio : Nat) : List Nat :=
  (List.range 16).filter fun r => s.flag ETH_RING_FC ETH_RING_FC_EN [p, r] &&
    (s.fcMode p sub == 1 || bitN (s.fg ETH_RING_FC ETH_RING_FC_PRIO_MASK [p, r]) prio)

/-- The pause state of a priority; sub-port and priority are packed as sub * 8 + p. -/
def EthPort.pauseOf (e : EthPort) (sub prio : Nat) : Pause := SMap.get e.pause (sub * 8 + prio) {}

/-- Set it. -/
def EthPort.setPause (e : EthPort) (sub prio : Nat) (x : Pause) : EthPort :=
  { e with pause := SMap.set e.pause (sub * 8 + prio) x {} }

/-- What a sub-port's PHY is set to; it advertises this and nothing else (R252). -/
def State.spPhy (s : State) (p sub : Nat) : EthPhy :=
  let r := s.lineRate p
  { speed := r, cr := s.flag ETH_MODE ETH_MODE_MEDIA [p], fec := if r = 25 then s.fg ETH_SP_CFG ETH_SP_CFG_FEC [p, sub] else 3 }

/-- A generated pause or PFC frame (IEEE 802.3) with its FCS: the quanta stand for the priority, or for the whole sub-port. -/
def State.pauseBytes (s : State) (p sub prio quanta : Nat) : Bytes :=
  let body :=
    if s.fcMode p sub = 1 then beBytes 2 1 ++ beBytes 2 quanta
    else beBytes 2 0x101 ++ beBytes 2 (2 ^ prio) ++ List.replicate (2 * prio) 0 ++ beBytes 2 quanta
  let b := slice (beBytes 6 0x0180C2000001 ++ beBytes 6 (Config.pauseSource p sub) ++ beBytes 2 0x8808 ++ body) 0 60
  b ++ leBytes 4 (crc32 b).toNat

/-- Send a pause or PFC frame for a priority with a quanta value (R261). -/
def State.emitPause (s : State) (p sub prio quanta : Nat) : State :=
  let e := s.port p
  let b := s.pauseBytes p sub prio quanta
  ((s.setPort p { e with
    pauseSent := SMap.ins e.pauseSent (sub * 8 + prio) (quanta, s.now), wire := SMap.ins e.wire sub b }).bump
    ETH_TX_PAUSE_SENT [p, sub]).egress p b

/-- A pause frame goes ahead of every queued frame, and behind the frame in transmission. -/
def State.sendPause (s : State) (p sub prio quanta : Nat) : State :=
  let e := s.port p
  if (SMap.get e.tx sub none).isSome then s.setPort p { e with pauseQ := e.pauseQ ++ [(sub, prio, quanta)] }
  else s.emitPause p sub prio quanta

/-- Send pause frames in order. -/
def State.emitPauses (s : State) (p : Nat) : List (Nat × Nat × Nat) → State
  | [] => s
  | x :: t => State.emitPauses (s.emitPause p x.1 x.2.1 x.2.2) p t

/-- The frame in transmission has ended: the sub-port's waiting pause frames go. -/
def State.flushPause (s : State) (p sub : Nat) : State :=
  let e := s.port p
  (s.setPort p { e with pauseQ := e.pauseQ.filter fun x => x.1 ≠ sub }).emitPauses p (e.pauseQ.filter fun x => x.1 = sub)

/-- Begin or end the hold-off of one priority as the rings' fill says: XOFF when it begins, XON when every such ring has
fallen to XON or below. -/
def State.fcOne (s : State) (p sub prio : Nat) : State :=
  let rs := s.fcRings p sub prio
  let x := (s.port p).pauseOf sub prio
  match x.sent with
  | none =>
    if rs.any fun r => decide (s.fg ETH_RING_CFG ETH_RING_CFG_XOFF [p, r] ≤ s.ringPails p r) then
      (s.setPort p ((s.port p).setPause sub prio { x with sent := some s.now })).sendPause p sub prio
        (s.fg ETH_SP_WD ETH_SP_WD_XOFF_QUANTA [p, sub])
    else s
  | some _ =>
    if rs.all fun r => decide (s.ringPails p r ≤ s.fg ETH_RING_CFG ETH_RING_CFG_XON [p, r]) then
      (s.setPort p ((s.port p).setPause sub prio { x with sent := none })).sendPause p sub prio 0
    else s

/-- The (sub-port, priority) pairs of a port; in PAUSE mode priority 0 stands for all of them. -/
def fcPairs : List (Nat × Nat) := (List.range 4).flatMap fun a => (List.range 8).map fun b => (a, b)

/-- Run the flow control of a port over some pairs. -/
def State.fcPairsRun (s : State) (p : Nat) : List (Nat × Nat) → State
  | [] => s
  | (sub, prio) :: t =>
    let m := s.fcMode p sub
    let on := s.spEnabled p sub && (m == 2 || (m == 1 && prio == 0))
    State.fcPairsRun (if on then s.fcOne p sub prio else s) p t

/-- The flow control of a port follows its rings' fill (R261). -/
def State.fcCheck (s : State) (p : Nat) : State := s.fcPairsRun p fcPairs

/-- Take a frame out of its receive ring's count (R259, Release). -/
def State.ringRelease (s : State) (f : Frame) : State :=
  if f.ring = 0 then s
  else
    let p := (f.ring - 1) / 16
    let r := (f.ring - 1) % 16
    let e := s.port p
    (s.setPort p { e with
      rings := SMap.set e.rings r ((SMap.get e.rings r []).filter fun g => g.pail ≠ f.pail) [] }).fcCheck p

end Sys2Proof.Machine
end

