-- ==== Sys2Proof/Machine/Drk.lean ====
section
/-! DEFINITION. Dreka contexts, events and their dispatch (chapter 05): the header window, FIFOs, drops, faults and the
end of an event; and the end of a frame's stay in the device. -/

namespace Sys2Proof.Machine

/-! ## Contexts, cores, images -/

/-- A context by its ID (R100). -/
def State.ctx (s : State) (c : Nat) : Ctx := SMap.get s.drk.ctxs c {}

/-- Set a context. -/
def State.setCtx (s : State) (c : Nat) (x : Ctx) : State :=
  { s with drk := { s.drk with ctxs := SMap.set s.drk.ctxs c x {} } }

/-- A core by its index. -/
def State.core (s : State) (n : Nat) : Core := SMap.get s.drk.cores n {}

/-- Set a core. -/
def State.setCore (s : State) (n : Nat) (x : Core) : State :=
  { s with drk := { s.drk with cores := SMap.set s.drk.cores n x {} } }

/-- The image with a load number. -/
def State.image (s : State) (l : Nat) : Image := SMap.get s.drk.images l {}

/-- The image a core is bound to. -/
def State.coreImage (s : State) (n : Nat) : Image := s.image (s.core n).bound

/-- "None" in an image's entry table and fault entry. -/
def noEntry : Nat := 0xFFFFFFFF

/-- An image's entry word for an event type; types 0x0 and 0x8-0xF have none (Table DRK-6). -/
def Image.entryOf (i : Image) (t : Nat) : Nat := if t = 0 ∨ 7 < t then noEntry else getAt i.entry t noEntry

/-- The words of an image's code section. -/
def Image.codeWords (i : Image) : Nat := i.code.length / 4

/-- A core is benched (R122). -/
def State.benched (s : State) (n : Nat) : Bool :=
  if n < 64 then (s.rg DRK_BENCHED_LO).getLsbD n else (s.rg DRK_BENCHED_HI).getLsbD (n - 64)

/-- Set or clear a core's bench bit, in DRK_BENCHED, PWR_PACE_MONn and the count. -/
def State.setBenched (s : State) (n : Nat) (b : Bool) : State :=
  let s1 :=
    if n < 64 then s.wg DRK_BENCHED_LO (setFld (s.rg DRK_BENCHED_LO) n n (b2n b))
    else s.wg DRK_BENCHED_HI (setFld (s.rg DRK_BENCHED_HI) (n - 64) (n - 64) (b2n b))
  let s2 := s1.fs PWR_PACE_MON PWR_PACE_MON_BENCHED (b2n b) [n]
  s2.fs DRK_BENCH_STATUS DRK_BENCH_STATUS_COUNT
    (popc 64 (s2.rg DRK_BENCHED_LO).toNat + popc 32 (s2.rg DRK_BENCHED_HI).toNat)

/-- A core's four contexts. -/
def ctxsOf (n : Nat) : List Nat := [4 * n, 4 * n + 1, 4 * n + 2, 4 * n + 3]

/-- The other cores of a core's cluster, in ascending order after it with wrap-around. -/
def clusterAfter (n : Nat) : List Nat := [1, 2, 3, 4, 5, 6, 7].map fun k => n / 8 * 8 + (n + k) % 8

/-- A core counter adds an event for a context (R404), unless the counters are frozen. -/
def State.pmcCore (s : State) (c ev n : Nat) : List Nat → State
  | [] => s
  | j :: t =>
    let k := c / 4
    let s' :=
      if s.fg PMC_CORE_CFG PMC_CORE_CFG_EVENT [k, j] == ev && bitN (s.fg PMC_CORE_CFG PMC_CORE_CFG_CTX [k, j]) (c % 4)
          && !s.flag PMC_CTL PMC_CTL_FREEZE then
        s.pmcAdd PMC_CORE_CNT [k, j] n
      else s
    State.pmcCore s' c ev n t

/-- Note something about a context's tagged instruction while it runs (R407). -/
def State.tagUpd (s : State) (c : Nat) (f : TagRec → TagRec) : State :=
  let k := s.core (c / 4)
  match k.tag with
  | some t => if t.ctx = c ∧ t.ended = none then s.setCore (c / 4) { k with tag := some (f t) } else s
  | none => s

/-- Count one core event of Table OBS-1. -/
def State.count (s : State) (c ev : Nat) : State := s.pmcCore c ev 1 [0, 1, 2, 3, 4, 5, 6, 7]

/-! ## The end of a frame -/

/-- A consumed command's work has ended. -/
def HCmd.finish (c : HCmd) (d : HDone) : HCmd := { c with done := some d }

/-- Record how a command's work ended (the first end stands). -/
def State.hifDone (s : State) (qp cseq : Nat) (d : HDone) : State :=
  { s with hif := { s.hif with cmds := s.hif.cmds.map fun c =>
      if c.qp = qp ∧ c.cseq = cseq ∧ c.done = none then c.finish d else c } }

/-- A frame whose TX_FRAME asked for a stamp ends without one: its completion carries NO_TS (R91). -/
def State.noStamp (s : State) (f : Frame) : State :=
  match f.ts with
  | some (qp, cseq, _) => s.hifDone qp cseq { status := 0, flags := 1 }
  | none => s

/-- A frame is dropped: every pail returns, and a stamp asked for is not taken. -/
def State.dropFrame (s : State) (f : Frame) : State := ((s.ringRelease f).freeFrame f).noStamp f

/-! ## Raising and dispatch -/

/-- A block raises an event. -/
def State.raise (s : State) (e : Ev) : State := { s with drk := { s.drk with raised := s.drk.raised ++ [e] } }

/-- The context that now serves a named context's pinned events (R123). -/
def State.serving (s : State) (c : Nat) : Nat := SMap.get s.drk.handover c c

/-- The first core of a list that can stand in for a benched core: unbenched and bound to the image with an IMAGE_ID. -/
def State.standIn (s : State) (img : Nat) : List Nat → Option Nat
  | [] => none
  | k :: t =>
    if !s.benched k && (s.core k).bound != 0 && (s.coreImage k).id == img then some k else State.standIn s img t

/-- The context that should serve a named context: itself, or its substitute while its core is benched (R123). -/
def State.wanted (s : State) (c : Nat) : Nat :=
  if s.benched (c / 4) then
    match s.standIn (s.coreImage (c / 4)).id (clusterAfter (c / 4)) with
    | some k => 4 * k + c % 4
    | none => c
  else c

/-- A context is idle with an empty FIFO. -/
def Ctx.quiet (x : Ctx) : Bool := (x.st == .idle || x.st == .unbound) && x.fifo.isEmpty

/-- Move a named context's service to the wanted context once the present one is quiet. -/
def State.reassign (s : State) (c : Nat) : State :=
  if s.wanted c = s.serving c then s
  else if (s.ctx (s.serving c)).quiet then
    { s with drk := { s.drk with handover := SMap.set s.drk.handover c (s.wanted c) c } }
  else s

/-- A context can take an event into its FIFO: its service stands and its core is not switching. -/
def State.canPlace (s : State) (c : Nat) : Bool :=
  let t := s.serving c
  s.wanted c == t && (s.core (t / 4)).switching.isNone && decide ((s.ctx t).fifo.length < 8)

/-- Place an event at the end of a context's FIFO; its frame leaves its ring's count (R259). -/
def State.place (s : State) (t : Nat) (e : Ev) : State :=
  let s1 := match e.frame with | some f => s.ringRelease f | none => s
  let x := s1.ctx t
  s1.setCtx t { x with fifo := x.fifo ++ [{ e with frame := e.frame.map fun f => { f with ring := 0 } }] }

/-- Move held events of a named context into the FIFO that serves it, in arrival order. -/
def State.drainHeld (s : State) (c : Nat) : Nat → State
  | 0 => s
  | n + 1 =>
    if s.canPlace c then
      match (s.ctx c).held with
      | e :: t => State.drainHeld ((s.setCtx c { s.ctx c with held := t }).place (s.serving c) e) c n
      | [] => s
    else s

/-- A reference to an epoch's rule set is released; when the old set's count reaches 0 its slot is free (R290). -/
def State.epochDone (s : State) (e : Nat) : State :=
  if e = 0 then s
  else if s.fg SKM_EPOCH SKM_EPOCH_CUR = e then { s with skm := { s.skm with curCount := s.skm.curCount - 1 } }
  else if s.fg SKM_EPOCH SKM_EPOCH_OLD = e then
    let n := s.fg SKM_EPOCH SKM_EPOCH_OLD_COUNT
    let s1 := s.fs SKM_EPOCH SKM_EPOCH_OLD_COUNT (n - 1)
    if n ≤ 1 then (s1.fs SKM_EPOCH SKM_EPOCH_OLD 0).logEv 0x22 0x04 0 e else s1
  else s

/-- A chain of passes is over: its epoch reference is released and its indirection entry has one chain fewer (R286,
R290). -/
def State.chainOver (s : State) (epoch : Nat) (indir : Option Nat) : State :=
  let s1 := s.epochDone epoch
  match indir with
  | some i =>
    { s1 with skm := { s1.skm with
        outstanding := SMap.set s1.skm.outstanding i (SMap.get s1.skm.outstanding i 0 - 1) 0 } }
  | none => s1

/-- The dispatcher drops an event (R111): its pails return, it is counted, and at most one drop for each reason and core
is logged each millisecond. A dropped RX notice returns its entry to TLM (R249). -/
def State.dropEvent (s : State) (e : Ev) (reason : Reg) (code core ctx : Nat) : State :=
  let s1 :=
    match e.frame with
    | some f => if e.typ = 1 ∨ e.typ = 2 then (s.dropFrame f).chainOver f.epoch e.indir else s.dropFrame f
    | none =>
      if e.typ = 5 ∧ leAt e.record 0 1 = 1 then
        { s with tlm := { s.tlm with rxSt := SMap.del s.tlm.rxSt (leAt e.record 2 2) } }
      else s
  (s1.bump reason).logLim (0x1000 + code * 128 + core) 6 0x03 0 ctx

/-- A bound core's image takes an event: it has an entry for the type, and a PLAN event names one of its units (R112). -/
def Image.takes (i : Image) (e : Ev) : Bool :=
  i.entryOf e.typ != noEntry && (e.typ != 3 || bitN i.flags e.unit)

/-- The cores that may take a pooled event; one that is switching may once it has switched. -/
def State.poolCores (s : State) (e : Ev) : List Nat :=
  (s.drk.cores.filter fun k => k.2.bound != 0 && !s.benched k.1 &&
    (s.image k.2.bound).takes e && s.domOn (Dom.ofCore k.1)).map Prod.fst

/-- The lowest-numbered context of a list of cores with a free FIFO entry. -/
def State.freeCtx (s : State) : List Nat → Option Nat
  | [] => none
  | k :: t =>
    match (ctxsOf k).find? fun c => (s.core k).switching.isNone && decide ((s.ctx c).fifo.length < 8) with
    | some c => some c
    | none => State.freeCtx s t

/-- Send one event on its way, at the dispatch arbiter unless it was held; none when it is a pooled event whose eligible
FIFOs are all full, which waits (R110, R111). -/
def State.sendEvent (s : State) (e : Ev) (meet : Bool) : Option State :=
  match e.pinned with
  | some c0 =>
    let c := c0 % 384
    let k := c / 4
    if !s.domOn (Dom.ofCore k) then some (s.dropEvent e DRK_DROP_DOWN 1 k c)
    else if (s.core k).switching.isNone && ((s.core k).bound == 0 || !(s.coreImage k).takes e) then
      some (s.dropEvent e DRK_DROP_NOENT 0 k c)
    else
      let s1 := s.reassign c
      if (s1.ctx c).held.isEmpty && s1.canPlace c then
        some ((if meet then s1.contest 2 (s1.serving c) 512 else s1).place (s1.serving c) e)
      else some (s1.setCtx c { s1.ctx c with held := (s1.ctx c).held ++ [e] })
  | none =>
    match s.poolCores e with
    | [] => some (s.dropEvent e DRK_DROP_NOENT 0 127 0)
    | ks =>
      match s.freeCtx ks with
      | some c => some ((s.contest 2 c (512 + e.typ)).place c e)
      | none => none

/-- Dispatch one event. -/
def State.dispatch (s : State) (e : Ev) : Option State := s.sendEvent e true

/-- Send held events of a list on their way again, in order: each is placed, held or dropped. -/
def State.resend (s : State) : List Ev → State
  | [] => s
  | e :: t => State.resend ((s.sendEvent e false).getD s) t

/-- Dispatch the first raised event that can go. -/
def State.dispatchFirst (s : State) : List Ev → List Ev → State
  | _, [] => s
  | before, e :: t =>
    match { s with drk := { s.drk with raised := before ++ t } }.dispatch e with
    | some s1 => s1
    | none => State.dispatchFirst s (before ++ [e]) t

/-! ## The header window and the start of an event (R103, R113) -/

/-- A byte of a context's window. -/
def Ctx.winByte (x : Ctx) (i : Nat) : Byte := SMap.get x.win i 0

/-- Window bytes from an offset. -/
def Ctx.winBytes (x : Ctx) : Nat → Nat → Bytes
  | _, 0 => []
  | i, n + 1 => x.winByte i :: Ctx.winBytes x (i + 1) n

/-- Set window bytes from an offset. -/
def setWin (w : SMap Byte) : Nat → Bytes → SMap Byte
  | _, [] => w
  | i, b :: t => setWin (SMap.set w i b 0) (i + 1) t

/-- The descriptor and PARSE bytes 0-63 of an event's window (Table DRK-5a). -/
def Ev.desc (e : Ev) : Bytes :=
  match e.frame with
  | some f =>
    leBytes 1 e.typ ++ leBytes 1 f.flags ++ leBytes 1 f.churn ++ leBytes 1 f.epoch ++ leBytes 2 f.source ++
      leBytes 2 f.len ++ leBytes 4 f.pail ++ leBytes 4 f.hash ++ leBytes 4 f.arg ++ leBytes 2 f.stampFrac ++
      leBytes 2 0 ++ leBytes 8 f.stampNs ++ slice f.parse 0 32
  | none =>
    leBytes 1 e.typ ++ leBytes 3 0 ++ leBytes 2 e.source ++ leBytes 2 e.length ++ leBytes 8 0 ++ leBytes 4 e.arg ++
      leBytes 12 0 ++ slice e.record 0 32

/-- A general register; g0 reads 0 (R101). -/
def Ctx.reg (x : Ctx) (i : Nat) : Word := if i % 32 = 0 then 0 else SMap.get x.g (i % 32) 0

/-- Write a general register; writes to g0 are discarded. -/
def Ctx.setReg (x : Ctx) (i : Nat) (v : Word) : Ctx :=
  if i % 32 = 0 then x else { x with g := SMap.set x.g (i % 32) v 0 }

/-- A predicate; p0 reads 1. -/
def Ctx.pred (x : Ctx) (i : Nat) : Bool := if i % 8 = 0 then true else x.p.getLsbD (i % 8)

/-- Write a predicate; writes to p0 are discarded. -/
def Ctx.setPred (x : Ctx) (i : Nat) (v : Bool) : Ctx :=
  if i % 8 = 0 then x
  else { x with p := if v then x.p ||| (1#8 <<< (i % 8)) else x.p &&& ~~~(1#8 <<< (i % 8)) }

/-- The registers, window and ownership of a context at the start of an event (R103, R113). -/
def Ctx.begin_ (x : Ctx) (e : Ev) (i : Image) (head : Bytes) : Ctx :=
  let w := e.desc ++ slice head 0 128
  { x with
    st := .running, g := [(1, 0x30000000000), (2, BitVec.ofNat 64 (leAt w 0 8))].filter (fun r => r.2 ≠ 0),
    p := 1, pc := i.entryOf e.typ, event := e.typ, budget := i.budget,
    epoch := match e.frame with | some f => f.epoch | none => 0,
    faultCode := 0, faultPc := 0, faultAddr := 0, inFault := false,
    win := setWin [] 0 w, winDirty := false, frame := e.frame, gone := false, owned := e.frame.toList, grants := [], frac := 0,
    tickets := [], blocked := .nothing, guardN := 0, guardSquash := false, indir := e.indir }

/-- Held events of the named contexts of a list that a context serves enter its FIFO as far as it has room. -/
def State.drainServed (s : State) (t : Nat) : List Nat → State
  | [] => s
  | c :: l => State.drainServed (if s.serving c = t then s.drainHeld c 8 else s) t l

/-- The contexts of a cluster with a context's number, itself first. -/
def sameNumber (c : Nat) : List Nat := c :: (clusterAfter (c / 4)).map fun k => 4 * k + c % 4

/-- A context takes the head of its FIFO (R103). -/
def State.startEvent (s : State) (c : Nat) : State :=
  let x := s.ctx c
  match x.st, x.fifo with
  | .idle, e :: t =>
    let (s1, head) :=
      match e.frame with
      | some f => s.frameSlice f 0 128
      | none => (s, e.head)
    let s2 := s1.setCtx c ({ x with fifo := t }.begin_ e (s1.coreImage (c / 4)) head)
    s2.drainServed c (sameNumber c)
  | _, _ => s

/-! ## The end of an event (R109, R116, R141) -/

/-- The event's own frame, while the event owns it: another frame that later lies in the same pails is not it (R145, R148). -/
def Ctx.ownFrame (x : Ctx) : Option Frame := if x.gone then none else x.frame

/-- A pail handle is that of the event's own frame. -/
def Ctx.isOwn (x : Ctx) (h : Nat) : Bool := match x.ownFrame with | some f => f.pail == h | none => false

/-- Write the window's frame bytes back to the event's own frame (R113). -/
def State.writeBack (s : State) (c : Nat) : State :=
  let x := s.ctx c
  match x.ownFrame with
  | some f =>
    if x.winDirty then
      let s1 := s.patchPails (s.chain maxChain f.pail) 0 (x.winBytes 64 (min 128 f.len))
      s1.setCtx c { s1.ctx c with winDirty := false }
    else s
  | none => s

/-- Drop frames one after another. -/
def State.dropFrames (s : State) : List Frame → State
  | [] => s
  | f :: t => State.dropFrames (s.dropFrame f) t

/-- Return every grant an event holds (R153). -/
def State.returnAll (s : State) : List Nat → State
  | [] => s
  | g :: t => State.returnAll (s.returnId g) t

/-- The context is idle again, or unbound when its core has lost its image. -/
def State.idleCtx (s : State) (c : Nat) : State :=
  let x := s.ctx c
  s.setCtx c { st := .idle, g := x.g, p := x.p, keep := x.keep, fifo := x.fifo, held := x.held, win := x.win, pc := x.pc,
               event := 0 }

/-! ## Engine status (Table DRI-13) -/

def esOk : Nat := 0
def esDomainDown : Nat := 1
def esFull : Nat := 2
def esStale : Nat := 3
def esNoMatch : Nat := 4
def esRefused : Nat := 5
def esUnreachable : Nat := 6
def esKey : Nat := 7
def esEmpty : Nat := 8

/-- A posted operation, while its unit has not answered. -/
def State.openOp (s : State) (id : Nat) : Option Op :=
  match SMap.find s.drk.ops id with
  | some o => if o.res.isNone then some o else none
  | none => none

/-- A store of a context through the fabric window, posted before the operation with a number, has not taken effect. -/
def State.storesBefore (s : State) (c id : Nat) : Bool :=
  let mine (t : FabTok) : Bool := match t with | .store k n => k == c && decide (n ≤ id) | _ => false
  s.fab.ops.any (fun e => e.2.any fun o => mine o.tok) || s.fab.wait.any fun x => mine x.2.2

/-- A posted operation that its unit may serve: every earlier store of its context has taken effect (R107, point 3). -/
def State.readyOp (s : State) (id : Nat) : Option Op :=
  match s.openOp id with
  | some o => if s.storesBefore o.ctx id then none else some o
  | none => none

/-- A unit answers a posted operation: its status and value, and whether the frame handed over is still the event's
(R148). -/
def State.answerOp (s : State) (id : Nat) (o : Op) (st val : Nat) (keep : Bool) : State :=
  { s with drk := { s.drk with
      ops := SMap.ins s.drk.ops id { o with res := some (st, val), frame := if keep then o.frame else none } } }

/-- A frame's bytes as memory holds them, with no decode counted. -/
def State.peek (s : State) (f : Frame) : Bytes := (s.frameBytes f).2.1

end Sys2Proof.Machine
end

