-- ==== Sys2Proof/Machine/KickBase.lean ====
section
/-! DEFINITION. What a pending staging set holds fixed (R350): its registers, its keys, and the domains it writes. -/

namespace Sys2Proof.Machine

/-- TYPE of an item (Table KCK-1). -/
def itType (b : Bytes) : Nat := leAt b 0 2
/-- The address, value and mask of a REG_WRITE or MEM_WRITE item. -/
def itAddr (b : Bytes) : Nat := leAt b 8 8
def itVal (b : Bytes) : Nat := leAt b 16 8
def itMask (b : Bytes) : Nat := leAt b 24 8
/-- HANDLE, DEVICE and IMAGE of a station item. -/
def itHandle (b : Bytes) : Nat := leAt b 8 2
def itDev (b : Bytes) : Nat := leAt b 10 1
def itImage (b : Bytes) : Nat := leAt b 12 2
/-- TIDMAP of a STA_SET item. -/
def itTidmap (b : Bytes) : Nat := leAt b 16 3
/-- The sub-port and bank of a gate item. -/
def itPort (b : Bytes) : Nat := leAt b 8 1
def itBank (b : Bytes) : Nat := leAt b 9 1

/-- Word m of a station image. -/
def imgWord (b : Bytes) (m : Nat) : Nat := leAt b (8 * m) 8

/-- A staging set. -/
def State.kset (s : State) (k : Nat) : KckSet := SMap.get s.kck.sets k {}

/-- The items of every pending set, and of other devices' sets that this device is to apply, each with its images. -/
def State.pendingItems (s : State) : List (Bytes × List Bytes) :=
  (s.kck.order.flatMap fun k => (s.kset k).items.map fun i => (i, (s.kset k).images)) ++
    s.kck.parts.flatMap fun p => p.items.map fun i => (i, p.images)

/-- A REG_WRITE item writes some byte of the `n` bytes from a device address. -/
def itWrites (b : Bytes) (a n : Nat) : Bool :=
  itType b == 1 && ((List.range 8).any fun j =>
    bits (itMask b) (8 * j + 7) (8 * j) != 0 && decide (a ≤ itAddr b + j) && decide (itAddr b + j < a + n))

/-- A pending set writes a register: direct writes to it are discarded and logged. -/
def State.kickHolds (s : State) (off n : Nat) : Bool :=
  s.pendingItems.any fun x => itWrites x.1 (0x8000000000 + off) n

/-- The key indices a KEYS word names. -/
def wordKeys (w : Nat) : List Nat :=
  (if bitN w 24 then [bits w 11 0] else []) ++ (if bitN w 25 then [bits w 23 12] else [])

/-- The keys an item names: STA_ADD and STA_KEY name those of word 3 of their image. -/
def itKeys (b : Bytes) (images : List Bytes) : List Nat :=
  if itType b = 3 ∨ itType b = 5 then wordKeys (imgWord (getAt images (itImage b) []) 3) else []

/-- A pending set names a key. -/
def State.kickKey (s : State) (k : Nat) : Bool := s.pendingItems.any fun x => (itKeys x.1 x.2).contains k

end Sys2Proof.Machine
end

