-- ==== Sys2Proof/Machine/Access.lean ====
section
/-! DEFINITION. What every write or read of a register does before its own effect: the recording of a host write, the
arbiter of writes to one register, and the access to a block whose domain is down (R394, R410, R412). -/

namespace Sys2Proof.Machine

/-- The CSR blocks that device programs and fabric peers cannot write: SEC, PWR, ADM, KCK and HIF (R106, R365). -/
def guardedBlock (b : Nat) : Bool := [0, 1, 2, 4, 5].contains b

/-- Indices lie within a register family. -/
def inDims : List (Nat × Nat) → List Nat → Bool
  | [], [] => true
  | (n, _) :: ds, i :: is => decide (i < n) && inDims ds is
  | _, _ => false

/-- A write of a guarded block by a program changes nothing, since its store faults (R106); a peer's is discarded and
logged (R365). -/
def State.guardWrite (s : State) (off : Nat) (who : Init) (go : State) : State :=
  match who with
  | .ctx _ => if guardedBlock (off / 0x100000) then s else go
  | .peer d => if guardedBlock (off / 0x100000) then s.logEv (off / 0x100000) 0x01 (0x8000000000 + off) d else go
  | _ => go

/-- A register write by its initiator. A host write is recorded (R412), and during a replay only SCB takes one (R416). It is
decided at point 25, dropped in a down domain (R394), discarded while a pending set holds the register (R350), and else given
its effect. Indices beyond the family name no register. -/
def State.csrWrite (s : State) (r : Reg) (i : List Nat) (who : Init) (v : Word) (f : State → State) : State :=
  let a := r.addr i
  let s0 := if who = .host then s.hostw (0x8000000000 + a) v (r.width / 8) else s
  if !inDims r.dims i then s
  else if who = .host ∧ s0.deaf ∧ a / 0x100000 ≠ 7 then s0
  else if s0.domOn (r.domOf i) then
    let s1 := s0.contest 25 (a / 0x100000) who.contender
    s0.guardWrite a who (if s1.kickHolds a (r.width / 8) then s1.logDiscard a else f s1)
  else s0.guardWrite a who (s0.downAccess (0x8000000000 + a) (r.domOf i) who true)

/-- The value of a field in a word written to its register. -/
def Fld.of (f : Fld) (v : Word) : Nat := fld v f.hi f.lo

/-- The writable bits of a register's RW fields replaced by a written word's; the other bits stay. -/
def rwMerge (r : Reg) (old v : Word) : Word := (old &&& ~~~ maskOf .rw r.flds) ||| (v &&& maskOf .rw r.flds)

/-- Store a word's RW fields and clear the W1C bits it names: the plain effect of a write (Table SCP-3). -/
def plainWord (r : Reg) (old v : Word) : Word :=
  (rwMerge r old v &&& ~~~ (v &&& maskOf .w1c r.flds)) ||| (v &&& maskOf .w1s r.flds)

/-- The plain effect of a write of a whole register. -/
def State.plain (s : State) (r : Reg) (i : List Nat) (v : Word) : State := s.wg r (plainWord r (s.rg r i) v) i

/-- The value self-timed logic or the management core reads is recorded (R412), and comes from the stream in a replay (R417). -/
def State.readBy (s : State) (who : Init) (off : Nat) (v : Word) : State × Word :=
  match who with
  | .ctx _ => (s.value off v).repValue off v
  | .mgc => (s.value off v).repValue off v
  | _ => (s, v)

end Sys2Proof.Machine
end

