-- ==== Sys2Proof/Machine/Time.lean ====
section
/-! DEFINITION. Pace, the AVS loop and the timebase (chapter 02). -/

namespace Sys2Proof.Machine

/-! ## Pace (R39, R40) -/

/-- The domain a pace monitor lies in (the table of R39). -/
def monDom (i : Nat) : Dom :=
  if i < 96 then Dom.ofCore i
  else if i < 112 then .cipher
  else getAt [.aon, .host, .memory, .memory, .rada, .radb, .radc, .spatial, .telem, .wired, .wired, .wired, .wired,
    .memory, .memory, .fabric] (i - 112) .aon

/-- A monitor counts: its domain is neither off nor in retention. -/
def State.monLive (s : State) (i : Nat) : Bool :=
  s.domState (monDom i) == 2 || s.domState (monDom i) == 3

/-- A monitor's VALUE. -/
def State.mon (s : State) (i : Nat) : Nat := s.fg PWR_PACE_MON PWR_PACE_MON_VALUE [i]

/-- Insert a (value, index) pair into a list rising by value. -/
def pairIns (x : Nat × Nat) : List (Nat × Nat) → List (Nat × Nat)
  | [] => [x]
  | a :: t => if x.1 ≤ a.1 then x :: a :: t else a :: pairIns x t

/-- The median of (value, index) pairs: the middle value, or the mean of the two middle ones rounded down (R122); its
member is the middle one, the lower of two. -/
def medianOf (l : List (Nat × Nat)) : Option (Nat × Nat) :=
  let q := l.foldr pairIns []
  if q.isEmpty then none
  else
    let n := q.length
    let lo := getAt q ((n - 1) / 2) (0, 0)
    let hi := getAt q (n / 2) (0, 0)
    some ((lo.1 + hi.1) / 2, lo.2)

/-- The live monitors of a list, with their values. -/
def State.monPairs (s : State) (l : List Nat) : List (Nat × Nat) := (l.filter s.monLive).map fun i => (s.mon i, i)

/-- The cores of a cluster. -/
def clusterCores (k : Nat) : List Nat := (List.range 8).map fun j => 8 * k + j

/-- The unbenched cores of a cluster whose domain is on, with a candidate core. -/
def State.clusterPeers (s : State) (k cand : Nat) : List (Nat × Nat) :=
  s.monPairs ((clusterCores k).filter fun n => !s.benched n || n == cand)

/-- The sixteen AES monitors. -/
def aesMons : List Nat := (List.range 16).map fun j => 96 + j

/-- The candidates for the floor pace (R40): block monitors, cluster medians, the AES median. -/
def State.floorCands (s : State) : List (Nat × Nat) :=
  s.monPairs ((List.range 16).map fun j => 112 + j) ++
    (List.range 12).filterMap (fun k => medianOf (s.clusterPeers k 128)) ++ (medianOf (s.monPairs aesMons)).toList

/-- The least candidate; of several, the first in the order block monitors, clusters, AES cores, which R40 does not settle
(DESIGN CHOICE, assumption 146). -/
def leastPair : List (Nat × Nat) → Option (Nat × Nat)
  | [] => none
  | a :: t =>
    match leastPair t with
    | some b => if b.1 < a.1 then some b else some a
    | none => some a

/-- Store each monitor's count; a monitor of an off or retained domain reads 0 (R39). -/
def State.setMons (s : State) (counts : List Nat) : List Nat → State
  | [] => s
  | i :: t =>
    State.setMons (s.fs PWR_PACE_MON PWR_PACE_MON_VALUE (if s.monLive i then getAt counts i 0 else 0) [i]) counts t

/-- A monitor is slow in this window: below 60 % of the median of its group. -/
def State.isSlow (s : State) (i : Nat) : Bool :=
  if i < 112 && s.monLive i then
    match medianOf (if i < 96 then s.clusterPeers (i / 8) i else s.monPairs aesMons) with
    | some (m, _) => decide (10 * s.mon i < 6 * m)
    | none => false
  else false

/-- A benched core's monitor is at least 60 % of the median of its cluster, which its unbenched cores make up (R122,
R124). -/
def State.paceBack (s : State) (n : Nat) : Bool :=
  match medianOf (s.clusterPeers (n / 8) 128) with
  | some (m, _) => s.monLive n && decide (6 * m ≤ 10 * s.mon n)
  | none => false

/-- Record a pace outcome and log it as a slow-unit event. -/
def State.slowEv (s : State) (i code : Nat) : State := (s.paceOutcome i code).logEv 6 0x07 0 i

/-- Bench a slow core, or refuse the bench (R122, R123). -/
def State.tryBench (s : State) (n : Nat) : State :=
  let full := decide (4 ≤ ((clusterCores (n / 8)).filter s.benched).length)
  let alone := (s.standIn (s.coreImage n).id (clusterAfter n)).isNone
  if full || alone then
    ((s.fs DRK_BENCH_STATUS DRK_BENCH_STATUS_REFUSED_SEEN 1).paceOutcome n 3).logEv 6 0x07 0 n
  else
    let s1 := (s.setBenched n true).slowEv n 1
    (ctxsOf n).foldl (fun t c => t.reassign c) s1

/-- One monitor's slow-unit test at a window's end (R49). -/
def State.slowTest (s : State) (i : Nat) : State :=
  let n := if s.isSlow i then SMap.get s.pace.slow i 0 + 1 else 0
  let s1 := { s with pace := { s.pace with slow := SMap.set s.pace.slow i (min n 977) 0 } }
  if n = 0 then s1
  else if i < 96 then
    if s1.benched i then s1
    else if s1.flag DRK_CTL DRK_CTL_BENCH_EN then (if 977 ≤ n then s1.tryBench i else s1)
    else if n = 977 then s1.logEv 6 0x07 0 i
    else s1
  else if n = 977 then (s1.bump CPH_AES_SLOW).logEv 1 0x07 0 i
  else s1

/-- Test the monitors of a list one after another, so that a core benched here no longer counts in its cluster's median for
the later ones (DESIGN CHOICE, assumption 146). -/
def State.slowTests (s : State) : List Nat → State
  | [] => s
  | i :: t => State.slowTests (s.slowTest i) t

/-- The floor pace of the window, with its sag bit (R40, R41). -/
def State.floorUpdate (s : State) : State :=
  match leastPair s.floorCands with
  | none => s
  | some (f, m) =>
    let old := s.fg PWR_PACE_STATUS PWR_PACE_STATUS_FLOOR
    let s1 := (s.fs PWR_PACE_STATUS PWR_PACE_STATUS_FLOOR f).fs PWR_PACE_STATUS PWR_PACE_STATUS_FLOOR_MON m
    let s2 := if f < 0x400 ∧ 0x400 ≤ old then s1.fs PWR_PACE_STATUS PWR_PACE_STATUS_SAG_SEEN 1 else s1
    let p := s2.pace
    let again := decide (f < 0x400) || s2.fg PWR_PACE_STATUS PWR_PACE_STATUS_STATE == 2
    { s2 with pace := { p with
        floors := (f :: p.floors).take 10, windows := p.windows + 1, iterNow := p.iterNow || again } }

/-- PACE_WINDOW_END (R39, R40, R49, R122): the counts become VALUEs, FLOOR is recomputed, slow units are tested; a replay takes
its bench decisions from the stream (R416). -/
def execPaceWindowEnd (counts : List Nat) (s : State) : Host.Outcome State Fault Refusal :=
  let s1 := (s.setMons counts (List.range 128)).floorUpdate
  .next (if s.replaying then s1 else s1.slowTests (List.range 112))

/-! ## The AVS loop (R41-R45) -/

/-- v := round(mantissa × 2^N × 1000), halves up (R43). -/
def voutToMv (n : Int) (m : Nat) : Nat :=
  if 0 ≤ n then m * 2 ^ n.toNat * 1000
  else
    let d := 2 ^ (-n).toNat
    (2 * m * 1000 + d) / (2 * d)

/-- The mantissa round(v ÷ 1000 × 2^(−N)), halves up (R43). -/
def mvToVout (n : Int) (v : Nat) : Nat :=
  if 0 ≤ n then
    let d := 1000 * 2 ^ n.toNat
    (2 * v + d) / (2 * d)
  else (2 * v * 2 ^ (-n).toNat + 1000) / 2000

/-- Put the transactions of one attempt on the bus: PAGE first unless PAGE is 0xFF (R41, R44). -/
def State.attempt (s : State) (op : PmbusOp) : State :=
  let tx (o : PmbusOp) : PmbusTx :=
    ⟨s.fg PWR_AVS_BUS PWR_AVS_BUS_ADDR, s.flag PWR_AVS_BUS PWR_AVS_BUS_SPEED, o⟩
  let n := s.fg PWR_AVS_BUS PWR_AVS_BUS_PAGE
  { s with pace := { s.pace with bus := (if n = 0xFF then [] else [tx (.page n)]) ++ [tx op] } }

/-- A read of the regulator, of up to `n` attempts: each answer is the word it gave, or none for an attempt that failed
(R44). -/
def State.pmbusRead (s : State) (op : PmbusOp) : Nat → List (Option Nat) → State × Option Nat
  | 0, _ => (s, none)
  | n + 1, l =>
    match l.head? with
    | some (some x) => (s.attempt op, some x)
    | _ => State.pmbusRead (s.attempt op) op n l.tail

/-- The loop enters the fault state (R44). -/
def State.avsFault (s : State) : State :=
  let s1 := (s.fs PWR_PACE_STATUS PWR_PACE_STATUS_STATE 3).fs PWR_PACE_STATUS PWR_PACE_STATUS_FAULT_SEEN 1
  { s1 with pace := { s1.pace with busy := none, iterNow := false } }.logEv 1 0x04 0 3

/-- A write of PWR_AVS_CFG that R42 accepts: TARGET, VMIN, VMAX, STEP and PERIOD are in range; VCORE's range is
650-950 mV (R423). -/
def avsCfgOk (v : Word) : Bool :=
  let t := PWR_AVS_CFG_TARGET.of v
  let lo := PWR_AVS_CFG_VMIN.of v
  let hi := PWR_AVS_CFG_VMAX.of v
  decide (0x400 ≤ t ∧ t ≤ 0x733 ∧ 650 ≤ lo ∧ lo ≤ hi ∧ hi ≤ 950) &&
    PWR_AVS_CFG_STEP.of v != 0 && PWR_AVS_CFG_PERIOD.of v != 0

/-- ENABLE := 0 stops the loop; VCORE stays at its last value. It stops at once, where R42 lets an accepted write act from the
next period on, and AT_VMAX reads 0 with the loop stopped (DESIGN CHOICE, assumption 146). -/
def State.avsStop (s : State) : State :=
  let s1 := (s.fs PWR_PACE_STATUS PWR_PACE_STATUS_STATE 0).fs PWR_PACE_STATUS PWR_PACE_STATUS_AT_VMAX 0
  { s1 with pace := { s1.pace with enabling := false, iterNow := false } }

/-- A write of PWR_AVS_CFG: discarded whole when out of range, else stored; ENABLE rising waits for the enable steps,
ENABLE falling stops the loop (R42, R43). -/
def State.avsCfgWrite (s : State) (v : Word) : State :=
  let w := rwMerge PWR_AVS_CFG (s.rg PWR_AVS_CFG) v
  if !avsCfgOk w then s.fs PWR_PACE_STATUS PWR_PACE_STATUS_CFG_REJ 1
  else
    let was := s.flag PWR_AVS_CFG PWR_AVS_CFG_ENABLE
    let on := PWR_AVS_CFG_ENABLE.of w == 1
    let s1 := s.wg PWR_AVS_CFG w
    if !was && on then { s1 with pace := { s1.pace with enabling := true } }
    else if was && !on then s1.avsStop
    else s1

/-- One iteration of the loop, at its start (R43). -/
def State.avsIterate (s : State) : State :=
  let st := s.fg PWR_PACE_STATUS PWR_PACE_STATUS_STATE
  let s0 := if st = 2 then s
    else { s with pace := { s.pace with target := s.fg PWR_AVS_CFG PWR_AVS_CFG_TARGET } }
  let f := s0.fg PWR_PACE_STATUS PWR_PACE_STATUS_FLOOR
  let t := s0.pace.target
  let step := s0.fg PWR_AVS_CFG PWR_AVS_CFG_STEP
  let v := s0.pace.v
  let (st', v') :=
    if f < 0x400 then (2, v + 4 * step)
    else if st = 2 then
      (if s0.pace.floors.length = 10 ∧ s0.pace.floors.all (fun x => decide (0x414 ≤ x)) then (1, v) else (2, v))
    else if f + 16 < t then (1, v + step)
    else if t + 16 < f then (1, v - step)
    else (1, v)
  let vc := min (max v' (s0.fg PWR_AVS_CFG PWR_AVS_CFG_VMIN)) (s0.fg PWR_AVS_CFG PWR_AVS_CFG_VMAX)
  let s1 := s0.fs PWR_PACE_STATUS PWR_PACE_STATUS_STATE st'
  let s2 := if f < 0x400 then s1.fs PWR_PACE_STATUS PWR_PACE_STATUS_SAG_SEEN 1 else s1
  let s3 := if st ≠ 2 ∧ st' = 2 then s2.paceOutcome 0 6 else if st = 2 ∧ st' = 1 then s2.paceOutcome 0 7 else s2
  let s4 := s3.fs PWR_PACE_STATUS PWR_PACE_STATUS_AT_VMAX
    (b2n (decide (vc = s3.fg PWR_AVS_CFG PWR_AVS_CFG_VMAX) && decide (f < t)))
  let write := decide (vc ≠ s4.fg PWR_PACE_STATUS PWR_PACE_STATUS_VCORE_MV)
  let s5 := { s4 with pace := { s4.pace with
      v := vc, iterNow := false, iterAt := s4.now + s4.fg PWR_AVS_CFG PWR_AVS_CFG_PERIOD * 10000,
      busy := if write then some ⟨vc, 0⟩ else none } }
  if write then s5.attempt (.writeVout (mvToVout s5.pace.voutN vc % 65536)) else s5

/-- The steps at ENABLE 0 to 1 (R43): VOUT_MODE is read and must be linear, VOUT_COMMAND is read, and the loop tracks from
the present output; its first iteration starts as soon as this is done. -/
def State.avsStart (s : State) (mode cmd : List (Option Nat)) : State :=
  match s.pmbusRead .readMode 3 mode with
  | (s1, none) => s1.avsFault
  | (s1, some m) =>
    if bits m 7 5 ≠ 0 then s1.avsFault
    else
      match s1.pmbusRead .readVout 3 cmd with
      | (s2, none) => s2.avsFault
      | (s2, some c) =>
        let n := sgn 5 (bits m 4 0)
        let v := voutToMv n (c % 65536)
        let s3 := (s2.fs PWR_PACE_STATUS PWR_PACE_STATUS_VCORE_MV v).fs PWR_PACE_STATUS PWR_PACE_STATUS_STATE 1
        { s3 with pace := { s3.pace with voutN := n, v := v, vout := some (c % 65536) } }.avsIterate

/-- AVS_ENABLE (R43, R44): the register write unless ENABLE has already risen, then the enable steps, once no write of the
loop is in progress: `mode` and `cmd` are what the attempts to read VOUT_MODE and VOUT_COMMAND were answered, none for one that
failed. -/
def execAvsEnable (who : Init) (cfg : Word) (mode cmd : List (Option Nat)) (s : State) : Host.Outcome State Fault Refusal :=
  let s1 := if s.pace.enabling then s else s.csrWrite PWR_AVS_CFG [] who cfg fun t => t.avsCfgWrite cfg
  .next (if s1.pace.enabling && s1.pace.busy.isNone && !s1.deaf then
    { s1 with pace := { s1.pace with enabling := false } }.avsStart mode cmd else s1)

/-- AVS_DISABLE (R41): ENABLE := 0 stops the loop. -/
def execAvsDisable (who : Init) (cfg : Word) (s : State) : Host.Outcome State Fault Refusal :=
  .next (s.csrWrite PWR_AVS_CFG [] who cfg fun t => t.avsCfgWrite (setFld cfg 15 15 0))

/-- An iteration may start now (R43); a replay takes sag from its stream (R416). -/
def State.avsDue (s : State) : Bool :=
  let st := s.fg PWR_PACE_STATUS PWR_PACE_STATUS_STATE
  s.flag PWR_AVS_CFG PWR_AVS_CFG_ENABLE && s.pace.busy.isNone && !s.deaf && (st == 1 || st == 2) &&
    (s.pace.iterNow || (st == 1 && decide (s.pace.iterAt ≤ s.now)))

/-- AVS_ITERATION (R43): an iteration that is due starts. -/
def execAvsIteration (s : State) : Host.Outcome State Fault Refusal :=
  .next (if s.avsDue then (s.cross 38 3).avsIterate else s)

/-- PMBUS_ATTEMPT_END (R44): an accepted write makes VCORE_MV its voltage; a failed attempt is repeated whole, and the third is a
fault. With ENABLE 0 the loop has stopped: the attempt in progress ends as it ends and is not repeated (DESIGN CHOICE,
assumption 146). -/
def execPmbusAttemptEnd (ok : Bool) (s : State) : Host.Outcome State Fault Refusal :=
  match (if s.deaf then none else s.pace.busy) with
  | none => .next s
  | some b =>
    if ok then
      let s1 := s.fs PWR_PACE_STATUS PWR_PACE_STATUS_VCORE_MV b.mv
      .next { s1 with pace := { s1.pace with
        busy := none, vout := some (mvToVout s1.pace.voutN b.mv % 65536),
        iterNow := s1.pace.iterNow || s1.fg PWR_PACE_STATUS PWR_PACE_STATUS_STATE == 2 } }
    else if !s.flag PWR_AVS_CFG PWR_AVS_CFG_ENABLE then .next { s with pace := { s.pace with busy := none } }
    else if b.failed < 2 then
      .next ({ s with pace := { s.pace with busy := some ⟨b.mv, b.failed + 1⟩ } }.attempt
        (.writeVout (mvToVout s.pace.voutN b.mv % 65536)))
    else .next s.avsFault

/-! ## The timebase (R51-R56) -/

/-- Fractions of 2^-32 ns in one nanosecond. -/
def fracOne : Nat := 2 ^ 32

/-- The counted nanoseconds of a context (Table OBS-1): blocked in an engine operation, blocked on a load, its FIFO full. -/
def State.ctxTicks (s : State) (d : Nat) : List Nat → State
  | [] => s
  | c :: t =>
    let x := s.ctx c
    let s1 := if x.st != .waiting then s
      else match x.blocked with
        | .load .. => s.pmcCore c 0x07 d [0, 1, 2, 3, 4, 5, 6, 7]
        | _ => s.pmcCore c 0x06 d [0, 1, 2, 3, 4, 5, 6, 7]
    State.ctxTicks (if 8 ≤ x.fifo.length then s1.pmcCore c 0x12 d [0, 1, 2, 3, 4, 5, 6, 7] else s1) d t

/-- A core's tick counter counts while a context of it runs or waits (R404). -/
def State.coreTicks (s : State) (d : Nat) : List (Nat × Core) → State
  | [] => s
  | (n, _) :: t =>
    let busy := (ctxsOf n).any fun c => (s.ctx c).st == .running || (s.ctx c).st == .waiting
    let s1 := s.ctxTicks d (ctxsOf n)
    State.coreTicks (if busy then s1.wg PMC_CORE_TICK (s1.rg PMC_CORE_TICK [n] + BitVec.ofNat 64 d) [n] else s1) d t

/-- The TSF offsets in force, as they are written (R56). -/
def State.tsfTaken (s : State) : SMap Word := (List.range 3).foldl (fun m x => SMap.set m x (s.rg TMB_TSF_OFF [x]) 0) []

/-- One 500 MHz tick: 2 ns plus 2 × ADJ × 2^−32 ns are added to the counter, and the first step that waits (R53): the instants
that the PPS servo measures from move with it. TSF offsets written before the tick take effect (R56). -/
def State.tick2 (s : State) : State :=
  if s.tmb.running then
    let adj := sgn 32 (s.fg TMB_RATE TMB_RATE_ADJ)
    let d := getAt s.tmb.steps 0 0
    let cur : Int := (s.now * fracOne + s.tmb.frac.toNat : Nat)
    let nxt := cur + 2 * (fracOne : Int) + 2 * adj
    let ns := nxt / (fracOne : Int)
    let s1 := { s with tmb := { s.tmb with
      ns := BitVec.ofInt 64 (ns + d), frac := BitVec.ofInt 32 (nxt % (fracOne : Int)), prev := max s.tmb.prev s.now,
      steps := s.tmb.steps.tail, ppsLast := s.tmb.ppsLast.map fun t => ((t : Int) + d).toNat,
      tsfOff := s.tsfTaken } }
    s1.coreTicks (ns.toNat - s.now) s1.drk.cores
  else s

/-- The present tick reaches an instant: it lies after every tick before and not after now, so a backward step reaches none again (R53, R444). -/
def State.reaches (s : State) (t : Nat) : Bool := decide (s.tmb.prev < t) && decide (t ≤ s.now)

/-- The 802.11 TSF of radio unit x, in µs (R56), from the offset in force. -/
def State.tsf (s : State) (x : Nat) : Nat :=
  (((s.now : Int) + (SMap.get s.tmb.tsfOff x 0).toInt) / 1000 % 2 ^ 64).toNat

/-- A signed number clamped to ±500 ppm. -/
def clampAdj (i : Int) : Int := max (-2147483) (min 2147483 i)

/-- This device leads its huddle; with FABRIC down it is a huddle of one. -/
def State.isLeader (s : State) : Bool :=
  !s.domOn .fabric || s.fg FAB_HUDDLE FAB_HUDDLE_LEADER == s.fg SEC_STRAPS SEC_STRAPS_FABID

/-- FAB_ALIGN = 1 on a device that is not the leader (R53). -/
def State.fabSteers (s : State) : Bool := s.flag TMB_CTRL TMB_CTRL_FAB_ALIGN && !s.isLeader

/-- PPS_MODE = 0b10 acts as mode 0b10 (R54). -/
def State.ppsSteers (s : State) : Bool := s.fg TMB_CTRL TMB_CTRL_PPS_MODE == 2 && !s.fabSteers

/-- Have the timebase step by a signed number of ns: steps are applied in arrival order, each at its own tick (R53). -/
def State.stepTime (s : State) (d : Int) : State := { s with tmb := { s.tmb with steps := s.tmb.steps ++ [d] } }

/-- A step under R53: a negative one without ALLOW_BACK is discarded and logged. -/
def State.stepBy (s : State) (d : Int) (a : Nat) : State :=
  if d = 0 then s
  else if d < 0 ∧ !s.flag TMB_CTRL TMB_CTRL_ALLOW_BACK then s.logDiscard a
  else s.stepTime d

/-- A write of TMB_RATE (R53). -/
def State.rateWrite (s : State) (v : Word) : State :=
  let x := sgn 32 (fld v 31 0)
  if x < -2147483 ∨ 2147483 < x ∨ s.ppsSteers ∨ s.fabSteers then s.logDiscard (TMB_RATE.addr [])
  else s.plain TMB_RATE [] v

/-- TMB_RATE_WRITE (R53). -/
def execTmbRateWrite (who : Init) (v : Word) (s : State) : Host.Outcome State Fault Refusal :=
  .next (s.csrWrite TMB_RATE [] who v fun t => t.rateWrite v)

/-- TIMEBASE_STEP (R53): a write of TMB_STEP. -/
def execTimebaseStep (who : Init) (v : Word) (s : State) : Host.Outcome State Fault Refusal :=
  .next (s.csrWrite TMB_STEP [] who v fun t => t.stepBy (sgn 64 v.toNat) (TMB_STEP.addr []))

/-- A requester's read of TMB_TIME, or of its lower half, latches the fraction for it (R51). -/
def State.latchFrac (s : State) (k : Nat) : State :=
  { s with tmb := { s.tmb with fracLatch := SMap.set s.tmb.fracLatch k s.nowFrac 0 } }

/-- TMB_TIME_READ (R51, R13): a read of TMB_TIME by a requester; `half` says that only the lower half is read, which
latches the upper half too. -/
def execTmbTimeRead (who : Init) (half : Bool) (s : State) : Host.Outcome State Fault Refusal :=
  let u : Word := if half then BitVec.ofNat 64 (s.now % 2 ^ 32) else s.tmb.ns
  let (s1, v) := ((s.cross 38 0).latchFrac who.key).readBy who 0x300000 u
  let s2 := { s1 with rdata := SMap.ins s1.rdata who.key v }
  .next (if half then
    { s2 with latch := SMap.ins s2.latch (0x300000 * 2048 + who.key) (BitVec.ofNat 64 (s.now / 2 ^ 32)) } else s2)

/-- The signed distance of an instant from the nearest whole second, in ns. -/
def phaseErr (t : Nat) : Int :=
  let r := t % 1000000000
  if r < 500000000 then (r : Int) else (r : Int) - 1000000000

/-- The correction of the servo at an accepted edge (R54). With a step the rate goes back to nominal: the rule gives I and does
not say what ADJ holds (DESIGN CHOICE, assumption 146). -/
def State.ppsServo (s : State) (e : Int) : State :=
  if 100000 < e ∨ e < -100000 then
    if 0 < e ∧ !s.flag TMB_CTRL TMB_CTRL_ALLOW_BACK then
      let i := clampAdj (s.tmb.integ - e * 2 ^ 32 / 16000000000)
      { s.fs TMB_RATE TMB_RATE_ADJ (unsgn 32 (clampAdj (i - e * 2 ^ 32 / 2000000000))) with
        tmb := { s.tmb with integ := i, ppsRun := 0 } }
    else
      let s1 := s.stepTime (-e)
      { s1.fs TMB_RATE TMB_RATE_ADJ 0 with tmb := { s1.tmb with integ := 0, ppsRun := 0 } }
  else
    let i := clampAdj (s.tmb.integ - e * 2 ^ 32 / 16000000000)
    let run := if -20 ≤ e ∧ e ≤ 20 then s.tmb.ppsRun + 1 else 0
    { s.fs TMB_RATE TMB_RATE_ADJ (unsgn 32 (clampAdj (i - e * 2 ^ 32 / 2000000000))) with
      tmb := { s.tmb with integ := i, ppsRun := run } }

/-- PPS_LOCK follows the run of close edges (R54). -/
def State.ppsLockView (s : State) : State :=
  if s.tmb.ppsRun = 0 then s.fs TMB_STATUS TMB_STATUS_PPS_LOCK 0
  else if 8 ≤ s.tmb.ppsRun then s.fs TMB_STATUS TMB_STATUS_PPS_LOCK 1
  else s

/-- An edge is accepted: the first one, or one within 1 s ± 1 ms of the last accepted edge (R54). The window holds in the
modes that only capture too, where no holdover frees it (DESIGN CHOICE, assumption 146). -/
def State.ppsAccepts (s : State) : Bool :=
  match s.tmb.ppsLast with
  | none => true
  | some t => decide (t + 999000000 ≤ s.now ∧ s.now ≤ t + 1001000000)

/-- PPS_EDGE (R54): a rising or falling edge arrives on the PPS ball; one that PPS_EDGE does not select does nothing (R51). -/
def execPpsEdge (falling : Bool) (s : State) : Host.Outcome State Fault Refusal :=
  if s.fg TMB_CTRL TMB_CTRL_PPS_MODE = 0 ∨ s.flag TMB_CTRL TMB_CTRL_PPS_EDGE ≠ falling ∨ s.deaf then .next s
  else if !s.ppsAccepts then .next { s with tmb := { s.tmb with ppsIgnored := s.tmb.ppsIgnored + 1 } }
  else
    let s1 := s.wg TMB_PPS_STAMP s.tmb.ns
    let s2 := { s1 with tmb := { s1.tmb with ppsLast := some s.now, ppsHold := false } }
    .next (if s2.ppsSteers then (s2.ppsServo (phaseErr s.now)).ppsLockView else s2)

/-- PPS_HOLDOVER (R54): no edge accepted for 1.001 s since the last accepted one; before a first edge there is nothing to hold
over (DESIGN CHOICE, assumption 146). -/
def execPpsHoldover (s : State) : Host.Outcome State Fault Refusal :=
  match s.tmb.ppsLast with
  | none => .next s
  | some t =>
    if s.ppsSteers && decide (t + 1001000000 ≤ s.now) && !s.tmb.ppsHold then
      let s1 := (s.fs TMB_RATE TMB_RATE_ADJ (unsgn 32 s.tmb.integ)).fs TMB_STATUS TMB_STATUS_PPS_LOCK 0
      .next ({ s1 with tmb := { s1.tmb with ppsLast := none, ppsHold := true, ppsRun := 0 } }.logEv 3 0x04 0 2)
    else .next s

/-- REF_LOST (R52): the reference is lost; the counter runs on. -/
def execRefLost (s : State) : Host.Outcome State Fault Refusal :=
  .next (if s.flag TMB_STATUS TMB_STATUS_REF_LOST then s
    else (s.fs TMB_STATUS TMB_STATUS_REF_LOST 1).logEv 3 0x04 0 1)

/-- REF_RETURN (R52): the reference returns, with no step. -/
def execRefReturn (s : State) : Host.Outcome State Fault Refusal := .next (s.fs TMB_STATUS TMB_STATUS_REF_LOST 0)

end Sys2Proof.Machine
end

