-- ==== Sys2Proof/Machine/BondOps.lean ====
section
/-! DEFINITION. What other blocks use of the bond: its state, the twin, the sending of mirrored changes (R374) and the halves
of the key table (R375). -/

namespace Sys2Proof.Machine

/-- This device's FABID. -/
def State.self (s : State) : Nat := s.fg SEC_STRAPS SEC_STRAPS_FABID

/-- BND_STATUS.STATE. -/
def State.bndState (s : State) : Nat := s.fg BND_STATUS BND_STATUS_STATE

/-- STATE values (Table BND-1). -/
def bndDetached : Nat := 0
def bndCatchup : Nat := 1
def bndAttached : Nat := 2
def bndSplit : Nat := 3
def bndFenced : Nat := 4
def bndDetaching : Nat := 5

/-- Changes are sent to the twin: while ATTACHED, and in CATCHUP those made since the snapshot began. -/
def State.mirroring (s : State) : Bool := s.domOn .fabric && (s.bndState == bndAttached || s.bndState == bndCatchup)

/-- Send a change. -/
def State.mirror (s : State) (m : Mir) : State :=
  if s.mirroring then { s with bnd := { s.bnd with out := s.bnd.out ++ [(s.bnd.next, m)], next := s.bnd.next + 1 } } else s

/-- The twin's FABID. -/
def State.twin (s : State) : Nat := s.self ^^^ 1

/-- A key index lies in this device's own half of the key table. -/
def State.ownKey (s : State) (k : Nat) : Bool := decide (k < 2048) == (s.self % 2 == 0)

/-- A local write to an entry of the twin's half while STATE is not DETACHED is discarded, counted and logged. -/
def State.keyGuard (s : State) (k : Nat) (f : State → State) : State :=
  if s.domOn .fabric && s.bndState != bndDetached && !s.ownKey k then (s.bump BND_KEY_HALF_REJ).logEv 0x31 0x01 0 k
  else f s

end Sys2Proof.Machine
end

