-- ==== Sys2Proof/Machine/Crypto.lean ====
section
/-! DEFINITION. The algorithms the spec names by standard: SHA-384 (FIPS 180-4), AES (FIPS 197), ECDSA over P-384 with
deterministic nonces (FIPS 186-5), the carry-less product and the Toeplitz hash. -/

namespace Sys2Proof.Machine

/-! ## SHA-384 -/

/-- The largest number below `r` + 2^k whose e-th power is at most `n`, `r` being one such: its bits are found from the highest
down. -/
def rootBits (e n : Nat) : Nat → Nat → Nat
  | 0, r => r
  | k + 1, r => rootBits e n k (if (r + 2 ^ k) ^ e ≤ n then r + 2 ^ k else r)

/-- The first 64 bits of the fractional part of the e-th root of a number below 512. -/
def rootFrac (e p : Nat) : Nat := rootBits e (p * 2 ^ (64 * e)) 69 0 % 2 ^ 64

/-- The primes below 410, of which there are eighty: no smaller prime up to 19 divides them. -/
def primes80 : List Nat :=
  (List.range 410).filter fun n => decide (2 ≤ n) && [2, 3, 5, 7, 11, 13, 17, 19].all fun d => n == d || n % d != 0

/-- The round constants of SHA-512: cube roots of the first eighty primes (FIPS 180-4). -/
def shaK : List Nat := primes80.map (rootFrac 3)

/-- The initial hash value of SHA-384: square roots of the ninth to the sixteenth prime (FIPS 180-4). -/
def shaH0 : List Word := ((primes80.drop 8).take 8).map fun p => BitVec.ofNat 64 (rootFrac 2 p)

/-- The message schedule, kept newest first: sixteen words grow to eighty. -/
def shaSched : Nat → List Word → List Word
  | 0, w => w
  | n + 1, w =>
    let x2 := getAt w 1 0
    let x15 := getAt w 14 0
    let s0 := x15.rotateRight 1 ^^^ x15.rotateRight 8 ^^^ (x15 >>> 7)
    let s1 := x2.rotateRight 19 ^^^ x2.rotateRight 61 ^^^ (x2 >>> 6)
    shaSched n ((getAt w 15 0 + s0 + getAt w 6 0 + s1) :: w)

/-- The eighty rounds over one block. -/
def shaRounds : List Nat → List Word → List Word → List Word
  | k :: ks, w :: ws, [a, b, c, d, e, f, g, h] =>
    let t1 := h + (e.rotateRight 14 ^^^ e.rotateRight 18 ^^^ e.rotateRight 41) + ((e &&& f) ^^^ (~~~e &&& g)) +
      BitVec.ofNat 64 k + w
    let t2 := (a.rotateRight 28 ^^^ a.rotateRight 34 ^^^ a.rotateRight 39) + ((a &&& b) ^^^ (a &&& c) ^^^ (b &&& c))
    shaRounds ks ws [t1 + t2, a, b, c, d + t1, e, f, g]
  | _, _, v => v

/-- The sixteen words of a block. -/
def shaWords : Nat → Bytes → List Word
  | 0, _ => []
  | n + 1, b => BitVec.ofNat 64 (beNat (b.take 8)) :: shaWords n (b.drop 8)

/-- Hash `n` blocks. -/
def shaBlocks : Nat → Bytes → List Word → List Word
  | 0, _, h => h
  | n + 1, b, h =>
    let w := (shaSched 64 (shaWords 16 (b.take 128)).reverse).reverse
    shaBlocks n (b.drop 128) (List.zipWith (· + ·) h (shaRounds shaK w h))

/-- The padding of a message of `n` bytes. -/
def shaPad (n : Nat) : Bytes :=
  0x80 :: (List.replicate ((239 - n % 128) % 128) 0 ++ beBytes 16 (8 * n))

/-- SHA-384. -/
def sha384 (b : Bytes) : Bytes :=
  let m := b ++ shaPad b.length
  let h := shaBlocks (m.length / 128) m shaH0
  ((h.take 6).map fun w => beBytes 8 w.toNat).flatten

/-- HMAC with SHA-384. -/
def hmac384 (key msg : Bytes) : Bytes :=
  let k := slice (if key.length > 128 then sha384 key else key) 0 128
  sha384 (k.map (· ^^^ 0x5C) ++ sha384 (k.map (· ^^^ 0x36) ++ msg))

/-! ## P-384 -/

/-- The field prime of P-384. -/
def ecP : Nat := 2 ^ 384 - 2 ^ 128 - 2 ^ 96 + 2 ^ 32 - 1
/-- The order of its base point. -/
def ecN : Nat := 0xffffffffffffffffffffffffffffffffffffffffffffffffc7634d81f4372ddf581a0db248b0a77aecec196accc52973
/-- The base point. -/
def ecG : Nat × Nat :=
  (0xaa87ca22be8b05378eb1c71ef320ad746e1d3b628ba79b9859f741e082542a385502f25dbf55296c3a545e3872760ab7,
   0x3617de4a96262c6f5d9e98bf9292dc29f8f41dbd289a147ce9da3113b5f0b8c00a60b1ce1d7e819d7a431d7c90ea0e5f)
/-- The coefficient b of the curve. -/
def ecB : Nat := 0xb3312fa7e23ee7e4988e056be3f82d19181d9c6efe8141120314088f5013875ac656398d8a2ed19d2a85c8edd3ec2aef

/-- b^e mod m, by the low `n` bits of e. -/
def powMod (m : Nat) : Nat → Nat → Nat → Nat
  | 0, _, _ => 1
  | n + 1, b, e => if e % 2 = 1 then b * powMod m n (b * b % m) (e / 2) % m else powMod m n (b * b % m) (e / 2)

/-- The inverse modulo a prime. -/
def invMod (m a : Nat) : Nat := powMod m 384 (a % m) (m - 2)

/-- The sum of two points; none is the point at infinity. -/
def ecAdd : Option (Nat × Nat) → Option (Nat × Nat) → Option (Nat × Nat)
  | none, q => q
  | p, none => p
  | some (x1, y1), some (x2, y2) =>
    if x1 = x2 ∧ (y1 + y2) % ecP = 0 then none
    else
      let l :=
        if x1 = x2 then (3 * x1 * x1 + ecP - 3) % ecP * invMod ecP (2 * y1) % ecP
        else (y2 + ecP - y1) % ecP * invMod ecP (x2 + ecP - x1) % ecP
      let x3 := (l * l + 2 * ecP - x1 - x2) % ecP
      some (x3, (l * (x1 + ecP - x3) + ecP - y1) % ecP)

/-- The multiple of a point, by the low `n` bits of k. -/
def ecMulN : Nat → Nat → Option (Nat × Nat) → Option (Nat × Nat)
  | 0, _, _ => none
  | n + 1, k, p =>
    let r := ecMulN n (k / 2) (ecAdd p p)
    if k % 2 = 1 then ecAdd p r else r

/-- The multiple of a point. -/
def ecMul (k : Nat) (p : Option (Nat × Nat)) : Option (Nat × Nat) := ecMulN 384 k p

/-- A public key, x ‖ y. -/
def ecPub (d : Nat) : Bytes :=
  match ecMul d (some ecG) with
  | some (x, y) => beBytes 48 x ++ beBytes 48 y
  | none => List.replicate 96 0

/-- The deterministic nonce of FIPS 186-5 for a key and a digest: the first candidate in range. -/
def ecNonce : Nat → Bytes → Bytes → Nat
  | 0, _, _ => 1
  | n + 1, k, v =>
    let v1 := hmac384 k v
    let c := beNat v1
    if 0 < c ∧ c < ecN then c
    else
      let k1 := hmac384 k (v1 ++ [0])
      ecNonce n k1 (hmac384 k1 v1)

/-- Sign a 48-byte digest: r ‖ s. -/
def ecSign (d : Nat) (h : Bytes) : Bytes :=
  let x := beBytes 48 d
  let z := beBytes 48 (beNat h % ecN)
  let v0 : Bytes := List.replicate 48 1
  let k0 : Bytes := List.replicate 48 0
  let k1 := hmac384 k0 (v0 ++ [0] ++ x ++ z)
  let v1 := hmac384 k1 v0
  let k2 := hmac384 k1 (v1 ++ [1] ++ x ++ z)
  let k := ecNonce 16 k2 (hmac384 k2 v1)
  match ecMul k (some ecG) with
  | some (px, _) =>
    let r := px % ecN
    beBytes 48 r ++ beBytes 48 (invMod ecN k * (beNat h + r * d) % ecN)
  | none => List.replicate 96 0

/-- A point of the curve. -/
def ecOnCurve (x y : Nat) : Bool :=
  decide (x < ecP) && decide (y < ecP) && decide (y * y % ecP = (x * x * x + (ecP - 3) * x + ecB) % ecP)

/-- Verify a signature r ‖ s by a public key x ‖ y over a 48-byte digest. -/
def ecVerify (pub h sig : Bytes) : Bool :=
  let x := beNat (slice pub 0 48)
  let y := beNat (slice pub 48 48)
  let r := beNat (slice sig 0 48)
  let t := beNat (slice sig 48 48)
  if !ecOnCurve x y || r == 0 || t == 0 || decide (ecN ≤ r) || decide (ecN ≤ t) then false
  else
    let w := invMod ecN t
    match ecAdd (ecMul (beNat h * w % ecN) (some ecG)) (ecMul (r * w % ecN) (some (x, y))) with
    | some (px, _) => px % ecN == r
    | none => false

/-! ## AES -/

/-- Multiply by x modulo x^8 + x^4 + x^3 + x + 1. -/
def aesX (a : Byte) : Byte := if a.getLsbD 7 then (a <<< 1) ^^^ 0x1B else a <<< 1

/-- The product in the field of AES, by the low `n` bits of `b`. -/
def aesMulN : Nat → Byte → Byte → Byte
  | 0, _, _ => 0
  | n + 1, a, b => (if b.getLsbD 0 then a else 0) ^^^ aesMulN n (aesX a) (b >>> 1)

def aesMul (a b : Byte) : Byte := aesMulN 8 a b

/-- a^(2^n - 2 ...): the inverse is a^254, by repeated square and multiply. -/
def aesInv (a : Byte) : Byte :=
  let a2 := aesMul a a
  let a4 := aesMul a2 a2
  let a8 := aesMul a4 a4
  let a16 := aesMul a8 a8
  let a32 := aesMul a16 a16
  let a64 := aesMul a32 a32
  let a128 := aesMul a64 a64
  aesMul a2 (aesMul a4 (aesMul a8 (aesMul a16 (aesMul a32 (aesMul a64 a128)))))

/-- SubBytes of one byte. -/
def aesSbox (a : Byte) : Byte :=
  let i := aesInv a
  i ^^^ i.rotateLeft 1 ^^^ i.rotateLeft 2 ^^^ i.rotateLeft 3 ^^^ i.rotateLeft 4 ^^^ 0x63

/-- InvSubBytes of one byte. -/
def aesInvSbox (a : Byte) : Byte := aesInv (a.rotateLeft 1 ^^^ a.rotateLeft 3 ^^^ a.rotateLeft 6 ^^^ 0x05)

/-- Byte-wise exclusive or. -/
def xorBytes (a b : Bytes) : Bytes := List.zipWith (· ^^^ ·) a b

/-- The key schedule's words, oldest first, grown to `n` further words. -/
def aesExpand (nk : Nat) : Nat → Nat → Byte → List Bytes → List Bytes
  | 0, _, _, w => w
  | n + 1, i, rc, w =>
    let t := getAt w (i - 1) []
    let rot := (t.drop 1 ++ t.take 1).map aesSbox
    let u :=
      if i % nk = 0 then xorBytes rot [rc, 0, 0, 0]
      else if nk = 8 ∧ i % 8 = 4 then t.map aesSbox else t
    aesExpand nk n (i + 1) (if i % nk = 0 then aesX rc else rc) (w ++ [xorBytes (getAt w (i - nk) []) u])

/-- The four-byte words of a key. -/
def aesKeyWords : Nat → Bytes → List Bytes
  | 0, _ => []
  | n + 1, k => k.take 4 :: aesKeyWords n (k.drop 4)

/-- The round keys, 16 bytes each. -/
def aesRoundKeys : Nat → List Bytes → List Bytes
  | 0, _ => []
  | n + 1, w => (w.take 4).flatten :: aesRoundKeys n (w.drop 4)

/-- The round keys of AES-128 (16-byte key) or AES-256 (32-byte key). -/
def aesKeys (key : Bytes) : List Bytes :=
  let nk := key.length / 4
  let nr := nk + 6
  aesRoundKeys (nr + 1) (aesExpand nk (4 * (nr + 1) - nk) nk 1 (aesKeyWords nk key))

/-- ShiftRows and its inverse, by the source index of each byte. -/
def aesShift (b : Bytes) : Bytes := [0, 5, 10, 15, 4, 9, 14, 3, 8, 13, 2, 7, 12, 1, 6, 11].map fun i => getAt b i 0
def aesInvShift (b : Bytes) : Bytes := [0, 13, 10, 7, 4, 1, 14, 11, 8, 5, 2, 15, 12, 9, 6, 3].map fun i => getAt b i 0

/-- MixColumns of one column with the given coefficients. -/
def aesMixCol (c0 c1 c2 c3 : Byte) (b : Bytes) : Bytes :=
  let m (x y z w : Byte) : Byte :=
    aesMul x (getAt b 0 0) ^^^ aesMul y (getAt b 1 0) ^^^ aesMul z (getAt b 2 0) ^^^ aesMul w (getAt b 3 0)
  [m c0 c1 c2 c3, m c3 c0 c1 c2, m c2 c3 c0 c1, m c1 c2 c3 c0]

/-- MixColumns of the block. -/
def aesMix (c0 c1 c2 c3 : Byte) (b : Bytes) : Bytes :=
  aesMixCol c0 c1 c2 c3 (slice b 0 4) ++ aesMixCol c0 c1 c2 c3 (slice b 4 4) ++ aesMixCol c0 c1 c2 c3 (slice b 8 4) ++
    aesMixCol c0 c1 c2 c3 (slice b 12 4)

/-- The rounds of encryption. -/
def aesEncRounds : List Bytes → Bytes → Bytes
  | [], b => b
  | [k], b => xorBytes (aesShift (b.map aesSbox)) k
  | k :: ks, b => aesEncRounds ks (xorBytes (aesMix 2 3 1 1 (aesShift (b.map aesSbox))) k)

/-- The rounds of decryption, round keys last first. -/
def aesDecRounds : List Bytes → Bytes → Bytes
  | [], b => b
  | [k], b => xorBytes ((aesInvShift b).map aesInvSbox) k
  | k :: ks, b => aesDecRounds ks (aesMix 14 11 13 9 (xorBytes ((aesInvShift b).map aesInvSbox) k))

/-- One block through AES. -/
def aesBlock (enc : Bool) (key block : Bytes) : Bytes :=
  if enc then
    match aesKeys key with
    | [] => block
    | k :: ks => aesEncRounds ks (xorBytes block k)
  else
    match (aesKeys key).reverse with
    | [] => block
    | k :: ks => aesDecRounds ks (xorBytes block k)

/-! ## Carry-less product and Toeplitz hash -/

/-- The carry-less product, by the low `n` bits of b. -/
def clmulN : Nat → Nat → Nat → Nat
  | 0, _, _ => 0
  | n + 1, a, b => (if b % 2 = 1 then a else 0) ^^^ clmulN n (2 * a) (b / 2)

/-- The 127-bit carry-less product of two 64-bit values (R152). -/
def clmul (a b : Word) : Nat := clmulN 64 a.toNat b.toNat

end Sys2Proof.Machine
end

