-- ==== Sys2Proof/Machine/Cph.lean ====
section
/-! DEFINITION. The link cipher (chapter 14): the key table, the admission of blocks and their service, burst leave, and the
slots of protection jobs. -/

namespace Sys2Proof.Machine

/-- Set the cipher's own state. -/
def State.setCph (s : State) (x : Cph) : State := { s with cph := x }

/-! ## Service of blocks (R314, R315) -/

/-- The AES core that takes the next block: the idle one with the highest monitor value, the lower index at equal
values. -/
def State.bestAes (s : State) : Nat → Option Nat → Option Nat
  | 0, best => best
  | n + 1, best =>
    if (SMap.find s.cph.aes n).isSome then State.bestAes s n best
    else
      match best with
      | some b => State.bestAes s n (if s.mon (96 + b) ≤ s.mon (96 + n) then some n else some b)
      | none => State.bestAes s n (some n)

/-- QUEUED and DEFERRING show the issue queue and the held blocks. -/
def State.cphView (s : State) : State :=
  (s.fs CPH_STATUS CPH_STATUS_QUEUED s.cph.issue.length).fs CPH_STATUS CPH_STATUS_DEFERRING (b2n !s.cph.wait.isEmpty)

/-- Blocks leave the issue queue in admission order for idle cores; one whose key is being expanded waits. -/
def State.issueBlocks (s : State) : Nat → State
  | 0 => s.cphView
  | n + 1 =>
    match s.cph.issue, s.bestAes 16 none with
    | b :: t, some c =>
      if s.cph.expanding.contains b.key then s.cphView
      else
        let b1 := { b with slow := decide (s.mon (96 + c) < 0x200) }
        State.issueBlocks (s.setCph { s.cph with issue := t, aes := SMap.ins s.cph.aes c b1 }) n
    | _, _ => s.cphView

/-! ## Admission (R315, R316, R319, R320) -/

/-- The bytes of a key as its LEN says. -/
def State.keyBytes (s : State) (k : Nat) : Bytes :=
  let ws := if s.flag CPH_KEY_CTL CPH_KEY_CTL_LEN [k] then [0, 1, 2, 3] else [0, 1]
  ws.flatMap fun w => leBytes 8 (s.rg CPH_KEY_MAT [k, w]).toNat

/-- A key may be used: valid and not spent. -/
def State.keyUsable (s : State) (k : Nat) : Bool :=
  s.flag CPH_KEY_CTL CPH_KEY_CTL_VALID [k] && !s.flag CPH_KEY_CTL CPH_KEY_CTL_SPENT [k]

/-- USED rises by one; at WARN the rekey event is raised once, and at LIMIT the key is spent. -/
def State.useKey (s : State) (k : Nat) : State :=
  let u := s.fg CPH_KEY_USED CPH_KEY_USED_USED [k] + 1
  let s1 := s.fs CPH_KEY_USED CPH_KEY_USED_USED u [k]
  let s2 := if s1.fg CPH_KEY_LIMIT CPH_KEY_LIMIT_LIMIT [k] ≤ u then s1.fs CPH_KEY_CTL CPH_KEY_CTL_SPENT 1 [k] else s1
  if s2.fg CPH_KEY_WARN CPH_KEY_WARN_WARN [k] ≤ u ∧ !s2.flag CPH_KEY_CTL CPH_KEY_CTL_REKEY_SEEN [k] then
    ((s2.fs CPH_KEY_CTL CPH_KEY_CTL_REKEY_SEEN 1 [k]).logEv 0x24 0x0C 0 (k + u * 65536)).bump CPH_REKEY
  else s2

/-- Admit an operation: refused KEY, or counted and put into the issue queue. -/
def State.admitBlock (s : State) (op : Nat) : State :=
  match s.openOp op with
  | some o =>
    match o.kind with
    | .cblk enc key _ block =>
      if !s.keyUsable key then (s.answerOp op o esKey 0 true).bump CPH_KEY_REFUSED
      else
        let b : CBlk := { op, enc, key, kb := s.keyBytes key, block }
        let s1 := s.useKey key
        s1.setCph { s1.cph with issue := s1.cph.issue ++ [b], count := s1.cph.count + 1 }
    | _ => s
  | none => s

/-- CPH holds burst leave. -/
def State.burstHeld (s : State) : Bool := s.flag CPH_STATUS CPH_STATUS_BURST_HELD

/-- A new µs of the timebase begins: the count restarts, an accepted THRESH applies, and a run of µs at or below THRESH
goes on or ends. -/
def State.cphRoll (s : State) : State :=
  let now_ := s.now / 1000
  let c := s.cph
  if now_ = c.us then s
  else
    let gap := now_ - c.us
    let quiet := if c.count ≤ c.thresh then c.quiet + gap else gap - 1
    s.setCph { c with us := now_, count := 0, quiet, thresh := s.fg CPH_BURST CPH_BURST_THRESH }

/-- Admit held operations in arrival order while the limit allows. -/
def State.admitHeld (s : State) : Nat → State
  | 0 => s
  | n + 1 =>
    if s.burstHeld || decide (s.cph.count < s.cph.thresh) then
      match s.cph.wait with
      | o :: t => State.admitHeld ((s.setCph { s.cph with wait := t }).admitBlock o) n
      | [] => s
    else s

/-- Hold an operation. -/
def State.holdBlock (s : State) (op : Nat) : State :=
  (s.setCph { s.cph with wait := s.cph.wait ++ [op] }).bump CPH_DEFERRED

/-- Ask for burst leave; a refused ask is repeated after 100 µs. -/
def State.askBurst (s : State) : State :=
  if s.asksLeave clsBurst 5 0 then s
  else
    let (s1, ok) := s.askLeave clsBurst (s.fg CPH_BURST CPH_BURST_AMOUNT) 5 0
    s1.setCph { s1.cph with retryAt := if ok then none else some (s1.now + 100000) }

/-- CPH_ADMIT (R315, R316): a posted cblk reaches the admission arbiter. -/
def execCphAdmit (op : Nat) (s : State) : Host.Outcome State Fault Refusal :=
  match s.readyOp op with
  | some o =>
    match o.kind with
    | .cblk _ key _ _ =>
      if !s.domOn .cipher then .next (s.answerOp op o esDomainDown 0 true)
      else if s.cph.wait.contains op || s.cph.issue.any (fun b => b.op == op) || s.cph.aes.any (fun b => b.2.op == op) then
        .next s
      else
        let s1 := (s.contest 8 0 (o.ctx % 512)).cphRoll
        if !s1.cph.wait.isEmpty then .next (s1.holdBlock op).cphView
        else if s1.burstHeld || !s1.keyUsable key || decide (s1.cph.count < s1.cph.thresh) then
          .next ((s1.admitBlock op).issueBlocks 17)
        else
          let s2 := if s1.cph.retryAt.isNone then s1.askBurst else s1
          .next (s2.holdBlock op).cphView
    | _ => .next s
  | none => .next s

/-- CPH_MICROSECOND (R316): a new µs begins, and held blocks are admitted up to THRESH. -/
def execCphMicrosecond (s : State) : Host.Outcome State Fault Refusal :=
  if s.domOn .cipher then
    let s1 := s.cphRoll
    .next ((s1.admitHeld s1.cph.wait.length).issueBlocks 17)
  else .next s

/-- Burst leave has been granted: the limit is lifted and every held block is admitted. -/
def State.burstGranted (s : State) : State :=
  let s1 := s.fs CPH_STATUS CPH_STATUS_BURST_HELD 1
  ((s1.setCph { s1.cph with quiet := 0, retryAt := none }).admitHeld s1.cph.wait.length).issueBlocks 17

/-- A waiting ask has been refused. -/
def State.burstRefused (s : State) : State := s.setCph { s.cph with retryAt := some (s.now + 100000) }

/-- BURST_RETURN (R316): after 100 consecutive µs at or below THRESH the grant is returned. -/
def execBurstReturn (s : State) : Host.Outcome State Fault Refusal :=
  let s1 := s.cphRoll
  if s1.burstHeld && decide (100 ≤ s1.cph.quiet) then
    .next ((s1.returnReq clsBurst 5 0).fs CPH_STATUS CPH_STATUS_BURST_HELD 0)
  else .next s

/-- BURST_RETRY (R316): 100 µs after a refusal, CPH asks again. -/
def execBurstRetry (s : State) : Host.Outcome State Fault Refusal :=
  match s.cph.retryAt with
  | some t => .next (if t ≤ s.now then (s.setCph { s.cph with retryAt := none }).askBurst else s)
  | none => .next s

/-- Write bytes into a core's local memory. -/
def State.writeLocal (s : State) (n a : Nat) (b : Bytes) : State :=
  s.setCore n { s.core n with locl := setWin (s.core n).locl a b }

/-- AES_BLOCK_DONE (R314): a core ends its block; the output goes to bytes 16-31 of the job record, and the next block
issues. -/
def execAesBlockDone (aes : Nat) (s : State) : Host.Outcome State Fault Refusal :=
  match SMap.find s.cph.aes aes with
  | some b =>
    let s1 := s.setCph { s.cph with aes := SMap.del s.cph.aes aes }
    let s2 := if b.slow then s1.bump CPH_AES_SLOW else s1
    let s3 :=
      match s2.openOp b.op with
      | some o =>
        match o.kind with
        | .cblk _ _ addr _ =>
          (s2.writeLocal (o.ctx / 4) (addr + 16) (aesBlock b.enc b.kb b.block)).answerOp b.op o esOk 0 true
        | _ => s2
      | none => s2
    .next (s3.issueBlocks 17)
  | none => .next s

/-! ## The key table (R317-R320) -/

/-- Zero a key's material. -/
def State.zeroKey (s : State) (k : Nat) : State :=
  (((s.wg CPH_KEY_MAT 0 [k, 0]).wg CPH_KEY_MAT 0 [k, 1]).wg CPH_KEY_MAT 0 [k, 2]).wg CPH_KEY_MAT 0 [k, 3]

/-- An install or a withdrawal in this device's half is mirrored (Table BND-2). -/
def State.mirrorKey (s : State) (k : Nat) : State :=
  if !s.ownKey k then s
  else if s.flag CPH_KEY_CTL CPH_KEY_CTL_VALID [k] then
    s.mirror (.key k (s.rg CPH_KEY_CTL [k]).toNat (s.rg CPH_KEY_LIMIT [k]).toNat (s.rg CPH_KEY_WARN [k]).toNat
      ([0, 1, 2, 3].flatMap fun w => leBytes 8 (s.rg CPH_KEY_MAT [k, w]).toNat))
  else s.mirror (.keyOff k)

/-- A write of CPH_KEYk_CTL (R318). -/
def State.keyCtlWrite (s : State) (k : Nat) (v : Word) : State :=
  s.keyGuard k fun s =>
  let valid := s.flag CPH_KEY_CTL CPH_KEY_CTL_VALID [k]
  let want := CPH_KEY_CTL_VALID.of v == 1
  if valid && want then s.logDiscard (CPH_KEY_CTL.addr [k])
  else if valid && s.kickKey k then s.logDiscard (CPH_KEY_CTL.addr [k])
  else if valid then
    let s1 := (s.zeroKey k).fs CPH_KEY_CTL CPH_KEY_CTL_VALID 0 [k]
    (s1.setCph { s1.cph with expanding := s1.cph.expanding.filter fun j => j ≠ k }).mirrorKey k
  else if want then
    let spent := if s.fg CPH_KEY_LIMIT CPH_KEY_LIMIT_LIMIT [k] = 0 then 4 else 0
    let s1 := (s.wg CPH_KEY_CTL (BitVec.ofNat 64 (1 + 2 * CPH_KEY_CTL_LEN.of v + spent)) [k]).wg CPH_KEY_USED 0 [k]
    (s1.setCph { s1.cph with expanding := s1.cph.expanding ++ [k] }).mirrorKey k
  else s.fs CPH_KEY_CTL CPH_KEY_CTL_LEN (CPH_KEY_CTL_LEN.of v) [k]

/-- A write of a MAT word: discarded and logged while the key is valid. -/
def State.keyMatWrite (s : State) (k w : Nat) (v : Word) : State :=
  s.keyGuard k fun s =>
  if s.flag CPH_KEY_CTL CPH_KEY_CTL_VALID [k] then s.logDiscard (CPH_KEY_MAT.addr [k, w]) else s.wg CPH_KEY_MAT v [k, w]

/-- A write of LIMIT: at or below USED it spends the key at once, above USED it clears SPENT (R319). -/
def State.keyLimitWrite (s : State) (k : Nat) (v : Word) : State :=
  s.keyGuard k fun s =>
  let s1 := s.plain CPH_KEY_LIMIT [k] v
  s1.fs CPH_KEY_CTL CPH_KEY_CTL_SPENT
    (b2n (decide (CPH_KEY_LIMIT_LIMIT.of v ≤ s1.fg CPH_KEY_USED CPH_KEY_USED_USED [k]))) [k]

/-- A write of WARN (R320). -/
def State.keyWarnWrite (s : State) (k : Nat) (v : Word) : State := s.keyGuard k fun s => s.plain CPH_KEY_WARN [k] v

/-- KEY_INSTALL (R318): VALID := 1. -/
def execKeyInstall (k : Nat) (who : Init) (v : Word) (s : State) : Host.Outcome State Fault Refusal :=
  .next (s.csrWrite CPH_KEY_CTL [k] who (setFld v 0 0 1) fun t => t.keyCtlWrite k (setFld v 0 0 1))

/-- KEY_WITHDRAW (R318): VALID := 0. -/
def execKeyWithdraw (k : Nat) (who : Init) (v : Word) (s : State) : Host.Outcome State Fault Refusal :=
  .next (s.csrWrite CPH_KEY_CTL [k] who (setFld v 0 0 0) fun t => t.keyCtlWrite k (setFld v 0 0 0))

/-- KEY_LIMIT_WRITE (R319). -/
def execKeyLimitWrite (k : Nat) (who : Init) (v : Word) (s : State) : Host.Outcome State Fault Refusal :=
  .next (s.csrWrite CPH_KEY_LIMIT [k] who v fun t => t.keyLimitWrite k v)

/-- KEY_EXPANSION_DONE (R318): the key schedule is expanded, and blocks admitted during it proceed. -/
def execKeyExpansionDone (k : Nat) (s : State) : Host.Outcome State Fault Refusal :=
  .next ((s.setCph { s.cph with expanding := s.cph.expanding.filter fun j => j ≠ k }).issueBlocks 17)

/-! ## CPH_BURST and CPH_CFG -/

/-- A write of CPH_BURST: out of range, it is discarded whole. -/
def State.burstWrite (s : State) (v : Word) : State :=
  let th := CPH_BURST_THRESH.of v
  let am := CPH_BURST_AMOUNT.of v
  if th = 0 ∨ 3200 < th ∨ am = 0 ∨ 2000 < am then s.logDiscard (CPH_BURST.addr []) else s.plain CPH_BURST [] v

/-- A slot awaits completion. -/
def State.jobsAwaiting (s : State) : Bool := s.cph.slots.any fun x => x.2.done.isNone

/-- A write of CPH_CFG. -/
def State.cphCfgWrite (s : State) (v : Word) : State :=
  let base := CPH_CFG_DESC_BASE.of v
  let a := base * 2 ^ 21
  if CPH_CFG_RX_TMO.of v = 0 ∨ !inSram a ∨ 0x4003000000 < a + 2 ^ 21 ∨
      (s.jobsAwaiting ∧ base ≠ s.fg CPH_CFG CPH_CFG_DESC_BASE) then s.logDiscard (CPH_CFG.addr [])
  else s.plain CPH_CFG [] v

/-! ## Job slots (R321, R322) -/

/-- The address of a slot's descriptor. -/
def State.descAddr (s : State) (slot : Nat) : Nat := s.fg CPH_CFG CPH_CFG_DESC_BASE * 2 ^ 21 + 512 * slot

/-- The lowest slot that is free. -/
def freeSlot : SMap CJob → Nat → Nat
  | [], n => n
  | (k, _) :: t, n => if k = n then freeSlot t (n + 1) else n

/-- The slot of a JOB. -/
def jobSlot (job : Nat) : Nat := job % 4096

/-- The slot that a JOB names, while it is this JOB's. -/
def State.jobOf (s : State) (job : Nat) : Option CJob :=
  match SMap.find s.cph.slots (jobSlot job) with
  | some x => if x.job = job then some x else none
  | none => none

/-- A raiser writes a descriptor into a free slot and raises its CIPHER event; none when every slot is taken. `d` is the
descriptor's 512 bytes with JOB still 0. -/
def State.raiseJob (s : State) (src : Nat) (tx : Bool) (d : Bytes) : State × Option Nat :=
  let slot := freeSlot s.cph.slots 0
  if 4096 ≤ slot ∨ !s.domOn .cipher then (s, none)
  else
    let job := slot + s.cph.raises % 2 ^ 20 * 4096
    let a := s.descAddr slot
    let d1 := patch (patch d 64 (leBytes 8 (Config.streamAddr slot))) 88 (leBytes 4 job)
    let s1 := (s.write a d1).1
    let s2 := s1.setCph { s1.cph with slots := SMap.ins s1.cph.slots slot { job, src, tx }, raises := s1.cph.raises + 1 }
    (s2.raise { typ := 4, source := src, arg := job, record := leBytes 8 a }, some job)

/-- A slot is freed: its MPDU has closed or been discarded, or its entry has ended. -/
def State.freeJob (s : State) (job : Nat) : State :=
  match s.jobOf job with
  | some _ => s.setCph { s.cph with slots := SMap.del s.cph.slots (jobSlot job) }
  | none => s

/-- The job has ended OK. -/
def State.jobOk (s : State) (job : Nat) : Bool :=
  match s.jobOf job with
  | some x => x.done == some 0
  | none => false

/-- Byte `n` fields of a slot's descriptor as they stand. -/
def State.descField (s : State) (job off n : Nat) : Nat := leNat (s.bytes (s.descAddr (jobSlot job) + off) n)

/-- Read a job's descriptor and `n` bytes of its keystream; false where a word of them is uncorrectable (Table MEM-4). -/
def State.jobRead (s : State) (job n : Nat) : State × Bool :=
  let (s1, _, bad1) := s.read (s.descAddr (jobSlot job)) 512 3
  let (s2, _, bad2) := s1.read (s1.descField job 64 8) n 3
  (s2, bad1.isNone && bad2.isNone)

/-- Record how a job ended. -/
def State.setDone (s : State) (x : CJob) (st : Nat) : State :=
  s.setCph { s.cph with slots := SMap.ins s.cph.slots (jobSlot x.job) { x with done := some st } }

/-- A job of which a word was found uncorrectable ends FAIL (Table MEM-4): one that has ended counts as ended so. -/
def State.spoilJob (s : State) (job : Nat) : State :=
  match s.jobOf job with
  | some x => s.setCph { s.cph with
      slots := SMap.ins s.cph.slots (jobSlot job) { x with spoilt := true, done := x.done.map fun _ => 2 } }
  | none => s

/-- Read what a transmit job has made of `n` payload bytes; true where it ended OK and every word is good. -/
def State.jobTake (s : State) (job n : Nat) : State × Bool :=
  let (s1, good) := s.jobRead job n
  if good then (s1, s1.jobOk job) else (s1.spoilJob job, false)

/-- XOR bytes over memory from an address; false, and nothing written, where a word of it is uncorrectable. -/
def State.xorMem (s : State) (a : Nat) (b : Bytes) : State × Bool :=
  let (s1, old, bad) := s.read a b.length 3
  if bad.isSome then (s1, false) else ((s1.write a (xorBytes old b)).1, true)

/-- XOR keystream over payload segments from payload offset `off` on. -/
def State.xorSegs (s : State) : List (Nat × Nat) → Nat → Bytes → State × Bool
  | [], _, _ => (s, true)
  | (a, len) :: t, off, b =>
    if len ≤ off then State.xorSegs s t (off - len) b
    else
      let (s1, ok1) := s.xorMem (a + off) (b.take (len - off))
      let (s2, ok2) := State.xorSegs s1 t 0 (b.drop (len - off))
      (s2, ok1 && ok2)

/-- The segments of a descriptor. -/
def State.descSegs (s : State) (job : Nat) : List (Nat × Nat) :=
  (List.range (s.descField job 6 1)).map fun i =>
    let v := s.descField job (112 + 8 * i) 8
    (bits v 39 0, bits v 49 40)

/-- An RX job's payload is decrypted in place as far as READY allows, and PROGRESS advances (R322); a word found uncorrectable
spoils the job. -/
def State.rxProgress (s : State) (job : Nat) : State :=
  let (s1, good) := s.jobRead job (min (s.descField job 100 4) (s.descField job 8 4))
  let p := s1.descField job 96 4
  let r := min (s1.descField job 100 4) (s1.descField job 8 4)
  if !good then s1.spoilJob job
  else if r ≤ p then s1
  else
    let ks := s1.bytes (s1.descField job 64 8 + p) (r - p)
    let (s2, ok) := s1.xorSegs (s1.descSegs job) p ks
    let s3 := s2.writeLe (s2.descAddr (jobSlot job) + 96) 4 r
    if ok then s3 else s3.spoilJob job

/-- A store that reaches a descriptor's READY lets the raiser of an awaiting RX job go on. -/
def State.readyStored (s : State) (a n : Nat) : State :=
  if s.cph.slots.isEmpty ∨ a < s.descAddr 0 ∨ s.descAddr 4096 ≤ a then s
  else
    let slot := (a - s.descAddr 0) / 512
    let off := (a - s.descAddr 0) % 512
    match SMap.find s.cph.slots slot with
    | some x => if !x.tx ∧ x.done.isNone ∧ off < 104 ∧ 100 < off + n then s.rxProgress x.job else s
    | none => s

/-- The STATUS a job ends with, as the raiser reads it: other values, and a spoilt job, read as FAIL. -/
def State.descStatus (s : State) (job : Nat) : Nat :=
  let st := s.descField job 92 1
  if st ≤ 2 ∧ (s.jobOf job).all (fun x => !x.spoilt) then st else 2

/-- Keystream XORed into a payload as it is modulated, and the TAG appended (R322, TX). -/
def State.protect (s : State) (job : Nat) (payload : Bytes) : Bytes :=
  xorBytes payload (s.bytes (s.descField job 64 8) payload.length) ++
    s.bytes (s.descAddr (jobSlot job) + 72) (s.descField job 3 1)

end Sys2Proof.Machine
end

