-- ==== Sys2Proof/Machine/MemCtl.lean ====
section
/-! DEFINITION. The memory block's own commands (chapter 15): the pail pool's definition, address orders, retraining, the
scrubber and error injection. -/

namespace Sys2Proof.Machine

/-! ## MEM_PAIL_S and MEM_PAIL_D (R326, R328) -/

/-- A pail is not free. -/
def State.pailsBusy (s : State) : Bool := s.freePailCount != s.pailsS + s.pailsD

/-- The four areas of the pool that have any bytes: the two regions and their link tables. -/
def State.poolAreas (s : State) : List (Nat × Nat) :=
  [(s.fg MEM_PAIL_S0 MEM_PAIL_S0_BASE * 512, 512 * s.pailsS),
   (s.fg MEM_PAIL_S1 MEM_PAIL_S1_LINK * 65536, 8 * s.pailsS),
   (s.fg MEM_PAIL_D0 MEM_PAIL_D0_BASE * 512, 512 * s.pailsD),
   (s.fg MEM_PAIL_D1 MEM_PAIL_D1_LINK * 65536, 8 * s.pailsD)].filter fun x => x.2 ≠ 0

/-- Two ranges of bytes overlap. -/
def overlap (x y : Nat × Nat) : Bool := decide (x.1 < y.1 + y.2) && decide (y.1 < x.1 + x.2)

/-- No two ranges of a list overlap. -/
def disjointAll : List (Nat × Nat) → Bool
  | [] => true
  | x :: t => t.all (fun y => !overlap x y) && disjointAll t

/-- The pool's registers are acceptable (R328). -/
def State.poolOk (s : State) : Bool :=
  decide (s.pailsS ≤ 65536) && decide (s.pailsD ≤ 1048576) && decide (0 < s.pailsS + s.pailsD) &&
    s.poolAreas.all (fun x => rangeInMem x.1 x.2) && disjointAll s.poolAreas

/-- A register of the pool: region S or D, word 0 or 1. -/
def pailReg (d : Bool) (word : Nat) : Reg :=
  if d then (if word = 0 then MEM_PAIL_D0 else MEM_PAIL_D1) else (if word = 0 then MEM_PAIL_S0 else MEM_PAIL_S1)

/-- Every pail of both regions is free. -/
def State.poolFresh (s : State) : State :=
  { s with memst := { s.memst with freshS := 0, freshD := 0, retS := [], retD := [] } }

/-- A write of a word of MEM_PAIL_S or MEM_PAIL_D. -/
def State.pailWrite (s : State) (d : Bool) (word : Nat) (v : Word) : State :=
  let s1 := s.plain (pailReg d word) [] v
  if s.pailsBusy || !s1.poolOk then s.logDiscard ((pailReg d word).addr []) else s1.poolFresh.strictCheck

/-- MEM_PAIL_WRITE (R328). -/
def execMemPailWrite (d : Bool) (word : Nat) (who : Init) (v : Word) (s : State) : Host.Outcome State Fault Refusal :=
  .next (s.csrWrite (pailReg d word) [] who v fun t => t.pailWrite d word v)

/-! ## Address orders (R329, R330) -/

/-- The location of a slot of a region under an order: stack, channel, bank and row packed from bit 0 up. -/
def slotLoc (order g : Nat) : Nat :=
  let at_ (st ch bank row : Nat) : Nat := st + ch * 2 + bank * 8 + row * 128
  if order = 0 then at_ (bits g 0 0) (bits g 2 1) (bits g 6 3) (bits g 18 7)
  else if order = 1 then at_ (bits g 0 0) (bits g 2 1) (bits g 6 3 ^^^ bits g 10 7) (bits g 18 7)
  else if order = 2 then at_ (bits g 18 18) (bits g 17 16) (bits g 3 0) (bits g 15 4)
  else at_ (bits g 0 0) (bits g 2 1) (bits g 18 15) (bits g 14 3)

/-- The slot of a region that an order places at a location. -/
def locSlot (order l : Nat) : Nat :=
  let st := bits l 0 0
  let ch := bits l 2 1
  let bank := bits l 6 3
  let row := bits l 18 7
  if order = 0 then st + ch * 2 + bank * 8 + row * 128
  else if order = 1 then st + ch * 2 + (bank ^^^ row % 16) * 8 + row * 128
  else if order = 2 then bank + row * 16 + ch * 65536 + st * 262144
  else st + ch * 2 + row * 8 + bank * 32768

/-- The bytes of data of one region. -/
def regionBytes : Nat := 0x38000000

/-- The channel, stack × 4 + channel, that a DRAM data address lies in. -/
def State.dramChannel (s : State) (a : Nat) : Nat :=
  let l := slotLoc (s.fg DRC_ORDER DRC_ORDER_ORDER [a / regionBytes]) (a / 1792 % 2 ^ 19)
  bits l 0 0 * 4 + bits l 2 1

/-- An access reaches the arbiter of a checked word: its SRAM bank, or 24 + its DRAM channel (R108, decision point 1). -/
def State.memContest (s : State) (a : Nat) (who : Init) : State :=
  s.contestAt 1 (if inSram a then (a - 0x4000000000) / 0x200000 else 24 + s.dramChannel a) (a / 32) who.contender

/-- The data address that names, under a new order, the location an address named under the old one; `unit` is how many
such keys one slot holds (1792 bytes, or 56 checked words). -/
def reorderKey (unit old new k : Nat) : Nat :=
  let g := k / unit
  (g / 2 ^ 19 * 2 ^ 19 + locSlot new (slotLoc old (g % 2 ^ 19))) * unit + k % unit

/-- Move the entries of a table whose slot lies in region `r`. -/
def reorderMap {α : Type} (unit r old new : Nat) (m : SMap α) : SMap α :=
  m.foldl (fun acc e => SMap.ins acc (if e.1 / unit / 2 ^ 19 = r then reorderKey unit old new e.1 else e.1) e.2) []

/-- A write of DRC_ORDERr: the DRC moves no data, so the region's addresses name other bytes afterwards. -/
def State.orderWrite (s : State) (r : Nat) (v : Word) : State :=
  let old := s.fg DRC_ORDER DRC_ORDER_ORDER [r]
  let new := DRC_ORDER_ORDER.of v
  let mine : Nat × Nat := (r * regionBytes, regionBytes)
  let pool := (s.poolAreas.drop 0).filter fun x => !inSram x.1
  if s.pailsBusy && pool.any (fun x => overlap x mine) then s.logDiscard (DRC_ORDER.addr [r])
  else
    let s1 := s.plain DRC_ORDER [r] v
    if old = new then s1
    else
      { s1 with mem := reorderMap 1792 r old new s1.mem, chk := reorderMap 56 r old new s1.chk }

/-- DRC_ORDER_WRITE (R330). -/
def execDrcOrderWrite (r : Nat) (who : Init) (v : Word) (s : State) : Host.Outcome State Fault Refusal :=
  .next (s.csrWrite DRC_ORDER [r] who v fun t => t.orderWrite r v)

/-! ## Retraining (R332) -/

/-- The lowest channel whose batch is due. -/
def State.dueChannel (s : State) : Option Nat :=
  (List.range 8).find? fun c => (SMap.get s.memst.dueAt c none).isSome

/-- Ask leave for the next due batch, unless one is in progress or an ask waits. -/
def State.drcAsk (s : State) : State :=
  if s.memst.batch.isSome || s.pwr.queue.any (fun l => l.cls == clsRetrain) then s
  else
    match s.dueChannel with
    | some c => (s.askLeave clsRetrain (s.fg DRC_RT DRC_RT_AMOUNT) 4 c).1
    | none => s

/-- PERIOD in ns. -/
def State.rtPeriod (s : State) : Nat := s.fg DRC_RT DRC_RT_PERIOD * 1000000

/-- RETRAIN_DUE (R332): PERIOD ms have passed since a channel's last batch, or the die temperature (here in °C above any
fixed zero) has moved TEMP °C since then. -/
def execRetrainDue (ch temp : Nat) (s : State) : Host.Outcome State Fault Refusal :=
  let last := SMap.get s.memst.lastTemp ch temp
  let moved := if last ≤ temp then temp - last else last - temp
  let due := decide (SMap.get s.memst.lastBatch ch 0 + s.rtPeriod ≤ s.now) || decide (s.fg DRC_RT DRC_RT_TEMP ≤ moved)
  if s.domOn .memory && decide (ch < 8) && due && (SMap.get s.memst.dueAt ch none).isNone && s.memst.batch != some ch then
    .next ({ s with memst := { s.memst with dueAt := SMap.ins s.memst.dueAt ch (some s.now) } }).drcAsk
  else .next s

/-- Retraining leave has been granted for a channel: its batch begins. -/
def State.batchStart (s : State) (ch : Nat) : State :=
  let s1 := { s with memst := { s.memst with
    batch := some ch, batchAt := s.now, dueAt := SMap.del s.memst.dueAt ch, lateSeen := SMap.del s.memst.lateSeen ch } }
  (s1.fs DRC_STATUS DRC_STATUS_RT_CH ch).fs DRC_STATUS DRC_STATUS_RT_ACTIVE 1

/-- RETRAIN_BATCH_END (R332): the 16 pauses of a batch, at least 2 µs apart, are over; its leave is returned. -/
def execRetrainBatchEnd (temp : Nat) (s : State) : Host.Outcome State Fault Refusal :=
  match s.memst.batch with
  | some ch =>
    if s.memst.batchAt + 30000 ≤ s.now then
      let s1 := (s.returnReq clsRetrain 4 ch).cross 35 ch
      let s2 := { s1 with memst := { s1.memst with
        batch := none, lastBatch := SMap.ins s1.memst.lastBatch ch s.now,
        lastTemp := SMap.ins s1.memst.lastTemp ch temp } }
      .next (s2.fs DRC_STATUS DRC_STATUS_RT_ACTIVE 0).drcAsk
    else .next s
  | none => .next s

/-- RETRAIN_LATE (R332): a batch not granted PERIOD ms after it fell due counts once, and the DRC keeps asking. -/
def execRetrainLate (ch : Nat) (s : State) : Host.Outcome State Fault Refusal :=
  match SMap.get s.memst.dueAt ch none with
  | some t =>
    if t + s.rtPeriod ≤ s.now && !SMap.get s.memst.lateSeen ch false then
      let s1 := { s with memst := { s.memst with lateSeen := SMap.ins s.memst.lateSeen ch true } }
      .next (((s1.bump DRC_RT_LATE).logEv 0x29 0x0A 0 ch).drcAsk)
    else .next s
  | none => .next s

/-- A write of DRC_RT. -/
def State.rtWrite (s : State) (v : Word) : State :=
  let p := DRC_RT_PERIOD.of v
  let a := DRC_RT_AMOUNT.of v
  let t := DRC_RT_TEMP.of v
  if p < 10 ∨ a = 0 ∨ 2000 < a ∨ t = 0 ∨ 50 < t then s.logDiscard (DRC_RT.addr []) else s.plain DRC_RT [] v

/-- A write of DRC_WHISTLE. -/
def State.whistleWrite (s : State) (v : Word) : State :=
  let l := DRC_WHISTLE_LEAD.of v
  if l < 100 ∨ 1000 < l then s.logDiscard (DRC_WHISTLE.addr []) else s.plain DRC_WHISTLE [] v

/-! ## Whistles (R333) -/

/-- WH_ACTIVE shows the ports with a whistled read whose data has not arrived. -/
def State.whView (s : State) : State :=
  let l := s.memst.whistles.filter fun x => decide (s.now < x.2.2.2)
  let s1 := { s with memst := { s.memst with whistles := l } }
  s1.fs DRC_STATUS DRC_STATUS_WH_ACTIVE ((List.range 5).map fun p => b2n (l.any fun x => x.1 == p) * 2 ^ p).sum

/-- Insert a whistled read in order of need-by instant, the lower port first at equal instants. -/
def whistleIns (x : Nat × Nat × Nat × Nat) : List (Nat × Nat × Nat × Nat) → List (Nat × Nat × Nat × Nat)
  | [] => [x]
  | a :: t => if x.2.2.1 < a.2.2.1 ∨ (x.2.2.1 = a.2.2.1 ∧ x.1 < a.1) then x :: a :: t else a :: whistleIns x t

/-- A DRAM read of a whistle port that needs its data by an instant and whose data arrives at another. The Bool says that
the data is late. -/
def State.whistleRead (s : State) (port a need arrive : Nat) : State × Bool :=
  if port < 5 && inDram a && s.domOn .memory && bitN (s.fg DRC_WHISTLE DRC_WHISTLE_EN) port &&
      decide (need ≤ s.now + s.fg DRC_WHISTLE DRC_WHISTLE_LEAD) then
    let s1 := { s with memst := { s.memst with
      whistles := whistleIns (port, s.dramChannel a, need, arrive) s.memst.whistles } }
    let s2 := (s1.cross 35 (s.dramChannel a)).bump DRC_WHISTLES
    if need < arrive then ((s2.bump DRC_WH_LATE).whView, true) else (s2.whView, false)
  else (s, false)

/-! ## Scrubbing and injection (R340, R343) -/

/-- The checked words of SRAM and of DRAM data. -/
def sramWords : Nat := 0x3000000 / 32
def dramWords : Nat := 0x1C0000000 / 32

/-- SCRUB_READ (R340): the scrubber reads and decodes the next word of SRAM or of DRAM. -/
def execScrubRead (sram : Bool) (s : State) : Host.Outcome State Fault Refusal :=
  if !s.domOn .memory then .next s
  else if sram then
    if s.flag MEM_SCRUB MEM_SCRUB_S_EN then
      let w := s.memst.scrubS % sramWords
      let (s1, _) := s.decodeWord (0x4000000000 / 32 + w) 2
      .next { s1 with memst := { s1.memst with scrubS := (w + 1) % sramWords } }
    else .next s
  else if s.flag MEM_SCRUB MEM_SCRUB_D_EN then
    let w := s.memst.scrubD % dramWords
    let (s1, _) := s.decodeWord w 2
    .next { s1 with memst := { s1.memst with scrubD := (w + 1) % dramWords } }
  else .next s

/-- A write of MEM_SCRUB. -/
def State.scrubWrite (s : State) (v : Word) : State :=
  if MEM_SCRUB_S_PASS.of v = 0 ∨ MEM_SCRUB_D_PASS.of v = 0 then s.logDiscard (MEM_SCRUB.addr [])
  else s.plain MEM_SCRUB [] v

/-- A write of MEM_INJECT. -/
def State.injectWrite (s : State) (v : Word) : State :=
  if MEM_INJECT_ARM.of v = 1 ∧ (!inMem (MEM_INJECT_ADDR.of v * 32) ∨ 35 < MEM_INJECT_POS.of v ∨ MEM_INJECT_VALUE.of v = 0)
  then s.logDiscard (MEM_INJECT.addr [])
  else s.plain MEM_INJECT [] v

/-- MEM_INJECT_ARM (R343). -/
def execMemInjectArm (who : Init) (v : Word) (s : State) : Host.Outcome State Fault Refusal :=
  .next (s.csrWrite MEM_INJECT [] who v fun t => t.injectWrite v)

end Sys2Proof.Machine
end

