-- ==== Sys2Proof/Machine/FabOps.lean ====
section
/-! DEFINITION. What other blocks use of the fabric and of the bond: issuing a remote operation (R363, R364), and the device
that answers for a home. -/

namespace Sys2Proof.Machine

/-- A device is a member of this device's huddle. -/
def State.member (s : State) (d : Nat) : Bool := s.domOn .fabric && bitN (s.fg FAB_HUDDLE FAB_HUDDLE_MEMBERS) d

/-- The first link of the route to a device: 6 for this device, 7 for none. -/
def State.route (s : State) (d : Nat) : Nat := s.fg FAB_ROUTE FAB_ROUTE_LINK [d]

/-- The operations to a device that have not completed. -/
def State.opsTo (s : State) (d : Nat) : List FabOp := SMap.get s.fab.ops d []

/-- Set them; OUTSTANDING shows their number. -/
def State.setOps (s : State) (d : Nat) (l : List FabOp) : State :=
  ({ s with fab := { s.fab with ops := SMap.set s.fab.ops d l [] } }).fs FAB_ROUTE FAB_ROUTE_OUTSTANDING l.length [d]

/-- RESEND in ns. -/
def State.resendNs (s : State) : Nat := s.fg FAB_CTL FAB_CTL_RESEND * 1000

/-- New operations to a device may be sent: fewer than 1,024 are uncompleted, and no route change is draining (R363). -/
def State.mayIssue (s : State) (d : Nat) : Bool :=
  decide ((s.opsTo d).length < 1024) &&
    match SMap.find s.fab.drain d with
    | some t => (s.opsTo d).isEmpty || decide (t + s.resendNs ≤ s.now)
    | none => true

/-- Put a header on a link, with what else it carries. -/
def State.fabWire (s : State) (h : Bytes) (args : List Nat) : State :=
  { s with fab := { s.fab with wire := s.fab.wire ++ [(h, args)] } }

/-- The header of an operation to a device. -/
def State.opHdr (s : State) (d : Nat) (m : FabMsg) (seq : Nat) : Bytes := flitHdr m.kind s.self d 0 seq m.len

/-- Give an operation its OP_SEQ and send it. -/
def State.issueOp (s : State) (d : Nat) (m : FabMsg) (tok : FabTok) : State :=
  let q := SMap.get s.fab.opSeq d 0
  let s1 := { s with fab := { s.fab with opSeq := SMap.ins s.fab.opSeq d ((q + 1) % 2 ^ 32), drain := SMap.del s.fab.drain d } }
  (s1.setOps d (s1.opsTo d ++ [{ seq := q, msg := m, tok, at_ := s.now, sent := s.now }])).fabWire (s.opHdr d m q) []

/-- The kinds that an alias redirects to the survivor of a takeover (R380). -/
def FabMsg.aliased : FabMsg → Bool
  | .store .. => false | .load .. => false | .msg _ => false | .attest _ => false | .other _ => false
  | _ => true

/-- The member whose record carries an alias for a device. -/
def aliasOf (d : Nat) : SMap LinkRec → Option Nat
  | [] => none
  | (k, r) :: t => if r.alias_ = some d then some k else aliasOf d t

/-- The device that an operation addressed to `d` goes to. -/
def State.fabTarget (s : State) (d : Nat) (m : FabMsg) : Option Nat :=
  match aliasOf d s.fab.recs with
  | some k => if m.aliased then some k else if s.member d then some d else none
  | none => if s.member d then some d else none

/-- A remote operation must wait for earlier stores of its context to take effect (R107, point 3). -/
def State.tokHeld (s : State) (tok : FabTok) : Bool :=
  match tok with
  | .op id => match s.openOp id with | some o => s.storesBefore o.ctx id | none => false
  | _ => false

/-- Issue a remote operation: the engine status given at issue (R364), 0 when it is on its way. Operations to one device go in
issue order, whichever contexts issue them (R154): one that must wait keeps those after it waiting. -/
def State.fabSend (s : State) (d : Nat) (m : FabMsg) (tok : FabTok) : State × Nat :=
  if !s.domOn .fabric then (s, esDomainDown)
  else
    match s.fabTarget d m with
    | none => (s, esUnreachable)
    | some k =>
      if s.route k = 7 then (s, esUnreachable)
      else if s.mayIssue k && !s.tokHeld tok && !s.fab.wait.any (fun x => x.1 == k) then (s.issueOp k m tok, 0)
      else ({ s with fab := { s.fab with wait := s.fab.wait ++ [(k, m, tok)] } }, 0)

/-- Send a posted renq or rmsg to another device (R154): a frame that meets an uncorrectable word is not sent (R364). -/
def State.sendRemote (s : State) (id : Nat) : State :=
  match s.openOp id with
  | some o =>
    match o.kind, o.frame with
    | .renq handle tid dev, some f =>
      let (s1, b, bad) := s.frameBytes f
      if bad.isSome then s1.answerOp id o esRefused 0 true
      else
        let (s2, st) := s1.fabSend dev (.enq handle tid b) (.op id)
        if st = 0 then s2 else s2.answerOp id o st 0 true
    | .rmsg dev msg, _ =>
      let (s2, st) := s.fabSend dev (.msg msg) (.op id)
      if st = 0 then s2 else s2.answerOp id o st 0 true
    | _, _ => s
  | none => s

/-- Issue the operations waiting for a destination, in order, as far as they may go. -/
def State.fabPump (s : State) (d : Nat) : Nat → State
  | 0 => s
  | n + 1 =>
    if s.mayIssue d then
      match s.fab.wait.find? fun x => x.1 == d with
      | some (_, m, tok) =>
        if s.tokHeld tok then s
        else
          State.fabPump (({ s with fab := { s.fab with wait := s.fab.wait.eraseP fun x => x.1 == d } }).issueOp d m tok) d n
      | none => s
    else s

/-- Do so for the destinations of a list. -/
def State.fabPumps (s : State) : List Nat → State
  | [] => s
  | d :: t => State.fabPumps (s.fabPump d 1024) t

/-- A store of a context through the fabric window has taken effect: a FENCE that waited for it may end, and operations
that had to follow it are sent (R107, R154). -/
def State.storeDone (s : State) (c : Nat) : State :=
  let x := s.ctx c
  let s1 :=
    if x.st = .waiting ∧ x.blocked = .fence ∧ !s.storesBefore c s.drk.nextOp then
      s.setCtx c { x with st := .running, blocked := .nothing, pc := x.pc + 1 }
    else s
  if s1.fab.wait.isEmpty then s1 else s1.fabPumps (List.range 16)

/-- Send an operation nobody waits for. -/
def State.fabTell (s : State) (d : Nat) (m : FabMsg) : State := (s.fabSend d m .none_).1

/-! ## The skimmer's inputs -/

/-- A frame joins an input of the skimmer: 0 churn, 3 WMAC, 4 HIF, 5 FAB. -/
def State.skmEnter (s : State) (i : Nat) (f : Frame) : State :=
  { s with skm := { s.skm with inputs := SMap.set s.skm.inputs i (SMap.get s.skm.inputs i [] ++ [f]) [] } }

end Sys2Proof.Machine
end

