-- ==== Sys2Proof/Machine/Air.lean ====
section
/-! DEFINITION. The airtime scheduler's common part (chapter 07): air queues, the two disciplines, the eligibility wheel and
target wake time entries. -/

namespace Sys2Proof.Machine

/-- An air queue. -/
def State.aq (s : State) (q : Nat) : AirQ := SMap.get s.air.qs q {}

/-- Set an air queue; an empty one has no start tag (R162). -/
def State.setAq (s : State) (q : Nat) (x : AirQ) : State :=
  let y := if x.frames.isEmpty then { x with tag := 0, till := none } else x
  { s with air := { s.air with qs := SMap.set s.air.qs q y {} } }

/-! ## Stations and units (R159, R160) -/

/-- The units a queue's TID maps to, bit 0 A. -/
def State.qUnits (s : State) (q : Nat) : Nat :=
  bits (s.fg AIR_STA AIR_STA_TIDMAP [q / 8]) (3 * (q % 8) + 2) (3 * (q % 8))

/-- A queue's reference unit: the lowest-lettered unit of its mapping. -/
def State.refUnit (s : State) (q : Nat) : Option Nat := [0, 1, 2].find? fun x => bitN (s.qUnits q) x

/-- An entry is in a service period. -/
def State.inSp (s : State) (e : Nat) : Bool := s.flag AIR_TWT2 AIR_TWT2_IN_SP [e]

/-- A station's queues are PARKED. -/
def State.staParked (s : State) (n : Nat) : Bool :=
  s.flag AIR_STA AIR_STA_PS [n] ||
    (s.flag AIR_STA AIR_STA_TWT_ONLY [n] && !s.inSp (s.fg AIR_STA AIR_STA_TWT [n]))

/-- A queue is PARKED. -/
def State.parked (s : State) (q : Nat) : Bool := s.staParked (q / 8)

/-- A queue is offered to a unit (R160). -/
def State.offered (s : State) (q x : Nat) : Bool :=
  decide (q < 8192) && bitN (s.qUnits q) x && !s.parked q &&
    (!s.flag AIR_STA AIR_STA_TWT_ONLY [q / 8] ||
      s.fg AIR_TWT1 AIR_TWT1_UNIT [s.fg AIR_STA AIR_STA_TWT [q / 8]] == x)

/-- The discipline of a unit: 1 virtual time, 2 credit (R161). -/
def State.disc (s : State) (x : Nat) : Nat := bits (s.rg AIR_CTL).toNat (2 * x + 1) (2 * x)

/-- The credit discipline governs a queue. -/
def State.creditQ (s : State) (q : Nat) : Bool := match s.refUnit q with | some x => s.disc x == 2 | none => false

/-! ## Tags and credits (R162, R163) -/

/-- a is before b modulo 2^64. -/
def vBefore (a b : Nat) : Bool :=
  let d := (b + 2 ^ 64 - a) % 2 ^ 64
  decide (1 ≤ d) && decide (d < 2 ^ 63)

/-- A queue's credit at now, in units of 2^-16 byte. -/
def State.credNow (s : State) (q : Nat) : Int :=
  let x := s.aq q
  let dt := s.now - max x.since s.air.base
  min (x.cred + (s.fg AIR_QCFG1 AIR_QCFG1_RATE [q] * dt * 65536 / 1000000 : Nat))
    ((s.fg AIR_QCFG1 AIR_QCFG1_BURST [q] * 65536 : Nat) : Int)

/-- STATE of a queue (Table AIR-1). -/
def State.aqState (s : State) (q : Nat) : Nat :=
  let x := s.aq q
  if x.frames.isEmpty then 0
  else if s.parked q then 3
  else if s.creditQ q && x.till.isSome then 2
  else 1

/-- The least start tag of a list. -/
def vLeast : List Nat → Option Nat
  | [] => none
  | a :: t => match vLeast t with | some b => some (if vBefore b a then b else a) | none => some a

/-- V_x follows the least S among the ACTIVE queues whose reference unit is x. -/
def State.vUpdate (s : State) (x : Nat) : State :=
  let tags := (s.air.qs.filter fun e => s.refUnit e.1 == some x && s.aqState e.1 == 1).map fun e => e.2.tag
  match vLeast tags with
  | some v => s.wg AIR_VTIME (BitVec.ofNat 64 v) [x]
  | none => s

/-- Place a queue by its credit: ACTIVE from 0 up, else WAITING on the wheel. -/
def State.placeCredit (s : State) (q : Nat) (c : Int) : State :=
  let x := s.aq q
  let rate := max 1 (s.fg AIR_QCFG1 AIR_QCFG1_RATE [q])
  if 0 ≤ c then
    s.setAq q { x with cred := c, since := s.now, till := none, active := if x.till.isSome then s.now else x.active }
  else s.setAq q { x with cred := c, since := s.now, till := some (s.now + ceilDiv ((-c).toNat * 1000000) (rate * 65536)) }

/-- A queue wakes: from EMPTY, on unparking, or on a change of discipline. It takes S := V_x of its reference unit, PARKED
or not, or keeps its credit. -/
def State.wakeTag (s : State) (q : Nat) : State :=
  let x := s.aq q
  if x.frames.isEmpty then s
  else if s.creditQ q then
    if s.parked q then s else (s.setAq q { x with active := s.now, till := none }).placeCredit q (s.credNow q)
  else
    let v := match s.refUnit q with | some u => (s.rg AIR_VTIME [u]).toNat | none => x.tag
    s.setAq q { x with tag := v, active := s.now, till := none }

/-- The virtual-time units of a list whose queues of another list wake: their V_x follows. -/
def State.vUpdates (s : State) (qs : List Nat) : List Nat → State
  | [] => s
  | u :: t =>
    State.vUpdates (if qs.any fun q => s.refUnit q == some u && !s.creditQ q && !(s.aq q).frames.isEmpty then s.vUpdate u else s)
      qs t

/-- Several queues wake at one instant: each reads V_x as it was at that instant, and then V_x follows (R162). -/
def State.wakeQs (s : State) (qs : List Nat) : State := (qs.foldl State.wakeTag s).vUpdates qs [0, 1, 2]

/-- One queue wakes. -/
def State.wakeQ (s : State) (q : Nat) : State := s.wakeQs [q]

/-- The eight queues of a station. -/
def staQueues (n : Nat) : List Nat := (List.range 8).map fun t => 8 * n + t

/-! ## Entering and leaving a queue (R156-R158) -/

/-- Admit a frame: it is stamped, and an empty queue wakes. -/
def State.airPut (s : State) (q : Nat) (f : Frame) : State :=
  let x := s.aq q
  let s1 := s.setAq q { x with frames := x.frames ++ [⟨f, s.now⟩] }
  if x.frames.isEmpty then s1.wakeQ q else s1

/-- The status of an enqueue by its handle and TID (R149, R157). -/
def State.airStatus (s : State) (handle tid : Nat) : Nat :=
  let n := handle % 1024
  let w0 := (s.rg WMAC_CTX [n, 0]).toNat
  let q := 8 * n + tid
  if !s.domOn .memory then esDomainDown
  else if bits w0 17 16 = 0 ∨ bits w0 15 14 ≠ bits handle 15 14 then esStale
  else if s.fg AIR_QCFG0 AIR_QCFG0_LIMIT [q] ≤ (s.aq q).frames.length ∨ s.freePailCount = 0 then esFull
  else esOk

/-- A frame returns to the head of its queue with its stamp (R189). -/
def State.airUnget (s : State) (q : Nat) (f : AirFrame) : State :=
  let x := s.aq q
  let s1 := s.setAq q { x with frames := f :: x.frames }
  if x.frames.isEmpty then s1.wakeQ q else s1

/-- The head of a queue is older than MAXAGE. -/
def State.airOld (s : State) (q : Nat) (f : AirFrame) : Bool :=
  decide (f.stamp + s.fg AIR_QCFG0 AIR_QCFG0_MAXAGE [q] * 1000000 < s.now)

/-- Drop head frames that are too old, at most `n`. -/
def State.airAge (s : State) (q : Nat) : Nat → State
  | 0 => s
  | n + 1 =>
    match (s.aq q).frames with
    | f :: t =>
      if s.airOld q f then State.airAge (((s.setAq q { s.aq q with frames := t }).dropFrame f.frame).bump AIR_AGED) q n
      else s
    | [] => s

/-- Age several queues. -/
def State.airAges (s : State) : List Nat → State
  | [] => s
  | q :: t => State.airAges (s.airAge q (s.aq q).frames.length) t

/-- AIR_AGE_SCAN (R158): once a millisecond for every non-empty queue. -/
def execAirAgeScan (s : State) : Host.Outcome State Fault Refusal :=
  .next (if s.domOn .memory then s.airAges (s.air.qs.map Prod.fst) else s)

/-- deq.air removes the head frame, after the age check. -/
def State.airDeq (s : State) (q : Nat) : State × Option Frame :=
  let s1 := s.airAge q (s.aq q).frames.length
  match (s1.aq q).frames with
  | f :: t => (s1.setAq q { s1.aq q with frames := t }, some f.frame)
  | [] => (s1, none)

/-- Charge a queue for a frame taken by WMAC (R173). -/
def State.airCharge (s : State) (q len : Nat) : State :=
  let x := s.aq q
  let w := max 1 (s.fg AIR_QCFG0 AIR_QCFG0_WEIGHT [q])
  if s.creditQ q then
    let c := s.credNow q - ((len * 65536 : Nat) : Int)
    if x.frames.isEmpty then s.setAq q { x with cred := c, since := s.now } else s.placeCredit q c
  else
    let s1 := s.setAq q { x with tag := (x.tag + ceilDiv (len * 4096) w) % 2 ^ 64 }
    match s.refUnit q with
    | some u => s1.vUpdate u
    | none => s1

/-- WMAC takes the head frame of a queue for transmission. -/
def State.airTake (s : State) (q : Nat) : State × Option AirFrame :=
  match (s.aq q).frames with
  | f :: t => ((s.setAq q { s.aq q with frames := t }).airCharge q f.frame.len, some f)
  | [] => (s, none)

/-! ## Register writes (R157, R159, R161) -/

/-- A write of AIR_QCFGq_0 or _1. -/
def State.qcfgWrite (s : State) (q word : Nat) (v : Word) : State :=
  let bad :=
    if word = 0 then AIR_QCFG0_WEIGHT.of v == 0 || AIR_QCFG0_LIMIT.of v == 0 || AIR_QCFG0_MAXAGE.of v == 0
    else AIR_QCFG1_RATE.of v == 0 || AIR_QCFG1_BURST.of v == 0
  let r := if word = 0 then AIR_QCFG0 else AIR_QCFG1
  if bad then s.logDiscard (r.addr [q])
  else
    let x := s.aq q
    let s0 := if word = 0 then s else s.setAq q { x with cred := s.credNow q, since := s.now }
    let s1 := s0.plain r [q] v
    if bits (s.rg WMAC_CTX [q / 8, 0]).toNat 17 16 = 1 then s1.mirror (.qcfg q word (s1.rg r [q]).toNat) else s1

/-- Change a station's record by `f`; the queues it unparks wake. -/
def State.staChange (s : State) (n : Nat) (f : State → State) : State :=
  let was := s.staParked n
  let s1 := f s
  if was && !s1.staParked n then s1.wakeQs (staQueues n) else s1

/-- A write of AIR_STAn. -/
def State.staWrite (s : State) (n : Nat) (v : Word) : State :=
  let s1 := s.staChange n fun t => t.plain AIR_STA [n] v
  if bits (s.rg WMAC_CTX [n, 0]).toNat 17 16 = 1 then s1.mirror (.sta n (s1.rg AIR_STA [n]).toNat) else s1

/-- The wireless MAC sets a station's PS. -/
def State.setPs (s : State) (n : Nat) (ps : Bool) : State := s.staChange n fun t => t.fs AIR_STA AIR_STA_PS (b2n ps) [n]

/-- The non-empty queues whose reference unit is x. -/
def State.unitQueues (s : State) (x : Nat) : List Nat :=
  (s.air.qs.filter fun e => !e.2.frames.isEmpty && s.refUnit e.1 == some x).map Prod.fst

/-- A write of AIR_CTL: a unit whose discipline changes re-initialises its queues as waking ones. -/
def State.airCtlWrite (s : State) (v : Word) : State :=
  let ok := [0, 1, 2].all fun x => let d := bits v.toNat (2 * x + 1) (2 * x); d == 1 || d == 2
  if !ok then s.logDiscard (AIR_CTL.addr [])
  else
    let s1 := s.plain AIR_CTL [] v
    let ch := [0, 1, 2].filter fun x => s.disc x != s1.disc x
    s1.wakeQs (ch.flatMap fun x => s1.unitQueues x)

/-- AIR_CTL_WRITE (R161). -/
def execAirCtlWrite (who : Init) (v : Word) (s : State) : Host.Outcome State Fault Refusal :=
  .next (s.csrWrite AIR_CTL [] who v fun t => t.airCtlWrite v)

/-! ## Plan slots -/

/-- A unit's plan interface. -/
def State.au (s : State) (x : Nat) : AirUnit := SMap.get s.air.units x {}

/-- Set it, and show the slots' states in AIR_Ux_STATUS. -/
def State.setAu (s : State) (x : Nat) (u : AirUnit) : State :=
  let m (st sh : Nat) : Nat :=
    ((List.range 4).map fun k => b2n ((SMap.get u.slots k ({} : PlanSlot)).st == st) * 2 ^ (sh + k)).sum
  ({ s with air := { s.air with units := SMap.set s.air.units x u {} } }).wg AIR_U_STATUS
    (BitVec.ofNat 64 (m 1 0 + m 2 4 + m 3 8)) [x]

/-- A plan slot. -/
def State.pslot (s : State) (x k : Nat) : PlanSlot := SMap.get (s.au x).slots k {}

/-- Set a plan slot. -/
def State.setPslot (s : State) (x k : Nat) (p : PlanSlot) : State :=
  s.setAu x { s.au x with slots := SMap.ins (s.au x).slots k p }

/-- The device address of a slot. -/
def State.slotAddr (s : State) (x k : Nat) : Nat := s.fg AIR_U_SLOT_BASE AIR_U_SLOT_BASE_ADDR [x] * 8192 + 8192 * k

/-- The first FREE slot of a unit. -/
def State.freePlan (s : State) (x : Nat) : Option Nat := (List.range 4).find? fun k => (s.pslot x k).st == 0

/-- WINDOW of an AC: its TXOP limit in µs, 5,484 for a limit of 0. -/
def State.acWindow (s : State) (x ac : Nat) : Nat :=
  let t := s.fg WMAC_EDCA WMAC_EDCA_TXOP [x, ac]
  if t = 0 then 5484 else 32 * t

/-- The end of an entry's service period. -/
def State.spEnd (s : State) (e : Nat) : Nat :=
  ((SMap.get s.air.twts e {}).start + (s.fg AIR_TWT1 AIR_TWT1_SP [e] * 1000 : Nat)).toNat

/-- Insert a queue into the candidate order of a unit: by S, or by the instant it last became ACTIVE; ties by queue. -/
def State.candIns (s : State) (x q : Nat) : List Nat → List Nat
  | [] => [q]
  | a :: t =>
    let before :=
      if s.disc x = 2 then decide ((s.aq q).active < (s.aq a).active) else vBefore (s.aq q).tag (s.aq a).tag
    if before then q :: a :: t else a :: State.candIns s x q t

/-- The offered ACTIVE queues of a unit, after the age check of each. -/
def State.candidates (s : State) (x : Nat) : State × List Nat :=
  let offer (t : State) : List Nat := (t.air.qs.filter fun e => t.offered e.1 x && t.aqState e.1 == 1).map Prod.fst
  let s1 := s.airAges (offer s)
  (s1, (offer s1).foldl (fun l q => s1.candIns x q l) [])

/-- A candidate entry (Table AIR-3). -/
def State.candEntry (s : State) (x q : Nat) : Bytes :=
  let a := s.aq q
  let total := (a.frames.map fun f => f.frame.len).sum
  let head := match a.frames with | f :: _ => (f.frame.len, min 65535 ((s.now - f.stamp) / 1000)) | [] => (0, 0)
  let tag :=
    if s.disc x = 2 then
      unsgn 32 (max (-2147483648) (min 2147483647 (s.credNow q / 65536)))
    else min 0xFFFFFFFF ((a.tag + 2 ^ 64 - (s.rg AIR_VTIME [x]).toNat) % 2 ^ 64)
  leBytes 2 q ++ leBytes 2 a.frames.length ++ leBytes 4 total ++ leBytes 2 head.1 ++ leBytes 2 head.2 ++ leBytes 4 tag

/-- Raise a request on a slot (R165, R166): the candidate list is written, RESULT := 0x00, and the PLAN event is raised. -/
def State.raisePlan (s : State) (x k kind twt : Nat) : State :=
  let (s1, cs) := s.candidates x
  let cs := cs.take (s1.fg AIR_U_CFG AIR_U_CFG_CAND_MAX [x])
  let a := s1.slotAddr x k
  let seq := (s1.au x).seq
  let left := (s1.spEnd twt - s1.now) / 1000
  let win := [0, 1, 2, 3].map fun ac => if kind = 2 then min (s1.acWindow x ac) left else s1.acWindow x ac
  let notAfter := s1.now + s1.fg AIR_U_CFG AIR_U_CFG_PLAN_TTL [x] * 1000
  let rec_ := leBytes 1 x ++ leBytes 1 kind ++ leBytes 1 k ++ leBytes 1 cs.length ++ leBytes 2 twt ++ leBytes 2 0 ++
    leBytes 8 a ++ win.flatMap (fun w => leBytes 2 w) ++ leBytes 8 notAfter
  let s2 := (s1.write (a + 6144) (cs.flatMap fun q => s1.candEntry x q)).1.writeLe (a + 28) 4 0
  let s3 := s2.setPslot x k { st := 1, seq, raised := true, kind, twt, notAfter, window := win }
  let s4 := s3.setAu x { s3.au x with seq := (seq + 1) % 2 ^ 32 }
  s4.raise { typ := 3, unit := x, source := x, arg := seq, record := rec_ }

/-- A waiting SP_START request is raised on a slot that is FREE. -/
def State.raiseSp (s : State) (x : Nat) : State :=
  if !s.domOn (Dom.ofUnit x) then s
  else
    match (s.au x).spWait, s.freePlan x with
    | e :: t, some k => (s.setAu x { s.au x with spWait := t }).raisePlan x k 2 e
    | _, _ => s

/-- The counter of a RESULT code. -/
def planCounter (code : Nat) : Option Reg :=
  if code = 3 then some AIR_U_SENT
  else if code = 4 then some AIR_U_EXPIRED
  else if code = 5 then some AIR_U_ALL_OMITTED
  else if 0x10 ≤ code ∧ code ≤ 0x18 then some AIR_U_REFUSED
  else none

/-- A plan ends: RESULT is written, its full-chain leave is returned, and the slot is FREE. -/
def State.endPlan (s : State) (x k code : Nat) : State :=
  let p := s.pslot x k
  let s1 := s.writeLe (s.slotAddr x k + 28) 4 code
  let s2 := match planCounter code with | some r => s1.bump r [x] | none => s1
  let s3 := (s2.returnReq clsFullChain 2 (4 * x + k)).withdraw fun l =>
    l.cls == clsFullChain && l.req == 2 && l.index == 4 * x + k
  let s4 := s3.setPslot x k
    { seq := p.seq, raised := true, missed := code == 4 && p.st == 1 && p.plan.isEmpty && decide (p.notAfter ≤ s.now) }
  s4.raiseSp x

/-- PLAN_REQUEST (R165): AIR raises the request a unit's conditions call for. -/
def execPlanRequest (x : Nat) (s : State) : Host.Outcome State Fault Refusal :=
  if decide (x < 3) && s.domOn (Dom.ofUnit x) && s.domOn .memory then
    if !(s.au x).spWait.isEmpty then .next (s.raiseSp x)
    else
      let busy := ((List.range 4).filter fun k => (s.pslot x k).st == 1 || (s.pslot x k).st == 2).length
      match s.freePlan x with
      | some k =>
        let (s1, cs) := s.candidates x
        if cs.isEmpty || decide (s.fg AIR_U_CFG AIR_U_CFG_PLAN_DEPTH [x] ≤ busy) then .next s1
        else .next (s1.raisePlan x k 1 0xFFFF)
      | none => .next s
  else .next s

/-- PLAN_EXPIRE (R167, R170): a slot still PENDING or READY at NOT_AFTER ends EXPIRED. -/
def execPlanExpire (x k : Nat) (s : State) : Host.Outcome State Fault Refusal :=
  let p := s.pslot x k
  .next (if (p.st = 1 ∨ p.st = 2) ∧ p.notAfter ≤ s.now ∧ s.domOn (Dom.ofUnit x) then s.endPlan x k 4 else s)

/-! ## Target wake time (R174, R175) -/

/-- Count a period in MISSED of its entry, saturating. -/
def State.twtMissed (s : State) (e n : Nat) : State :=
  (s.rcUpdate (AIR_TWT2.addr [e])).fs AIR_TWT2 AIR_TWT2_MISSED (min 0xFFFFFFFF (s.fg AIR_TWT2 AIR_TWT2_MISSED [e] + n)) [e]

/-- NEXT × 1,000 − OFF of an entry, with the signed offset in force (R56, R175). -/
def State.twtInstant (s : State) (e : Nat) : Int :=
  ((s.rg AIR_TWT0 [e]).toNat * 1000 : Nat) - (SMap.get s.tmb.tsfOff (s.fg AIR_TWT1 AIR_TWT1_UNIT [e]) 0).toInt

/-- The timebase instant of an entry's next start; one before the timebase's origin is past. -/
def State.twtStart (s : State) (e : Nat) : Nat := (s.twtInstant e).toNat

/-- An entry runs and waits for its start. -/
def State.twtArmed (s : State) (e : Nat) : Bool := s.flag AIR_TWT1 AIR_TWT1_ENABLE [e] && !s.inSp e

/-- NEXT advances by whole intervals to the first start in the future; each period skipped counts. -/
def State.twtSkip (s : State) (e : Nat) : State :=
  let i := s.fg AIR_TWT1 AIR_TWT1_INTERVAL [e]
  let t := s.twtInstant e
  if t ≤ s.now then
    let n := (((s.now : Int) - t) / (i * 1000 : Nat)).toNat + 1
    (s.wg AIR_TWT0 (s.rg AIR_TWT0 [e] + BitVec.ofNat 64 (n * i)) [e]).twtMissed e n
  else s

/-- The stations of an entry whose queues are TWT_ONLY. -/
def State.twtMembers (s : State) (e : Nat) : List Nat :=
  ((s.air.qs.map fun x => x.1 / 8).eraseDups).filter fun n =>
    s.flag AIR_STA AIR_STA_TWT_ONLY [n] && s.fg AIR_STA AIR_STA_TWT [n] == e

/-- A service period starts. -/
def State.twtBegin (s : State) (e : Nat) : State :=
  let t := s.twtInstant e
  let x := s.fg AIR_TWT1 AIR_TWT1_UNIT [e]
  let ms := s.twtMembers e
  let s1 := { s with air := { s.air with twts := SMap.ins s.air.twts e { SMap.get s.air.twts e {} with start := t } } }
  let s2 := s1.fs AIR_TWT2 AIR_TWT2_IN_SP 1 [e]
  let s3 := s2.wakeQs (((ms.filter fun n => !s2.staParked n)).flatMap staQueues)
  (s3.setAu x { s3.au x with spWait := (s3.au x).spWait ++ [e] }).raiseSp x

/-- An entry's TWT1 fields are in range. -/
def twtOk (v : Word) : Bool :=
  decide (1 ≤ AIR_TWT1_INTERVAL.of v) && decide (1 ≤ AIR_TWT1_SP.of v) &&
    decide (AIR_TWT1_SP.of v < AIR_TWT1_INTERVAL.of v) && AIR_TWT1_UNIT.of v != 3

/-- Apply a write of an entry's NEXT or configuration outside a period: a start already past advances. -/
def State.twtApply (s : State) (e word : Nat) (v : Word) : State :=
  let s1 := if word = 0 then s.plain AIR_TWT0 [e] v else s.plain AIR_TWT1 [e] v
  if s1.flag AIR_TWT1 AIR_TWT1_ENABLE [e] then s1.twtSkip e else s1

/-- A service period ends: its queues park, NEXT advances, and deferred writes apply. A request still waiting is dropped
and counted (R165). -/
def State.twtEnd (s : State) (e : Nat) : State :=
  let x := s.fg AIR_TWT1 AIR_TWT1_UNIT [e]
  let d := SMap.get s.air.twts e {}
  let u := s.au x
  let s1 := if u.spWait.contains e then (s.setAu x { u with spWait := u.spWait.filter fun k => k ≠ e }).twtMissed e 1 else s
  let s2 := s1.fs AIR_TWT2 AIR_TWT2_IN_SP 0 [e]
  let s3 := s2.wg AIR_TWT0 (s2.rg AIR_TWT0 [e] + BitVec.ofNat 64 (s2.fg AIR_TWT1 AIR_TWT1_INTERVAL [e])) [e]
  let s4 := { s3 with air := { s3.air with twts := SMap.del s3.air.twts e } }
  let s5 := match d.next with | some v => s4.twtApply e 0 v | none => s4
  match d.conf with | some v => s5.twtApply e 1 v | none => s5

/-- A write of AIR_TWTn_0 or _1 (R174): discarded out of range, deferred to the period's end while IN_SP, except that
clearing ENABLE ends the period at once. -/
def State.twtWrite (s : State) (e word : Nat) (v : Word) : State :=
  let d := SMap.get s.air.twts e {}
  let store (x : TwtSt) : State := { s with air := { s.air with twts := SMap.ins s.air.twts e x } }
  if word = 0 then (if s.inSp e then store { d with next := some v } else s.twtApply e 0 v)
  else if !twtOk v then s.logDiscard (AIR_TWT1.addr [e])
  else if s.inSp e then
    let s1 := store { d with conf := some v }
    if AIR_TWT1_ENABLE.of v = 0 then s1.twtEnd e else s1
  else s.twtApply e 1 v

/-- AIR_TWT_WRITE (R174, R175). -/
def execAirTwtWrite (e word : Nat) (who : Init) (v : Word) (s : State) : Host.Outcome State Fault Refusal :=
  .next (s.csrWrite (if word = 0 then AIR_TWT0 else AIR_TWT1) [e] who v fun t => t.twtWrite e word v)

/-- A start that is due: served, or skipped and counted when its end has passed too. -/
def State.twtDue (s : State) (e : Nat) : State :=
  if s.twtArmed e ∧ s.twtStart e ≤ s.now then
    if s.twtInstant e + (s.fg AIR_TWT1 AIR_TWT1_SP [e] * 1000 : Nat) ≤ s.now then s.twtSkip e else s.twtBegin e
  else s

/-! ## The eligibility wheel (R164) -/

/-- A wheel item: its instant, its kind (0 period end, 1 period start, 2 queue) and its number. -/
def State.wheelItems (s : State) : List (Nat × Nat × Nat) :=
  let es := List.range 256
  ((es.filter s.inSp).map fun e => (s.spEnd e, 0, e)) ++ ((es.filter s.twtArmed).map fun e => (s.twtStart e, 1, e)) ++
    (s.air.qs.filterMap fun x => x.2.till.map fun t => (t, 2, x.1))

/-- Insert an item by instant, then kind, then number. -/
def itemIns (x : Nat × Nat × Nat) : List (Nat × Nat × Nat) → List (Nat × Nat × Nat)
  | [] => [x]
  | a :: t =>
    if x.1 < a.1 ∨ (x.1 = a.1 ∧ (x.2.1 < a.2.1 ∨ (x.2.1 = a.2.1 ∧ x.2.2 ≤ a.2.2))) then x :: a :: t else a :: itemIns x t

/-- Serve wheel items in order; one served more than 1 µs late counts. -/
def State.serveWheel (s : State) : List (Nat × Nat × Nat) → State
  | [] => s
  | (t, k, i) :: r =>
    let s1 := if t + 1000 < s.now then s.bump AIR_WHEEL_LATE else s
    let s2 :=
      if k = 0 then s1.twtEnd i
      else if k = 1 then s1.twtDue i
      else if (s1.aq i).till = some t then s1.placeCredit i (s1.credNow i)
      else s1
    State.serveWheel s2 r

/-- TWT_SP_START (R175): the wheel serves the start of one entry. -/
def execTwtSpStart (e : Nat) (s : State) : Host.Outcome State Fault Refusal :=
  .next (if s.domOn .memory ∧ s.twtArmed e ∧ s.twtStart e ≤ s.now then s.serveWheel [(s.twtStart e, 1, e)] else s)

/-- TWT_SP_END (R175): the wheel serves the end of one entry's period. -/
def execTwtSpEnd (e : Nat) (s : State) : Host.Outcome State Fault Refusal :=
  .next (if s.domOn .memory ∧ s.inSp e ∧ s.spEnd e ≤ s.now then s.serveWheel [(s.spEnd e, 0, e)] else s)

/-- The whole µs at or after an item's instant: its slot of the wheel. -/
def wheelSlot (t : Nat) : Nat := ceilDiv t 1000 * 1000

/-- The wheel serves the items of the slots up to an instant. -/
def State.serveSlots (s : State) (u : Nat) : State :=
  (s.cross 29 3).serveWheel ((s.wheelItems.filter fun x => decide (wheelSlot x.1 ≤ u)).foldr itemIns [])

/-- AIR_WHEEL_SLOT (R164): the items whose whole µs, at or after their instant, has come are served. -/
def execAirWheelSlot (s : State) : Host.Outcome State Fault Refusal :=
  .next (if s.domOn .memory then s.serveSlots s.now else s)

end Sys2Proof.Machine
end

