-- ==== Sys2Proof/Machine/Plan.lean ====
section
/-! DEFINITION. Plan records and their checks (R167-R169, R176), and the posting of a plan. -/

namespace Sys2Proof.Machine

/-! ## Plan record fields (Tables AIR-4, AIR-5) -/

def plKind (p : Bytes) : Nat := leAt p 1 1
def plUsers (p : Bytes) : Nat := leAt p 2 2
def plBw (p : Bytes) : Nat := leAt p 4 1
def plChains (p : Bytes) : Nat := leAt p 5 1
def plGi (p : Bytes) : Nat := leAt p 6 1
def plMore (p : Bytes) : Bool := bitN (leAt p 7 1) 0
def plProtect (p : Bytes) : Bool := bitN (leAt p 7 1) 1
/-- DURATION in ns. -/
def plDuration (p : Bytes) : Nat := leAt p 8 4 * 1000
def plAc (p : Bytes) : Nat := leAt p 14 1
def plTxAt (p : Bytes) : Nat := leAt p 16 8
/-- RESP in ns. -/
def plResp (p : Bytes) : Nat := leAt p 24 2 * 1000
/-- User entry i. -/
def plUser (p : Bytes) (i : Nat) : Bytes := slice p (32 + 16 * i) 16
def uQueue (u : Bytes) : Nat := leAt u 0 2
def uRu (u : Bytes) : Nat := leAt u 2 2
def uMcs (u : Bytes) : Nat := leAt u 4 1
def uNss (u : Bytes) : Nat := leAt u 5 1
def uPrec (u : Bytes) : Nat := leAt u 6 2
def uMax (u : Bytes) : Nat := leAt u 8 4
def uBar (u : Bytes) : Bool := bitN (leAt u 12 1) 0
/-- The user entries of a record. -/
def plList (p : Bytes) : List Bytes := (List.range (plUsers p)).map (plUser p)

/-! ## Resource units: the RU field as IEEE 802.11be lays it out -/

/-- B7-B1 of the RU Allocation. -/
def ruIndex (ru : Nat) : Nat := bits ru 7 1

/-- The 80 MHz block that PS160 and B0 name. -/
def ruBlock (ru : Nat) : Nat := bits ru 8 8 * 2 + bits ru 0 0

/-- The 26-tone places of the band: 9, 18 and 37 in 20, 40 and 80 MHz, the last with one place at its centre, and 74 and 148
above (Table AIR-9). -/
def bwPlaces (bw : Nat) : Nat := getAt [9, 18, 37, 74, 148] bw 0

/-- The first place of the j-th 20 MHz of an 80 MHz block: the centre place stands between the second and the third. -/
def quarterPlace (j : Nat) : Nat := 9 * j + j / 2

/-- The 26-tone places of an RU: the first of 148 and how many; none for a reserved value. -/
def ruSpan (ru : Nat) : Option (Nat × Nat) :=
  let i := ruIndex ru
  let b := 37 * ruBlock ru
  if i < 37 then some (b + i, 1)
  else if i < 53 then some (b + quarterPlace ((i - 37) / 4) + getAt [0, 2, 5, 7] ((i - 37) % 4) 0, 2)
  else if i < 61 then some (b + quarterPlace ((i - 53) / 2) + getAt [0, 5] ((i - 53) % 2) 0, 4)
  else if i < 65 then some (b + quarterPlace (i - 61), 9)
  else if i < 67 then some (b + 19 * (i - 65), 18)
  else if i = 67 then some (b, 37)
  else if i = 68 then some (74 * bits ru 8 8, 74)
  else if i = 69 then some (0, 148)
  else none

/-- The bit map of an RU over the 148 places; 0 for a reserved value. -/
def ruMap (ru : Nat) : Nat :=
  match ruSpan ru with
  | some (a, n) => (2 ^ n - 1) * 2 ^ a
  | none => if 70 ≤ ruIndex ru then Config.mruMap ru else 0

/-- The tones of an RU. -/
def ruTones (ru : Nat) : Nat :=
  match ruSpan ru with
  | some (_, n) =>
    if n = 1 then 26 else if n = 2 then 52 else if n = 4 then 106 else if n = 9 then 242 else if n = 18 then 484
    else 996 * (n / 37)
  | none => if 70 ≤ ruIndex ru then Config.mruTones ru else 0

/-- The data tones of a number of tones. -/
def toneData (n : Nat) : Nat :=
  if n = 26 then 24 else if n = 52 then 48 else if n = 106 then 102 else if n = 242 then 234 else if n = 484 then 468
  else 980 * (n / 996)

/-- The data tones of an RU. -/
def ruData (ru : Nat) : Nat := if (ruSpan ru).isSome then toneData (ruTones ru) else Config.mruData ru

/-- The tones of the full band of a BW. -/
def bwTones (bw : Nat) : Nat := getAt [242, 484, 996, 1992, 3984] bw 0

/-- Coded bits per tone and the code rate of an MCS. -/
def mcsRate (m : Nat) : Nat × Nat × Nat :=
  getAt [(1, 1, 2), (2, 1, 2), (2, 3, 4), (4, 1, 2), (4, 3, 4), (6, 2, 3), (6, 3, 4), (6, 5, 6), (8, 3, 4), (8, 5, 6),
    (10, 3, 4), (10, 5, 6), (12, 3, 4), (12, 5, 6)] m (1, 1, 2)

/-- The tones of a user of a plan: the full band for DL_SU. -/
def userTones (p u : Bytes) : Nat := if plKind p = 1 then bwTones (plBw p) else ruTones (uRu u)

/-- N_DBPS of a user (R172). -/
def userDbps (p u : Bytes) : Nat :=
  let (b, n, d) := mcsRate (uMcs u)
  (if plKind p = 1 then toneData (bwTones (plBw p)) else ruData (uRu u)) * b * uNss u * n / d

/-- T_SYM in ns (R171). -/
def plSym (p : Bytes) : Nat := 12800 + getAt [800, 1600, 3200, 800] (plGi p) 800

/-! ## Limits per unit (Table AIR-9) -/

/-- The largest BW code of a unit. -/
def unitBw (x : Nat) : Nat := getAt [1, 3, 4] x 0
/-- Users per plan. -/
def unitUsers (x : Nat) : Nat := getAt [32, 128, 256] x 0

/-! ## The checks of R169 -/

/-- Check 1: VERSION, reserved fields, FLAGS. -/
def planFormat (x : Nat) (p : Bytes) : Bool :=
  leAt p 0 1 == 1 && decide (leAt p 7 1 < 4) && leAt p 12 2 == 0 && decide (plAc p < 4) && leAt p 15 1 == 0 &&
    leAt p 26 2 == 0 &&
    ((List.range (min (plUsers p) (unitUsers x))).map (plUser p)).all fun u =>
      decide (uRu u < 512) && decide (leAt u 12 1 < 2) && leAt u 13 3 == 0

/-- The NSS of the users of one RU. -/
def ruNss (us : List Bytes) (ru : Nat) : Nat := ((us.filter fun u => uRu u == ru).map uNss).sum

/-- Check 5: CHAINS, GI_LTF, MCS, NSS. -/
def planPhy (p : Bytes) (us : List Bytes) : Bool :=
  decide (1 ≤ plChains p) && decide (plChains p ≤ 16) && decide (plGi p < 4) &&
    us.all (fun u => decide (1 ≤ uNss u) && decide (uNss u ≤ 16) && decide (uMcs u < 14)) &&
    (plKind p == 3 || us.all fun u => decide (ruNss us (uRu u) ≤ plChains p))

/-- The RUs named, each once. -/
def planRus (us : List Bytes) : List Nat := (us.map uRu).eraseDups

/-- No two maps of a list share a place. -/
def mapsApart : List Nat → Nat → Bool
  | [], _ => true
  | m :: t, seen => (m &&& seen) == 0 && mapsApart t (seen ||| m)

/-- Check 7: the RUs lie within BW and apart, and MU-MIMO keeps its limits. -/
def planRu (p : Bytes) (us : List Bytes) : Bool :=
  if plKind p = 1 then us.all fun u => uRu u == 0
  else
    let rus := planRus us
    rus.all (fun r => ruMap r != 0 && decide (ruMap r < 2 ^ bwPlaces (plBw p))) && mapsApart (rus.map ruMap) 0 &&
      rus.all fun r =>
        let n := (us.filter fun u => uRu u == r).length
        n == 1 || (decide (106 ≤ ruTones r) && decide (n ≤ 8))

/-- The first check that a plan fails, as its RESULT; 0 when it passes (R169). -/
def State.planCheck (s : State) (x : Nat) (window : List Nat) (p : Bytes) : Nat :=
  let us := plList p
  let k := plKind p
  if !planFormat x p then 0x10
  else if k = 0 ∨ 4 < k then 0x11
  else if (k = 1 ∧ plUsers p ≠ 1) ∨ (k = 4 ∧ plUsers p ≠ 0) ∨
      ((k = 2 ∨ k = 3) ∧ (plUsers p = 0 ∨ unitUsers x < plUsers p)) then 0x12
  else if unitBw x < plBw p then 0x13
  else if !planPhy p us then 0x14
  else if !us.all (fun u => s.offered (uQueue u) x) then 0x15
  else if !planRu p us then 0x16
  else if getAt window (plAc p) 0 * 1000 < plDuration p ∨ plDuration p ≤ plResp p then 0x17
  else 0

/-! ## Posting (R167) -/

/-- Per-chain transmit leave of a unit, mW (Table WBR-6). -/
def chainLeave (x : Nat) : Nat := getAt [150, 250, 450] x 0

/-- STANDING_CHAINS of a unit. -/
def State.standingChains (s : State) (x : Nat) : Nat := s.fg WB_CTL WB_CTL_STANDING_CHAINS [x]

/-- The address of a coefficient bank (R226). -/
def State.bankAddr (s : State) (e b : Nat) : Nat :=
  s.fg SPE_FB_BASE SPE_FB_BASE_BASE * 2 ^ 30 + 384 * 2 ^ 20 + (2 * e + b) * 131072

/-- The coefficients that stand in the bank in use of a precoder handle's entry; bytes of 0 are not listed. -/
def State.loadCoefs (s : State) (h : Nat) : List Host.Cell :=
  let a := s.bankAddr (h % 1024) (SMap.get s.spe.precs (h % 1024) {}).bank
  s.mem.filter fun c => decide (a ≤ c.1) && decide (c.1 < a + 131072)

/-- A plan whose checks have passed and whose leave is held becomes READY: the unit loads each user's coefficients and notes
the handle (R226). -/
def State.planReady (s : State) (x k : Nat) : State :=
  let p := s.pslot x k
  let hs := ((plList p.plan).map uPrec).eraseDups.filter fun h => h ≠ 0xFFFF
  (s.setPslot x k { p with st := 2, wait := false, coefs := hs.map fun h => (h, s.loadCoefs h) }).writeLe
    (s.slotAddr x k + 28) 4 1

/-- An accepted plan takes its place, and asks for full-chain leave where it needs it. -/
def State.planAccept (s : State) (x k : Nat) (p : Bytes) : State :=
  let n := (s.au x).order
  let s1 := s.setPslot x k { s.pslot x k with plan := p, order := n }
  let s2 := s1.setAu x { s1.au x with order := n + 1 }
  if plChains p ≤ s.standingChains x then s2.planReady x k
  else
    let (s3, ok) := s2.askLeave clsFullChain ((plChains p - s.standingChains x) * chainLeave x) 2 (4 * x + k)
    if ok then s3.setPslot x k { s3.pslot x k with wait := true } else s3.endPlan x k 0x18

/-- The referee has granted a plan's leave. -/
def State.planGranted (s : State) (i : Nat) : State :=
  let p := s.pslot (i / 4) (i % 4)
  if p.st = 1 ∧ p.wait then s.planReady (i / 4) (i % 4) else s.returnReq clsFullChain 2 i

/-- The referee has refused it. -/
def State.planRefused (s : State) (i : Nat) : State :=
  if (s.pslot (i / 4) (i % 4)).wait then s.endPlan (i / 4) (i % 4) 0x18 else s

/-- Check the record in a slot, and accept or refuse it. -/
def State.planVerdict (s : State) (x k : Nat) : State :=
  let a := s.slotAddr x k
  let (s1, h, bad) := s.read a 32 3
  let (s2, us, bad2) := s1.read (a + 32) (16 * min (plUsers h) (unitUsers x)) 3
  let p := h ++ us
  if bad.isSome ∨ bad2.isSome then s2.endPlan x k 0x10
  else
    let c := s2.planCheck x (s2.pslot x k).window p
    if c ≠ 0 then s2.endPlan x k c
    else if plKind p = 4 then s2.endPlan x k 6
    else s2.planAccept x k p

/-- A store to AIR_Ux_POST. -/
def State.planPost (s : State) (x : Nat) (v : Word) : State :=
  let k := AIR_U_POST_SLOT.of v
  let seq := AIR_U_POST_SEQ.of v
  let s0 := if (s.pslot x k).st = 1 ∧ (s.pslot x k).plan.isEmpty ∧ (s.pslot x k).notAfter < s.now then s.endPlan x k 4 else s
  let p := s0.pslot x k
  let mine := p.raised && p.seq % 2 ^ 24 == seq
  if mine && p.st == 1 && p.plan.isEmpty then s0.planVerdict x k
  else
    let s1 := s0.logDiscard (AIR_U_POST.addr [x])
    if mine && p.st == 0 && p.missed then s1.writeLe (s1.slotAddr x k + 28) 4 0x19 else s1

/-- PLAN_POST (R167, R169). -/
def execPlanPost (x : Nat) (who : Init) (v : Word) (s : State) : Host.Outcome State Fault Refusal :=
  .next (s.csrWrite AIR_U_POST [x] who v fun t => t.planPost x v)

end Sys2Proof.Machine
end

