-- ==== Sys2Proof/Machine/Lease.lean ====
section
/-! DEFINITION. Station contexts (R182, R183) and leases of sequence and packet numbers (R195, R200, R376). -/

namespace Sys2Proof.Machine

/-! ## Station contexts -/

/-- A word of a station context. -/
def State.cw (s : State) (n m : Nat) : Nat := (s.rg WMAC_CTX [n, m]).toNat

/-- ROLE: 0 free, 1 home, 2 link. -/
def State.ctxRole (s : State) (n : Nat) : Nat := bits (s.cw n 0) 17 16

/-- HANDLE. -/
def State.ctxHandle (s : State) (n : Nat) : Nat := bits (s.cw n 0) 15 0

/-- Write a context word; the words of a home context are mirrored (Table BND-2). -/
def State.setCw (s : State) (n m v : Nat) : State :=
  let s1 := s.wg WMAC_CTX (BitVec.ofNat 64 v) [n, m]
  if s.ctxRole n = 1 ∨ s1.ctxRole n = 1 then s1.mirror (.word n m v) else s1

/-- The words held at home only: TX_PN, SEQ, RX_PN, RX_PN_MGMT (Table WMC-3). -/
def homeWord (m : Nat) : Bool := m == 4 || m == 6 || m == 7 || (decide (16 ≤ m) && decide (m ≤ 24))

/-- A context word as it reads (R182): a free context reads 0, and the home words of a link context do. -/
def State.cwSeen (s : State) (n m : Nat) : Nat :=
  if s.ctxRole n = 0 ∨ (s.ctxRole n = 2 ∧ homeWord m) then 0 else s.cw n m

/-- Replace bits of a context word. -/
def State.setCwBits (s : State) (n m hi lo x : Nat) : State :=
  s.setCw n m (setFld (s.rg WMAC_CTX [n, m]) hi lo x).toNat

/-- This device holds a context for a handle: its index is not free and the generations agree. -/
def State.ctxFor (s : State) (handle : Nat) : Bool :=
  let n := handle % 1024
  s.ctxRole n != 0 && bits (s.ctxHandle n) 15 14 == bits handle 15 14

/-- The local indices whose context is not free. -/
def State.ctxList (s : State) : List Nat :=
  (s.csr.filterMap fun e =>
    if 0x1180000 ≤ e.1 ∧ e.1 < 0x11C0000 ∧ e.1 % 0x100 = 0 then some ((e.1 - 0x1180000) / 0x100) else none).filter
    fun n => s.ctxRole n != 0

/-- The home device of a station. -/
def State.homeDev (s : State) (n : Nat) : Nat := bits (s.ctxHandle n) 13 10

/-- The devices that hold a link of a station, each once. -/
def State.linkDevs (s : State) (n : Nat) : List Nat :=
  (([0, 1, 2].filter fun x => bitN (s.cw n 2) (8 * x + 4)).map fun x => bits (s.cw n 2) (8 * x + 3) (8 * x)).eraseDups

/-- The half word of a session: `m` is 8 for the downlink, 12 for the uplink. -/
def State.sess (s : State) (n m t : Nat) : Nat := bits (s.cw n (m + t / 2)) (32 * (t % 2) + 31) (32 * (t % 2))
/-- WS, the buffer size, and ACTIVE of a session. -/
def State.sessWs (s : State) (n m t : Nat) : Nat := bits (s.sess n m t) 11 0
def State.sessBuf (s : State) (n m t : Nat) : Nat := bits (s.sess n m t) 21 12 + 1
def State.sessOn (s : State) (n m t : Nat) : Bool := bitN (s.sess n m t) 22

/-- The device's own WS moves. -/
def State.setSessWs (s : State) (n m t ws : Nat) : State :=
  s.setCwBits n (m + t / 2) (32 * (t % 2) + 11) (32 * (t % 2)) ws

/-- Tell devices something, one after another. -/
def State.tellAll (s : State) (msg : FabMsg) : List Nat → State
  | [] => s
  | d :: t => State.tellAll (if d = s.self then s else s.fabTell d msg) msg t

/-- The home carries a downlink session's word to each link context (R183). -/
def State.carryBa (s : State) (n w : Nat) : State :=
  if s.ctxRole n = 1 then s.tellAll (.ba (s.ctxHandle n) w (s.cw n w)) (s.linkDevs n) else s

/-- One half of a BA word written by a program: WS is taken only when ACTIVE rises (R183). -/
def baHalf (old new : Nat) : Nat :=
  let ws := if bitN new 22 && !bitN old 22 then bits new 11 0 else bits old 11 0
  ws + bits new 22 12 * 4096

/-- A sta operation or a carried word writes a context word that programs may write. -/
def State.ctxProgWrite (s : State) (n m v : Nat) : State :=
  if 8 ≤ m ∧ m < 16 then
    let old := s.cw n m
    let w := baHalf (bits old 31 0) (bits v 31 0) + baHalf (bits old 63 32) (bits v 63 32) * 2 ^ 32
    let s1 := s.setCw n m w
    let s2 := if m < 12 then s1.carryBa n m else s1
    let rose := (List.range 2).filter fun h => bitN w (32 * h + 22) && !bitN old (32 * h + 22)
    if m < 12 then s2
    else
      let ks := rose.map fun h => (n * 8 + 2 * (m - 12) + h, bits w (32 * h + 11) (32 * h))
      let units := ks.flatMap fun k => [4 * k.1, 4 * k.1 + 1, 4 * k.1 + 2]
      { s2 with wmac := { s2.wmac with
          reorder := ks.foldl (fun r k => SMap.set r k.1 { wsSent := k.2 } {}) s2.wmac.reorder
          score := SMap.keep s2.wmac.score fun k => !units.contains k } }
  else s.setCw n m v

/-! ## Numbers held by this device -/

/-- HOLD in ns. -/
def State.holdNs (s : State) : Nat := s.fg WMAC_CTL WMAC_CTL_HOLD * 1000

/-- The leases held for a station and TID. -/
def State.heldLeases (s : State) (n t : Nat) : List (Nat × Lease) :=
  s.wmac.leases.filter fun e => e.2.handle % 1024 == n && e.2.tid == t

/-- The older of two leases, by packet number. -/
def olderLease (a : Nat × Lease) : Option (Nat × Lease) → Option (Nat × Lease)
  | none => some a
  | some b => if a.2.pn < b.2.pn then some a else some b

/-- The lease the next number comes from: the oldest one not recalled with numbers left. -/
def State.curLease (s : State) (n t : Nat) : Option (Nat × Lease) :=
  ((s.heldLeases n t).filter fun e => !e.2.recalled && decide (e.2.used < e.2.len)).foldr olderLease none

/-- The lowest entry that is free. -/
def freeLease : SMap Lease → Nat → Nat
  | [], n => n
  | (k, _) :: t, n => if k = n then freeLease t (n + 1) else n

/-- A lease arrives at its holder (LEASE_GRANT_RECEIVE); the table takes no more than 8,192 (R200). -/
def State.takeLease (s : State) (handle tid sn len pn : Nat) (bar : Bool) : State :=
  let l : Lease := { handle, tid, sn, len, pn, lastUse := s.now, bar }
  { s with wmac := { s.wmac with
      leases := if 8192 ≤ s.wmac.leases.length then s.wmac.leases
        else SMap.ins s.wmac.leases (freeLease s.wmac.leases 0) l
      asked := SMap.del s.wmac.asked (handle % 1024 * 8 + tid) } }

/-! ## The home's side (R195) -/

/-- SEQ of a TID. -/
def State.seqOf (s : State) (n t : Nat) : Nat := bits (s.cw n (6 + t / 4)) (16 * (t % 4) + 11) (16 * (t % 4))

/-- Set SEQ of a TID. -/
def State.setSeq (s : State) (n t v : Nat) : State :=
  s.setCwBits n (6 + t / 4) (16 * (t % 4) + 11) (16 * (t % 4)) (v % 4096)

/-- The unclosed leases of a station and TID, lowest first. -/
def State.openLeases (s : State) (n t : Nat) : List HomeLease :=
  s.wmac.granted.filter fun l => l.n == n && l.tid == t

/-- WS: the start of the lowest unclosed lease, or SEQ. -/
def State.leaseWs (s : State) (n t : Nat) : Nat :=
  match s.openLeases n t with
  | l :: _ => l.sn
  | [] => s.seqOf n t

/-- LEN of the next lease. -/
def State.leaseLen (s : State) (n t : Nat) : Nat :=
  if s.sessOn n 8 t then min (s.fg WMAC_CTL WMAC_CTL_LEASE_LEN) (s.sessBuf n 8 t) else 1

/-- The window condition. -/
def State.leaseWindow (s : State) (n t : Nat) : Bool :=
  let len := s.leaseLen n t
  decide (s.cw n 4 + len ≤ 2 ^ 48) &&
    if s.sessOn n 8 t then decide ((s.seqOf n t + len + 4096 - s.leaseWs n t) % 4096 ≤ s.sessBuf n 8 t)
    else (s.openLeases n t).isEmpty

/-- The gating by the twin's acknowledgements (R376). -/
def State.leaseGated (s : State) (n t : Nat) : Bool :=
  let st := s.bndState
  let len := s.leaseLen n t
  s.domOn .fabric &&
    (((st == bndCatchup || st == bndAttached || st == bndSplit) &&
        decide (SMap.get s.bnd.ackPn n 0 + s.fg BND_CFG BND_CFG_LEAP < s.cw n 4 + len)) ||
      (st == bndAttached &&
        decide ((if s.sessOn n 8 t then s.sessBuf n 8 t else 64) <
          (s.seqOf n t + len + 4096 - SMap.get s.bnd.ackSeq (n * 8 + t) 0) % 4096)))

/-- This device becomes a station's home and waits for its state (R196). -/
def State.moveWaits (s : State) (n : Nat) : Bool :=
  match SMap.find s.wmac.moves n with
  | some m => !m.arrived
  | none => false

/-- The home grants nothing for a station now: FENCED, a takeover's wait, or a migration's (R196, R379, R380). -/
def State.leaseStill (s : State) (n : Nat) : Bool :=
  (s.domOn .fabric && (s.bndState == bndFenced || (s.bnd.taken.contains n && s.bnd.resumeAt.isSome))) || s.moveWaits n

/-- A request can be granted now. -/
def State.grantable (s : State) (r : LeaseReq) : Bool :=
  let n := r.handle % 1024
  s.ctxRole n == 1 && !s.leaseStill n && s.leaseWindow n r.tid && !s.leaseGated n r.tid

/-- Grant a lease. -/
def State.grantTo (s : State) (r : LeaseReq) : State :=
  let n := r.handle % 1024
  let t := r.tid
  let len := s.leaseLen n t
  let sn := s.seqOf n t
  let pn := s.cw n 4
  let bar := SMap.get s.wmac.gap (n * 8 + t) false && (s.openLeases n t).isEmpty
  let l : HomeLease := { n, tid := t, dev := r.dev, sn, len, at_ := s.now }
  let s1 := (s.setSeq n t (sn + len)).setCw n 4 (pn + len)
  let s2 := { s1 with wmac := { s1.wmac with
    granted := s1.wmac.granted ++ [l]
    gap := if bar then SMap.del s1.wmac.gap (n * 8 + t) else s1.wmac.gap } }
  let s3 := s2.mirror (.lease l)
  if r.dev = s.self then s3.takeLease r.handle t sn len pn bar
  else s3.fabTell r.dev (.leaseGrant r.handle t sn len pn bar)

/-- A deferred request of the same station and TID stands before. -/
def sameTid (a b : LeaseReq) : Bool := a.handle % 1024 == b.handle % 1024 && a.tid == b.tid

/-- Grant the deferred requests that can be granted, in order; of one TID never a later one first. -/
def State.serveDeferred (s : State) : List LeaseReq → List LeaseReq → State
  | [], kept => { s with wmac := { s.wmac with deferred := kept } }
  | r :: t, kept =>
    if s.grantable r && !kept.any (sameTid r) then State.serveDeferred (s.grantTo r) t kept
    else State.serveDeferred s t (kept ++ [r])

/-- The deferred requests are tried. -/
def State.leaseRetry (s : State) : State := s.serveDeferred s.wmac.deferred []

/-- A lease request reaches its home. -/
def State.homeLease (s : State) (handle tid dev : Nat) : State :=
  let n := handle % 1024
  let r : LeaseReq := { handle, tid, dev, gated := s.leaseGated n tid && s.leaseWindow n tid }
  if s.ctxRole n ≠ 1 ∨ !s.ctxFor handle then s
  else
    let s1 := s.contest 22 n (512 + dev)
    if s1.grantable r && !s1.wmac.deferred.any (sameTid r) then s1.grantTo r
    else
      let s2 := { s1 with wmac := { s1.wmac with deferred := s1.wmac.deferred ++ [r] } }
      if r.gated then s2.bump BND_GRANT_GATED else s2.bump WMAC_LEASE_DEFERRED

/-- The holder marks the lease that starts at an SN: its next A-MPDU of the TID begins with a BlockAckReq. -/
def State.barMark (s : State) (n t sn : Nat) : State :=
  { s with wmac := { s.wmac with leases := s.wmac.leases.map fun e =>
      if e.2.handle % 1024 = n ∧ e.2.tid = t ∧ e.2.sn = sn then (e.1, { e.2 with bar := true }) else e } }

/-- The holder of the lease at WS owes a BlockAckReq, or the next grant's holder does (R195, Gaps). -/
def State.barDue (s : State) (n t : Nat) : State :=
  match s.openLeases n t with
  | l :: _ =>
    if l.dev = s.self then s.barMark n t l.sn
    else s.fabTell l.dev (.leaseBar (s.ctxHandle n) t l.sn)
  | [] => { s with wmac := { s.wmac with gap := SMap.ins s.wmac.gap (n * 8 + t) true } }

/-- SN a comes before SN b. -/
def snBefore (a b : Nat) : Bool :=
  let d := (b + 4096 - a) % 4096
  decide (1 ≤ d) && decide (d < 2048)

/-- WS has moved: holes it passed call for a BlockAckReq, the session's WS follows, and deferred requests are tried. -/
def State.wsMoved (s : State) (n t old : Nat) : State :=
  let ws := s.leaseWs n t
  let k := n * 8 + t
  let s1 :=
    if ws = old then s
    else
      let passed := s.wmac.holes.filter fun h => h.1 == k && snBefore h.2.1 ws
      let s1 := { s with wmac := { s.wmac with holes := s.wmac.holes.filter fun h => !(h.1 == k && snBefore h.2.1 ws) } }
      let s2 := if s1.sessOn n 8 t then (s1.setSessWs n 8 t ws).carryBa n (8 + t / 2) else s1
      if passed.isEmpty then s2 else s2.barDue n t
  s1.leaseRetry

/-- A closure is reported to the home; one that comes before the station's state waits for it. -/
def State.homeClose (s : State) (handle tid dev sn used : Nat) : State :=
  let n := handle % 1024
  if s.moveWaits n then { s with wmac := { s.wmac with closes := s.wmac.closes ++ [(handle, tid, dev, sn, used)] } }
  else
  match (s.openLeases n tid).find? fun l => l.sn == sn && l.dev == dev with
  | some l =>
    if s.ctxRole n ≠ 1 then s
    else
      let old := s.leaseWs n tid
      let s1 := { s with wmac := { s.wmac with
        granted := s.wmac.granted.filter fun g => g != l
        holes := if used < l.len then s.wmac.holes ++ [(n * 8 + tid, (sn + used) % 4096, l.len - used)]
                 else s.wmac.holes } }
      (s1.mirror (.unlease n tid sn)).wsMoved n tid old
  | none => s

/-! ## The holder's side -/

/-- The holder asks for a lease where it needs one (R195, Holding); the requests outstanding count as held (R200). -/
def State.leaseAsk (s : State) (n t : Nat) : State :=
  let ls := s.heldLeases n t
  let live := ls.filter fun e => !e.2.recalled
  let left := (live.map fun e => e.2.len - e.2.used).sum
  let need :=
    match live with
    | [] => !(s.aq (8 * n + t)).frames.isEmpty
    | [(_, l)] => decide (left ≤ l.len / 4)
    | _ => false
  if s.ctxRole n = 0 ∨ 2 ≤ ls.length ∨ !need ∨ (SMap.find s.wmac.asked (n * 8 + t)).isSome then s
  else if 8192 ≤ s.wmac.leases.length + s.wmac.asked.length then s.bump WMAC_LEASE_TABLE_FULL
  else
    let s1 := { s with wmac := { s.wmac with asked := SMap.ins s.wmac.asked (n * 8 + t) s.now } }
    if s.ctxRole n = 1 then s1.homeLease (s.ctxHandle n) t s.self
    else
      let (s2, st) := s1.fabSend (s.homeDev n) (.leaseReq (s.ctxHandle n) t) .none_
      if st = 0 then s2 else s

/-- A held lease closes when it may: nothing it assigned is open, and it is used up or recalled. -/
def State.leaseCheck (s : State) (i : Nat) : State :=
  match SMap.find s.wmac.leases i with
  | some l =>
    if l.live = 0 ∧ (l.used = l.len ∨ l.recalled) then
      let n := l.handle % 1024
      let s1 := { s with wmac := { s.wmac with leases := SMap.del s.wmac.leases i } }
      let s2 :=
        if s1.ctxRole n = 2 then s1.fabTell (s1.homeDev n) (.leaseClose l.handle l.tid l.sn l.used)
        else s1.homeClose l.handle l.tid s1.self l.sn l.used
      s2.leaseAsk n l.tid
    else s
  | none => s

/-- An SN of a lease is closed: acknowledged or discarded. -/
def State.closeSn (s : State) (i : Nat) : State :=
  match SMap.find s.wmac.leases i with
  | some l =>
    ({ s with wmac := { s.wmac with leases := SMap.ins s.wmac.leases i { l with live := l.live - 1 } } }).leaseCheck i
  | none => s

/-- Assign the next numbers of a station and TID: the lease's entry, the SN and the PN. -/
def State.assignSn (s : State) (n t : Nat) : Option (State × Nat × Nat × Nat) :=
  match s.curLease n t with
  | some (i, l) =>
    let l1 := { l with used := l.used + 1, live := l.live + 1, lastUse := s.now }
    some (({ s with wmac := { s.wmac with leases := SMap.ins s.wmac.leases i l1 } }).leaseAsk n t, i,
      (l.sn + l.used) % 4096, l.pn + l.used)
  | none => none

/-- A recall reaches the holder: no more numbers are assigned from the lease. -/
def State.recallHeld (s : State) (handle tid sn : Nat) : State :=
  match (s.heldLeases (handle % 1024) tid).find? fun e => e.2.sn == sn && !e.2.recalled with
  | some (i, l) =>
    (({ s with wmac := { s.wmac with leases := SMap.ins s.wmac.leases i { l with recalled := true } } }).bump
      WMAC_LEASE_RECALL).leaseCheck i
  | none => s

/-- The home recalls a lease it has granted. -/
def State.recall (s : State) (l : HomeLease) : State :=
  let s1 := { s with wmac := { s.wmac with granted := s.wmac.granted.map fun g => if g = l then { g with recalled := true } else g } }
  let h := s.ctxHandle l.n
  if l.dev = s.self then s1.recallHeld h l.tid l.sn else s1.fabTell l.dev (.leaseRecall h l.tid l.sn)

/-- Recall several leases. -/
def State.recalls (s : State) : List HomeLease → State
  | [] => s
  | l :: t => State.recalls (if l.recalled then s else s.recall l) t

/-! ## The commands -/

/-- LEASE_REQUEST (R195): a device's request reaches the home. -/
def execLeaseRequest (handle tid dev : Nat) (s : State) : Host.Outcome State Fault Refusal :=
  .next (if s.domOn .memory then s.homeLease (handle % 65536) (tid % 8) (dev % 16) else s)

/-- LEASE_GRANT_RECEIVE (R195). -/
def execLeaseGrantReceive (handle tid sn len pn : Nat) (bar : Bool) (s : State) : Host.Outcome State Fault Refusal :=
  .next (if s.domOn .memory ∧ s.ctxFor handle then s.takeLease (handle % 65536) (tid % 8) (sn % 4096) len pn bar else s)

/-- LEASE_DEFERRED_GRANT (R195): deferred requests are granted as soon as their condition holds. -/
def execLeaseDeferredGrant (s : State) : Host.Outcome State Fault Refusal :=
  .next (if s.domOn .memory then s.leaseRetry else s)

/-- LEASE_CLOSE (R195): a holder's report of a closed lease reaches the home. -/
def execLeaseClose (handle tid dev sn used : Nat) (s : State) : Host.Outcome State Fault Refusal :=
  .next (if s.domOn .memory then s.homeClose (handle % 65536) (tid % 8) (dev % 16) (sn % 4096) used else s)

/-- LEASE_RECALL (R195): while a request of the TID is deferred and its lowest unclosed lease has assigned no SN for HOLD
µs, the home recalls it. `lastUse` is the instant of the last assignment at a remote holder. -/
def execLeaseRecall (n t lastUse : Nat) (s : State) : Host.Outcome State Fault Refusal :=
  match s.openLeases n t with
  | l :: _ =>
    let used :=
      if l.dev = s.self then
        match (s.heldLeases n t).find? fun e => e.2.sn == l.sn with
        | some (_, h) => h.lastUse
        | none => l.at_
      else lastUse
    .next (if s.domOn .memory ∧ s.ctxRole n = 1 ∧ !l.recalled ∧ used + s.holdNs ≤ s.now ∧
        (s.wmac.deferred.any fun r => r.handle % 1024 == n && r.tid == t) then (s.cross 30 3).recall l else s)
  | [] => .next s

end Sys2Proof.Machine
end

