-- ==== Sys2Proof/Machine/Wtx.lean ====
section
/-! DEFINITION. Transmission (R170-R173, R185-R189, R221): channel access, trimming, MPDUs and their protection, and the end of
an exchange. -/

namespace Sys2Proof.Machine

/-- SIFS in ns. -/
def sifs : Nat := 16000

/-- A unit's state. -/
def State.wbx (s : State) (x : Nat) : Wb := SMap.get s.wb x {}
/-- Set it. -/
def State.setWbx (s : State) (x : Nat) (w : Wb) : State := { s with wb := SMap.set s.wb x w {} }
/-- The exchange in progress on a unit. -/
def State.exch (s : State) (x : Nat) : Option Exchange := SMap.get s.wmac.exch x none
/-- Set it. -/
def State.setExch (s : State) (x : Nat) (e : Option Exchange) : State :=
  { s with wmac := { s.wmac with exch := SMap.set s.wmac.exch x e none } }

/-- The front-end link of a unit is up. -/
def State.felUp (s : State) (x : Nat) : Bool := s.fg FEL_LINK_STATUS FEL_LINK_STATUS_STATE [x] == 3

/-- A unit may send (R210, R218, R379). -/
def State.maySend (s : State) (x : Nat) : Bool :=
  s.domOn (Dom.ofUnit x) && s.felUp x && s.flag WB_CTL WB_CTL_TX_LEAVE [x] &&
    !(s.domOn .fabric && s.bndState == bndFenced)

/-! ## MPDUs (R181, R189) -/

/-- The MIC bytes of a suite (Table WMC-4). -/
def suiteMic (k : Nat) : Nat := if k = 0 then 0 else if k = 1 then 8 else 16

/-- SUITE of a station. -/
def State.suite (s : State) (n : Nat) : Nat := bits (s.cw n 3) 35 32

/-- The key index that TX_KEYID names, if it is valid in the context. -/
def State.txKey (s : State) (n : Nat) : Option Nat :=
  let w := s.cw n 3
  if bitN w 26 then (if bitN w 25 then some (bits w 23 12) else none)
  else if bitN w 24 then some (bits w 11 0) else none

/-- The transmit key is valid and unspent, or none is needed (R187). -/
def State.txKeyOk (s : State) (n : Nat) : Bool :=
  s.suite n == 0 ||
    match s.txKey n with
    | some k => s.domOn .cipher && s.keyUsable k
    | none => false

/-- The length of a frame's MPDU: QoS Data header, protection header and MIC, LLC/SNAP, payload, FCS. -/
def State.mpduLen (s : State) (n : Nat) (f : Frame) : Nat :=
  let k := s.suite n
  26 + (if k = 0 then 0 else 8 + suiteMic k) + 8 + (f.len - 14) + 4

/-- A frame is too long for its station. -/
def State.oversize (s : State) (n : Nat) (f : Frame) : Bool :=
  decide (2304 < f.len - 14) || decide (min 11454 (bits (s.cw n 5) 13 0) < s.mpduLen n f)

/-- A frame's destination is a group address. -/
def State.isGroup (s : State) (f : Frame) : Bool := bitN (leAt (s.peek f) 0 1) 0

/-- The AP's address in a unit's nonces and AAD: the MLD address for an MLO station. -/
def State.apFor (s : State) (n x : Nat) : Nat := Config.apAddr (if bitN (s.cw n 0) 20 then 3 else x) % 2 ^ 48

/-- The nonce of a suite. -/
def mkNonce (suite t a2 pn : Nat) : Bytes :=
  (if suite ≤ 2 then leBytes 1 t else []) ++ beBytes 6 a2 ++ beBytes 6 pn

/-- The AAD of a QoS Data MPDU to a station. -/
def txAad (t a1 a2 : Nat) (sa : Bytes) : Bytes :=
  [0x88, 0x42] ++ beBytes 6 a1 ++ beBytes 6 a2 ++ sa ++ [0, 0] ++ leBytes 1 t ++ [0]

/-- The payload segments of a chain of pails, from a frame offset on. -/
def State.segsOf (s : State) : List Nat → Nat → List (Nat × Nat)
  | [], _ => []
  | h :: t, off =>
    let (_, start, fill) := s.link h
    if off < fill then (s.pailAddr h + start + off, fill - off) :: State.segsOf s t 0 else State.segsOf s t (off - fill)

/-- A protection descriptor (Table CPH-1) with JOB, STREAM, TAG and STATUS still 0. -/
def mkDesc (kind suite mic key payLen : Nat) (nonce aad : Bytes) (segs : List (Nat × Nat)) (progress : Nat) : Bytes :=
  slice ([1, BitVec.ofNat 8 kind, BitVec.ofNat 8 suite, BitVec.ofNat 8 mic] ++ leBytes 2 key ++
    leBytes 1 (max 1 segs.length) ++ [0] ++ leBytes 4 payLen ++ leBytes 2 aad.length ++ [0, 0] ++ slice nonce 0 16 ++
    slice aad 0 32 ++ List.replicate 32 0 ++ leBytes 4 progress ++ List.replicate 12 0 ++
    (if segs.isEmpty then leBytes 8 (2 ^ 40) else (segs.take 32).flatMap fun g => leBytes 8 (g.1 + g.2 * 2 ^ 40))) 0 512

/-- Raise an MPDU's protection job where it needs one: at its first transmission, and again after a job that ended FAIL
(R189). -/
def State.protectTx (s : State) (x : Nat) (m : Mpdu) : State × Mpdu :=
  if !m.prot then (s, m)
  else
    let again : Bool :=
      match m.job with
      | none => true
      | some j =>
        match s.jobOf j with
        | some c => c.done.isSome && c.done != some 0
        | none => true
    if !again then (s, m)
    else
      let s0 := match m.job with | some j => s.freeJob j | none => s
      let suite := s0.suite (m.q / 8)
      let d := mkDesc 1 suite (suiteMic suite) m.key (m.af.frame.len - 6) m.nonce m.aad
        (s0.segsOf (s0.chain maxChain m.af.frame.pail) 6) (m.af.frame.len - 6)
      let (s1, j) := s0.raiseJob x true d
      (s1, { m with job := j })

/-- An MPDU built from a frame taken with its numbers: its SNAP header is laid over the bytes before the EtherType (R181). -/
def State.buildMpdu (s : State) (x q : Nat) (af : AirFrame) (lease sn pn : Nat) : State × Mpdu :=
  let n := q / 8
  let t := q % 8
  let k := s.suite n
  let b := s.peek af.frame
  let a1 := if lease = 8192 then beAt b 0 6 else if bitN (s.cw n 0) 20 then s.cw n 1 % 2 ^ 48 else s.cw n (29 + x) % 2 ^ 48
  let a2 := s.apFor n x
  let m : Mpdu := {
    q, sn, pn, af, lease, handle := s.ctxHandle n, key := (s.txKey n).getD 0, prot := k != 0,
    nonce := mkNonce k t a2 pn, aad := txAad t a1 a2 (slice b 6 6), src := slice b 6 6 }
  (s.patchPails (s.chain maxChain af.frame.pail) 6 [0xAA, 0xAA, 0x03, 0, 0, 0], m)

/-- The frame of an MPDU as it was queued. -/
def State.unbuild (s : State) (m : Mpdu) : State := s.patchPails (s.chain maxChain m.af.frame.pail) 6 m.src

/-- The QoS Data header of an MPDU on a unit (R181): Frame Control, Duration, the station's and the AP's address on that link,
the source address, Sequence Control and the TID; a group frame goes to its own destination. -/
def State.mpduHdr (s : State) (x : Nat) (m : Mpdu) : Bytes :=
  let n := m.q / 8
  let a1 := if m.lease = 8192 then slice (s.peek m.af.frame) 0 6 else beBytes 6 (s.cw n (29 + x) % 2 ^ 48)
  [0x88] ++ leBytes 1 (2 + b2n (decide (1 < m.sent)) * 8 + b2n m.prot * 64) ++ leBytes 2 (Config.macDuration x s.now) ++ a1 ++
    beBytes 6 (Config.apAddr x % 2 ^ 48) ++ m.src ++ leBytes 2 (m.sn * 16) ++ leBytes 1 (m.q % 8) ++ [0]

/-- The protection header of an MPDU (R189): its PN and key ID. -/
def State.mpduSec (s : State) (m : Mpdu) : Bytes :=
  if m.prot then
    leBytes 2 (m.pn % 65536) ++ [0] ++ leBytes 1 (32 + 64 * b2n (bitN (s.cw (m.q / 8) 3) 26)) ++ leBytes 4 (m.pn / 65536)
  else []

/-- The body of an MPDU as it is modulated: LLC/SNAP, EtherType and payload, under the keystream of its job and with its TAG
(R322). -/
def State.mpduBody (s : State) (m : Mpdu) : Bytes :=
  let b := (s.peek m.af.frame).drop 6
  match m.job with
  | some j => s.protect j b
  | none => if m.prot then (List.range b.length).map (Config.lateBody m.pn) else b

/-- An MPDU's bytes as they are modulated, with its FCS, inverted where its protection is late (R181, R189). -/
def State.mpduBytes (s : State) (x : Nat) (m : Mpdu) (late : Bool) : Bytes :=
  let b := s.mpduHdr x m ++ s.mpduSec m ++ s.mpduBody m
  b ++ leBytes 4 (if late then ~~~crc32 b else crc32 b).toNat

/-- An MPDU's SN is closed and its job's slot freed. -/
def State.endMpdu (s : State) (m : Mpdu) : State :=
  let s1 := match m.job with | some j => s.freeJob j | none => s
  if m.lease = 8192 then s1 else s1.closeSn m.lease

/-- An MPDU closes, or is discarded, with its pails. -/
def State.closeMpdu (s : State) (m : Mpdu) : State := (s.dropFrame m.af.frame).endMpdu m

/-- A KEY-ended MPDU: its SN is closed and its frame returns to the head of its queue (R189). -/
def State.requeueMpdu (s : State) (m : Mpdu) : State :=
  (((s.unbuild m).endMpdu m).airUnget m.q m.af).bump WMAC_TX_KEY_REQUEUE

/-- An MPDU's job has ended KEY. -/
def State.jobKey (s : State) (m : Mpdu) : Bool :=
  match m.job with
  | some j => match s.jobOf j with | some c => c.done == some 1 | none => false
  | none => false

/-- Insert an MPDU into a list in SN order. -/
def snIns (m : Mpdu) : List Mpdu → List Mpdu
  | [] => [m]
  | a :: t => if snBefore m.sn a.sn then m :: a :: t else a :: snIns m t

/-- The MPDUs of a queue that await retransmission on this device. -/
def State.retxOf (s : State) (q : Nat) : List Mpdu := SMap.get s.wmac.retx q []
/-- Set them. -/
def State.setRetx (s : State) (q : Nat) (l : List Mpdu) : State :=
  { s with wmac := { s.wmac with retx := SMap.set s.wmac.retx q l [] } }

/-- An MPDU waits for retransmission. -/
def State.awaitRetx (s : State) (m : Mpdu) : State :=
  if s.jobKey m then s.requeueMpdu m else s.setRetx m.q (snIns m (s.retxOf m.q))

/-- An MPDU fails its exchange (R188). -/
def State.failMpdu (s : State) (m : Mpdu) : State :=
  if s.jobKey m then s.requeueMpdu m
  else if m.lease = 8192 then s.closeMpdu m
  else if s.fg WMAC_CTL WMAC_CTL_RETRY ≤ m.sent then (s.closeMpdu m).bump WMAC_TX_RETRY_FAIL
  else s.awaitRetx m

/-- Several MPDUs fail. -/
def State.failMpdus (s : State) : List Mpdu → State
  | [] => s
  | m :: t => State.failMpdus (s.failMpdu m) t

/-! ## Trimming (R171, R172, R187) -/

/-- A user's A-MPDU while it is built: its MPDUs, the last first, and its bytes with delimiters and padding. -/
structure AMpdu where
  list : List Mpdu := []
  bytes : Nat := 0
  deriving DecidableEq, Repr

/-- What trimming has chosen so far. -/
structure Trim where
  mpdus : List Mpdu := []
  bars : List (Nat × Nat × Nat) := []
  asked : List Nat := []
  symbols : Nat := 0
  served : Bool := false
  grants : List (Nat × Nat) := []
  codes : List (Nat × Coding) := []
  deriving DecidableEq, Repr

/-- The bytes of an A-MPDU with one more MPDU. -/
def ampduWith (bytes len : Nat) : Nat := ceilDiv bytes 4 * 4 + 4 + len

/-- The data symbols of an A-MPDU. -/
def ampduSymbols (p u : Bytes) (bytes : Nat) : Nat := ceilDiv (8 * bytes + 16) (userDbps p u)

/-- An MPDU of a length and SN may be added (R172, R187): for a retransmission as for a new frame. -/
def State.ampduFits (s : State) (p u : Bytes) (nmax : Nat) (a : AMpdu) (len sn : Nat) : Bool :=
  let n := uQueue u / 8
  let t := uQueue u % 8
  let on := s.sessOn n 8 t
  let b := ampduWith a.bytes len
  s.txKeyOk n && decide (b ≤ uMax u) && decide (b ≤ bits (s.cw n 5) 37 14) && userDbps p u != 0 && decide (ampduSymbols p u b ≤ nmax) &&
    decide (a.list.length + 1 ≤ if on then s.sessBuf n 8 t else 1) &&
    (!on || decide ((sn + 4096 - s.sessWs n 8 t) % 4096 < s.sessBuf n 8 t))

/-- Add one MPDU for its transmission. -/
def State.addMpdu (s : State) (x : Nat) (a : AMpdu) (m : Mpdu) (len : Nat) : State × AMpdu :=
  let (s1, m1) := s.protectTx x { m with sent := m.sent + 1, late := false }
  (s1, { list := m1 :: a.list, bytes := ampduWith a.bytes len })

/-- Take the MPDUs that await retransmission, in SN order; the Bool says that one did not fit. -/
def State.takeRetx (s : State) (x : Nat) (p u : Bytes) (nmax : Nat) (a : AMpdu) : List Mpdu → State × AMpdu × Bool
  | [] => (s, a, false)
  | m :: t =>
    let len := s.mpduLen (m.q / 8) m.af.frame
    if s.ampduFits p u nmax a len m.sn then
      let (s1, a1) := (s.setRetx m.q ((s.retxOf m.q).erase m)).addMpdu x a m len
      State.takeRetx s1 x p u nmax a1 t
    else (s, a, true)

/-- Remove the head frame of a queue as too long (R181). -/
def State.dropOversize (s : State) (q : Nat) : State :=
  match (s.aq q).frames with
  | f :: t => ((s.setAq q { s.aq q with frames := t }).dropFrame f.frame).bump WMAC_TX_OVERSIZE
  | [] => s

/-- Take new frames in queue order; the Bool says that one failed a condition. -/
def State.takeNew (s : State) (x : Nat) (p u : Bytes) (nmax : Nat) (a : AMpdu) : Nat → State × AMpdu × Bool
  | 0 => (s, a, false)
  | fuel + 1 =>
    let q := uQueue u
    let n := q / 8
    match (s.aq q).frames with
    | [] => (s, a, false)
    | f :: _ =>
      let len := s.mpduLen n f.frame
      if s.oversize n f.frame then State.takeNew (s.dropOversize q) x p u nmax a fuel
      else if !s.txKeyOk n then (s, a, true)
      else if s.isGroup f.frame then
        let pn := SMap.get s.wmac.groupPn x 1
        if s.ampduFits p u nmax a len (s.sessWs n 8 (q % 8)) then
          let s1 := { s with wmac := { s.wmac with groupPn := SMap.ins s.wmac.groupPn x (pn + 1) } }
          let (s2, _) := s1.airTake q
          let (s3, m) := s2.buildMpdu x q f 8192 (pn % 4096) pn
          let (s4, a1) := s3.addMpdu x a m len
          State.takeNew s4 x p u nmax a1 fuel
        else (s, a, true)
      else
        match s.curLease n (q % 8) with
        | none => (s.leaseAsk n (q % 8), a, true)
        | some (_, l) =>
          if s.ampduFits p u nmax a len ((l.sn + l.used) % 4096) then
            let (s1, _) := s.airTake q
            match s1.assignSn n (q % 8) with
            | some (s2, i, sn, pn) =>
              let (s3, m) := s2.buildMpdu x q f i sn pn
              let (s4, a1) := s3.addMpdu x a m len
              State.takeNew s4 x p u nmax a1 fuel
            | none => (s1, a, true)
          else (s, a, true)

/-- A precoder handle is valid for a user of a unit (R225). -/
def State.precOk (s : State) (x h n : Nat) : Bool :=
  h == 0xFFFF ||
    (let e := SMap.get s.spe.precs (h % 1024) {}
     decide (h < 16384) && e.used && e.unit == x && e.gen == h / 1024 && s.domOn .spatial && e.stas.contains n &&
       decide (s.now < e.at_ + s.fg SPE_CFG SPE_CFG_PREC_LIFE * 1000000))

/-- The coding of a user of a plan (R204): BCC for a station that shows no LDPC support. -/
def State.userCoding (s : State) (u : Bytes) : Coding := if Config.ldpc (s.ctxHandle (uQueue u / 8)) then .ldpc else .bcc

/-- BCC serves a user's RU, streams and MCS (R204). -/
def bccFits (p u : Bytes) : Bool := decide (userTones p u ≤ 242) && decide (uNss u ≤ 4) && decide (uMcs u ≤ 9)

/-- A user is omitted before its frames are looked at: its precoder, or its coding (R172, R204, R226). -/
def State.userOmit (s : State) (x : Nat) (p u : Bytes) : Bool :=
  let n := uQueue u / 8
  let first := (plList p).find? fun v => uRu v == uRu u
  let same := match first with | some v => uPrec v == uPrec u | none => true
  !same || !s.precOk x (uPrec u) n || (s.userCoding u == .bcc && !bccFits p u)

/-- The effective window of a plan for a user (R171). -/
def State.userWindow (s : State) (x k : Nat) (u : Bytes) (at_ txopEnd : Nat) : Nat :=
  let sl := s.pslot x k
  let n := uQueue u / 8
  let w := min (plDuration sl.plan) (txopEnd - at_)
  let w1 := if sl.kind = 2 then min w (s.spEnd sl.twt - at_) else w
  if s.flag AIR_STA AIR_STA_TWT_ONLY [n] then min w1 (s.spEnd (s.fg AIR_STA AIR_STA_TWT [n]) - at_) else w1

/-- N_max of a user. -/
def State.userSymbols (s : State) (x k : Nat) (u : Bytes) (at_ txopEnd : Nat) : Nat :=
  let p := (s.pslot x k).plan
  (s.userWindow x k u at_ txopEnd - Config.preamble p - Config.packetExt p - plResp p) / plSym p

/-- The uplink symbols that a trigger grants a user: none for a MAX_BYTES of 0 (Table AIR-11). -/
def ulGrant (p u : Bytes) (nmax : Nat) : Nat := if uMax u = 0 then 0 else min nmax (ampduSymbols p u (uMax u))

/-- Trim one user. -/
def State.trimUser (s : State) (x k at_ txopEnd : Nat) (t : Trim) (u : Bytes) : State × Trim :=
  let p := (s.pslot x k).plan
  let q := uQueue u
  let n := q / 8
  let s := if uPrec u = 0xFFFF then s else s.contest 19 (uPrec u % 1024) 512
  if s.userOmit x p u then (s.bump AIR_U_USERS_OMITTED [x], t)
  else
    let nmax := s.userSymbols x k u at_ txopEnd
    if plKind p = 3 then
      (s, { t with served := true, symbols := max t.symbols (ulGrant p u nmax), grants := t.grants ++ [(q, ulGrant p u nmax)],
                   codes := t.codes ++ [(q, s.userCoding u)] })
    else
      let bar := (s.heldLeases n (q % 8)).filter fun e => e.2.bar
      let a0 : AMpdu := { bytes := if bar.isEmpty then 0 else 28 }
      let (s1, a1, cut1) := s.takeRetx x p u nmax a0 (s.retxOf q)
      let (s2, a2, cut2) := if cut1 then (s1, a1, true) else s1.takeNew x p u nmax a1 (s1.aq q).frames.length
      let s3 := if cut1 || cut2 then s2.bump AIR_U_MPDU_LEFT [x] ((s2.aq q).frames.length + (s2.retxOf q).length) else s2
      if a2.list.isEmpty then (s3.bump AIR_U_USERS_OMITTED [x], t)
      else
        let s4 := { s3 with wmac := { s3.wmac with leases := s3.wmac.leases.map fun e =>
          if e.2.bar ∧ e.2.handle % 1024 = n ∧ e.2.tid = q % 8 then (e.1, { e.2 with bar := false }) else e } }
        (s4, { mpdus := t.mpdus ++ a2.list.reverse
               bars := t.bars ++ bar.map fun e => (e.2.handle, e.2.tid, e.2.sn)
               asked := if uBar u then t.asked ++ [n] else t.asked
               symbols := max t.symbols (ampduSymbols p u a2.bytes)
               served := true
               grants := t.grants
               codes := t.codes ++ [(q, s.userCoding u)] })

/-- Trim every user, in order. -/
def State.trimUsers (s : State) (x k at_ txopEnd : Nat) : List Bytes → Trim → State × Trim
  | [], t => (s, t)
  | u :: r, t =>
    let (s1, t1) := s.trimUser x k at_ txopEnd t u
    State.trimUsers s1 x k at_ txopEnd r t1

/-! ## PPDUs -/

/-- A unit is receiving: a preamble is detected, and L-SIG's duration has not run out. -/
def State.receiving (s : State) (x : Nat) : Bool :=
  let r := (s.wbx x).rx
  r.st == 1 || (r.st == 2 && decide (s.now < r.till))

/-- A reception in progress gives way to the unit's own transmission (R215). -/
def State.blankRx (s : State) (x : Nat) : State :=
  let w := s.wbx x
  if !s.receiving x then s else (s.setWbx x { w with rx := { w.rx with st := 0 } }).bump WB_RX_BLANKED [x]

/-- Each MPDU of a unit's PPDU is sent: counted for its station. -/
def State.sentMpdus (s : State) (x : Nat) : List Mpdu → State
  | [] => s
  | m :: t =>
    let n := m.q / 8
    State.sentMpdus (s.setCw n 25 ((s.cw n 25 + 1) % 2 ^ 64)) x t

/-- The ramp time of a profile in units of 50 ns (Table WBR-5). -/
def rampUnits (p : Nat) : Nat := getAt [7, 14, 28, 56] p 0

/-- The instant at which PA_EN falls after a PPDU. -/
def Burst.fall (b : Burst) : Nat := b.till + (rampUnits b.prof + b.lag) * 50

/-- A PPDU of a length on some chains is placed for instant P (R217): its samples leave the balls at P - TXDLY, with the ramp in
force now. -/
def State.placePpdu (s : State) (x p len chains : Nat) : State :=
  let w := s.wbx x
  let at_ := p - s.fg WB_TXRAMP WB_TXRAMP_TXDLY [x] * 5
  let b : Burst := ⟨at_, at_ + len, s.fg WB_TXRAMP WB_TXRAMP_PA_LEAD [x], s.fg WB_TXRAMP WB_TXRAMP_PROFILE [x],
    s.fg WB_TXRAMP WB_TXRAMP_PA_LAG [x], chains⟩
  s.setWbx x { w with bursts := (w.bursts.filter fun c => decide (s.now < c.fall)) ++ [b] }

/-- A PPDU being sent ends here, and its ramp-down starts at once (R211, R217); one not begun is not sent. -/
def State.cutBursts (s : State) (x : Nat) : State :=
  let w := s.wbx x
  s.setWbx x { w with bursts := (w.bursts.filter fun b => decide (b.at_ ≤ s.now)).map fun b =>
    { b with till := min b.till s.now } }

/-- Samples of a unit's own PPDU are leaving the balls. -/
def State.sending (s : State) (x : Nat) : Bool := (s.wbx x).bursts.any fun b => decide (b.at_ ≤ s.now) && decide (s.now < b.till)

/-- The length of a plan's PPDU: a trigger's is its own, and otherwise preamble, data symbols and packet extension. -/
def planAir (p : Bytes) (symbols : Nat) : Nat :=
  if plKind p = 3 then Config.triggerAir p else Config.preamble p + symbols * plSym p + Config.packetExt p

/-- The PPDU of an exchange starts: it is placed at the exchange's P, counted, and its MPDUs are sent. -/
def State.startPpdu (s : State) (x : Nat) (p : Bytes) (e : Exchange) : State :=
  let chains := if plKind p = 3 then s.standingChains x else plChains p
  ((s.placePpdu x e.start (planAir p e.symbols) chains).bump WB_TX_PPDU [x]).sentMpdus x e.mpdus

/-- Use a plan at an instant: trim it and start its PPDU, or end it ALL_OMITTED. With PROTECT an RTS or MU-RTS goes first,
and the PPDU, moved behind it, waits for the CTS (R168). The Bool says that the plan is used. -/
def State.usePlan (s : State) (x k at_ txopEnd : Nat) (sound : Option Sound) : State × Bool :=
  let sl := s.pslot x k
  let pr := plProtect sl.plan
  let start := at_ + if pr then Config.protectAir sl.plan else 0
  let s0 := s.cross 29 x
  let (s1, t) := s0.trimUsers x k start txopEnd (plList sl.plan) {}
  if !t.served then (s1.endPlan x k 5, false)
  else
    let s2 := (s1.setPslot x k { s1.pslot x k with st := 3 }).writeLe (s1.slotAddr x k + 28) 4 2
    let e : Exchange := {
      slot := some k, ac := plAc sl.plan, start, txopEnd, mpdus := t.mpdus, bars := t.bars, asked := t.asked,
      symbols := t.symbols, sound := sound.map Sound.addr, sndNeed := match sound with | some r => r.need | none => 0,
      rts := pr, grants := t.grants, codes := t.codes, coefs := sl.coefs }
    let s3 := s2.blankRx x
    let s4 := if pr then (s3.placePpdu x at_ (Config.rtsAir sl.plan) (s3.standingChains x)).bump WB_TX_PPDU [x] else s3.startPpdu x sl.plan e
    (s4.setExch x (some e), true)

/-- Insert a slot into a list by the place of its plan in acceptance order. -/
def State.planIns (s : State) (x k : Nat) : List Nat → List Nat
  | [] => [k]
  | b :: t => if (s.pslot x k).order < (s.pslot x b).order then k :: b :: t else b :: State.planIns s x k t

/-- The READY plans of an AC whose TX_AT has passed, in the order accepted (R170). -/
def State.readyPlans (s : State) (x ac at_ : Nat) : List Nat :=
  ((List.range 4).filter fun k =>
    let p := s.pslot x k
    p.st == 2 && plAc p.plan == ac && decide (plTxAt p.plan ≤ at_) && decide (s.now < p.notAfter)).foldr (s.planIns x) []

/-- The READY plan of an AC whose TX_AT has passed and that was accepted first (R170). -/
def State.readyPlan (s : State) (x ac at_ : Nat) : Option Nat := (s.readyPlans x ac at_).head?

/-! ## Channel access (R185) -/

/-- An AC's backoff. -/
def State.edcaOf (s : State) (x a : Nat) : Edca := SMap.get s.wmac.edca (4 * x + a) {}
/-- Set it. -/
def State.setEdca (s : State) (x a : Nat) (e : Edca) : State :=
  { s with wmac := { s.wmac with edca := SMap.set s.wmac.edca (4 * x + a) e {} } }

/-- The contention window in force. -/
def State.cwOf (s : State) (x a : Nat) : Nat :=
  let least := 2 ^ s.fg WMAC_EDCA WMAC_EDCA_ECWMIN [x, a] - 1
  match (s.edcaOf x a).cw with
  | some c => min (max c least) (2 ^ s.fg WMAC_EDCA WMAC_EDCA_ECWMAX [x, a] - 1)
  | none => least

/-- Double the window, as after a failed exchange, and draw again. -/
def State.cwDouble (s : State) (x a : Nat) : State :=
  s.setEdca x a { counter := none, cw := some (min (2 * s.cwOf x a + 1) (2 ^ s.fg WMAC_EDCA WMAC_EDCA_ECWMAX [x, a] - 1)) }

/-- CCA of a 20 MHz subchannel is busy (R216): a detected PPDU of PD_LVL or more covers it, its energy is at or above ED_LVL,
or R213 holds it; a punctured one never is. -/
def State.ccaBusyAt (s : State) (x sub : Nat) : Bool :=
  let r := (s.wbx x).rx
  ((s.receiving x && bitN r.cover sub) || bitN r.busy sub || (decide (s.now < r.holdTill) && bitN r.hold sub)) &&
    !bitN (Config.punctured x) sub

/-- CCA of the primary subchannel is busy. -/
def State.ccaBusy (s : State) (x : Nat) : Bool := s.ccaBusyAt x 0

/-- The instant since which an idle primary subchannel has been idle: its energy's fall, and the ends by L-SIG of a PPDU that
covered it and of R213's hold. -/
def Rx.idleSince (r : Rx) : Nat :=
  max (max r.idleAt (if bitN r.hold 0 then r.holdTill else 0)) (if r.st = 2 ∧ bitN r.cover 0 then r.till else 0)

/-- AIFSN of an AC: the one in force since its draw, or, before a draw, the register's (R185). -/
def State.aifsnOf (s : State) (x a : Nat) : Nat :=
  let e := s.edcaOf x a
  if e.counter.isSome then e.aifsn else s.fg WMAC_EDCA WMAC_EDCA_AIFSN [x, a]

/-- An AC may count down: a READY plan whose TX_AT has passed, and an idle medium since AIFS. -/
def State.mayContend (s : State) (x a : Nat) : Bool :=
  (s.readyPlan x a s.now).isSome && !s.ccaBusy x &&
    decide ((s.wbx x).rx.idleSince + sifs + s.aifsnOf x a * 9000 ≤ s.now)

/-- One slot of one AC: its counter is drawn if it has none, under the register's present fields, and counts down; the Bool
says that it has reached 0. -/
def State.slotAc (s : State) (x a draw : Nat) : State × Bool :=
  if s.mayContend x a then
    let e := s.edcaOf x a
    let c := e.counter.getD (draw % (s.cwOf x a + 1))
    let e1 := { e with counter := some (c - 1), aifsn := s.aifsnOf x a }
    (s.setEdca x a e1, c == 0)
  else (s, false)

/-- The length of part i of a sounding exchange: NDPA, NDP, BFRP. -/
def sndPart (b : Bytes) (i : Nat) : Nat := Config.soundingAir i (leAt b 3 1) (leAt b 4 1) (leAt b 2 1)

/-- The length of a sounding exchange (R221). -/
def State.soundLen (s : State) (a : Nat) : Nat :=
  let b := s.bytes a 64
  sndPart b 0 + sndPart b 1 + sndPart b 2 + leAt b 6 2 * 1000 + 3 * sifs

/-- The oldest pending record of an AC, if its leave is held. -/
def State.soundReady (s : State) (x a : Nat) : Option Sound :=
  match (s.wbx x).sounds.find? fun r => r.ac == a with
  | some r => if (r.need = 0 ∨ r.held) ∧ s.now < r.till then some r else none
  | none => none

/-- A sounding exchange begins: NDPA, NDP and trigger are placed, SIFS apart; its record is no longer pending. -/
def State.startSound (s : State) (x : Nat) (r : Sound) : State :=
  let w := s.wbx x
  let b := s.bytes r.addr 64
  let at1 := s.now + sndPart b 0 + sifs
  let s1 := (s.setWbx x { w with sounds := w.sounds.filter fun y => y != r }).blankRx x
  let k := s.standingChains x
  (((s1.placePpdu x s.now (sndPart b 0) k).placePpdu x at1 (sndPart b 1) (leAt b 4 1)).placePpdu x
    (at1 + sndPart b 1 + sifs) (sndPart b 2) k).bump WB_TX_PPDU [x] 3

/-- The winner of a slot uses its plan or its sounding record; its window stays until its exchange has ended. -/
def State.winSlot (s : State) (x a : Nat) : State :=
  let s0 := s.setEdca x a { s.edcaOf x a with counter := none }
  let lim := s.fg WMAC_EDCA WMAC_EDCA_TXOP [x, a] * 32000
  let txopEnd := s.now + s.acWindow x a * 1000
  match s0.readyPlan x a s0.now with
  | none => s0
  | some k =>
    match s0.soundReady x a with
    | some r =>
      if lim = 0 then (s0.startSound x r).setExch x (some { ac := a, start := s.now, txopEnd, sound := some r.addr, sndNeed := r.need })
      else
        let t := s0.soundLen r.addr + sifs
        if t + plDuration (s0.pslot x k).plan ≤ lim then
          let s1 := s0.startSound x r
          let (s2, sent) := s1.usePlan x k (s.now + t) txopEnd (some r)
          if sent then s2 else s2.setExch x (some { ac := a, start := s.now, txopEnd, sound := some r.addr, sndNeed := r.need })
        else (s0.usePlan x k s.now txopEnd none).1
    | none => (s0.usePlan x k s.now txopEnd none).1

/-- The losers of an internal collision double their windows. -/
def State.losers (s : State) (x : Nat) : List Nat → State
  | [] => s
  | a :: t => State.losers (s.cwDouble x a) x t

/-- BACKOFF_SLOT_DECISION (R185, R170): each contending AC counts down by one slot; of those that reach 0 the highest
wins. `draws` are the numbers drawn for the ACs that have no counter. -/
def execBackoffSlotDecision (x : Nat) (draws : List Nat) (s : State) : Host.Outcome State Fault Refusal :=
  if decide (x < 3) && s.maySend x && (s.exch x).isNone then
    let (s0, w0) := s.slotAc x 0 (getAt draws 0 0)
    let (s1, w1) := s0.slotAc x 1 (getAt draws 1 0)
    let (s2, w2) := s1.slotAc x 2 (getAt draws 2 0)
    let (s3, w3) := s2.slotAc x 3 (getAt draws 3 0)
    let won := ([(3, w3), (2, w2), (1, w1), (0, w0)].filter Prod.snd).map Prod.fst
    match won with
    | a :: rest => .next ((s3.losers x rest).winSlot x a)
    | [] => .next s3
  else .next s

/-! ## Modulation, responses and the end of the exchange -/

/-- The i-th MPDU of an exchange leaves it. -/
def State.dropFromExch (s : State) (x i : Nat) : State :=
  match s.exch x with
  | some e => s.setExch x (some { e with mpdus := e.mpdus.eraseIdx i })
  | none => s

/-- An MPDU's first byte is due: it is modulated, and the scorebook's CHECK takes it. One with an uncorrectable word goes with its
FCS inverted, and is discarded and closed (Table MEM-4); one whose protection is not complete goes so too and stays (R189). -/
def State.modulate (s : State) (x i : Nat) (m : Mpdu) : State :=
  let (s1, _, bad) := s.frameBytes m.af.frame
  if bad.isSome then (((s1.bump MEM_UE_FRAME).egress 2 (s1.mpduBytes x m true)).dropFromExch x i).closeMpdu m
  else
    let (s2, ok) := match m.job with | some j => s1.jobTake j (m.af.frame.len - 6) | none => (s1, !m.prot)
    let s3 := s2.egress 2 (s2.mpduBytes x m !ok)
    if ok then s3
    else
      let s4 := s3.bump WMAC_TX_CIPHER_LATE
      if s4.jobKey m then (s4.dropFromExch x i).requeueMpdu m
      else
        match s4.exch x with
        | some e => s4.setExch x (some { e with mpdus := setAt e.mpdus i { m with late := true } })
        | none => s4

/-- MPDU_MODULATION_START (R189): the first byte of the i-th MPDU is due. -/
def execMpduModulationStart (x i : Nat) (s : State) : Host.Outcome State Fault Refusal :=
  match s.exch x with
  | some e =>
    match e.mpdus[i]? with
    | some m => .next (if e.rts then s else s.modulate x i m)
    | none => .next s
  | none => .next s

/-- Close the acknowledged MPDUs of a list. -/
def State.closeMpdus (s : State) : List Mpdu → State
  | [] => s
  | m :: t => State.closeMpdus (s.closeMpdu m) t

/-- An acknowledgement covers an MPDU. -/
def ackCovers (q : Nat) (sns : List Nat) (m : Mpdu) : Bool :=
  m.q == q && sns.contains m.sn && !m.late && m.lease != 8192

/-- A CTS answers a unit's RTS or MU-RTS: the PPDU goes (R168). -/
def State.ctsIn (s : State) (x : Nat) : State :=
  match s.exch x with
  | some e =>
    match e.rts, e.slot with
    | true, some k => let e1 := { e with rts := false }; (s.startPpdu x (s.pslot x k).plan e1).setExch x (some e1)
    | _, _ => s
  | none => s

/-- The CTS of an exchange has not come: its PPDU is not sent, and its MPDUs wait for a transmission that has not been one. -/
def State.ctsLost (s : State) (x : Nat) (e : Exchange) : State :=
  e.mpdus.foldl (fun (t : State) m => t.awaitRetx { m with sent := m.sent - 1 })
    (s.setExch x (some { e with rts := false, mpdus := [], asked := [], failed := true }))

/-- ACK_RESPONSE_RECEIVE (R188): an Ack or BlockAck of a station closes the MPDUs it acknowledges. -/
def execAckResponseReceive (x n t : Nat) (sns : List Nat) (s : State) : Host.Outcome State Fault Refusal :=
  let q := 8 * n + t
  if s.deaf then .next s else
  let (done1, s1) :=
    match s.exch x with
    | some e =>
      (e.mpdus.filter (ackCovers q sns),
        s.setExch x (some { e with mpdus := e.mpdus.filter fun m => !ackCovers q sns m, asked := e.asked.filter fun k => k ≠ n }))
    | none => ([], s)
  let done2 := (s1.retxOf q).filter (ackCovers q sns)
  .next ((s1.setRetx q ((s1.retxOf q).filter fun m => !ackCovers q sns m)).closeMpdus (done1 ++ done2))

/-- ACK_TIMEOUT (R188): the stations whose response was asked for and has not come fail their exchange; so does one whose CTS
has not come. -/
def execAckTimeout (x : Nat) (s : State) : Host.Outcome State Fault Refusal :=
  match s.exch x with
  | some e =>
    if e.rts then .next (s.ctsLost x e)
    else if e.asked.isEmpty then .next s
    else
      let bad := e.mpdus.filter fun m => e.asked.contains (m.q / 8)
      .next ((s.setExch x (some { e with
        mpdus := e.mpdus.filter (fun m => !e.asked.contains (m.q / 8)), asked := [], failed := true })).failMpdus bad)
  | none => .next s

/-- Ask the referee for a unit's standing leave, of the amount for the current STANDING_CHAINS; refused at once, TX_EN
returns to 0 (R218). -/
def State.askStanding (s : State) (x : Nat) : State :=
  let (s1, ok) := s.askLeave clsStanding (s.standingChains x * chainLeave x) 1 x
  if ok then s1.setWbx x { s1.wbx x with txAsk := true }
  else (s1.fs WB_CTL WB_CTL_TX_EN 0 [x]).logEv (0x12 + x) 0x02 0 0

/-- Standing leave whose return waited for the PPDU in progress is returned; TX_EN written 1 meanwhile asks anew (R218). -/
def State.txRelease (s : State) (x : Nat) : State :=
  let w := s.wbx x
  if w.txOff then
    let s1 := ((s.setWbx x { w with txOff := false }).returnReq clsStanding 1 x).fs WB_CTL WB_CTL_TX_LEAVE 0 [x]
    if s1.flag WB_CTL WB_CTL_TX_EN [x] then s1.askStanding x else s1
  else s

/-- One full-chain grant of a unit's soundings, by its amount. -/
def sndLeave (x need : Nat) (l : Leave) : Bool := l.cls == clsFullChain && l.req == 1 && l.index == x && l.amount == need

/-- A sounding record ends with a STATUS code, bytes 48-63 before STATUS, and its leave is returned or asked no more (R220,
R221). -/
def State.endSound (s : State) (x a code stored need : Nat) : State :=
  let s1 := ((s.write (a + 48) (leBytes 8 s.now ++ leBytes 8 0)).1).writeLe (a + 12) 4 (code + stored * 65536)
  let p := s1.pwr
  let held := p.grants.any fun e => sndLeave x need e.2
  let s2 :=
    if need = 0 then s1
    else if held then { s1 with pwr := { p with grants := p.grants.eraseP fun e => sndLeave x need e.2 } }
    else { s1 with pwr := { p with queue := p.queue.eraseP (sndLeave x need) } }
  if code = 1 then s2.bump WB_SND_DONE [x] else if code = 2 then s2.bump WB_SND_EXPIRED [x] else s2

/-- The access of a unit is over: the medium is idle from now, and the AC draws afresh, with a doubled window after a
failed exchange. -/
def State.endAccess (s : State) (x : Nat) (e : Exchange) : State :=
  let s1 := if e.failed then s.cwDouble x e.ac else s.setEdca x e.ac {}
  let w := s1.wbx x
  ((s1.setWbx x { w with rx := { w.rx with idleAt := s1.now } }).setExch x none).txRelease x

/-- A record that ran ends: reports that have not come are missing (R221, R222). -/
def State.soundDone (s : State) (x : Nat) (e : Exchange) (a : Nat) : State :=
  let n := leAt (s.bytes a 64) 2 1
  let missing := ((List.range n).filter fun i => !bitN e.sndSeen i).length
  (s.bump WB_FB_MISSING [x] missing).endSound x a 1 e.sndStored e.sndNeed

/-- The sounding part of an exchange ends. -/
def State.soundOver (s : State) (x : Nat) (e : Exchange) (a : Nat) : State :=
  let s1 := s.soundDone x e a
  let e1 := { e with sound := none, sndNeed := 0, sndStored := 0, sndSeen := 0 }
  if e.slot.isNone then s1.endAccess x e1 else s1.setExch x (some e1)

/-- The effective window of a plan covers its PPDU with at least one data symbol, and its responses. -/
def State.planCovers (s : State) (x k at_ txopEnd : Nat) : Bool :=
  (plList (s.pslot x k).plan).any fun u => decide (0 < s.userSymbols x k u at_ txopEnd)

/-- A READY plan continues the TXOP. -/
def State.continueWith (s : State) (x : Nat) (e : Exchange) (k : Nat) : State :=
  let (s1, sent) := s.usePlan x k (s.now + sifs) e.txopEnd none
  if sent then s1 else s1.endAccess x e

/-- The plan's exchange ends (R170): the plan is SENT, what is not acknowledged waits for retransmission, and MORE continues
the TXOP with the first READY plan of the AC, as accepted, whose window covers it. Leave to be returned is returned first
(R218). -/
def State.planOver (s : State) (x : Nat) (e : Exchange) (k : Nat) : State :=
  let more := plMore (s.pslot x k).plan && s.fg WMAC_EDCA WMAC_EDCA_TXOP [x, e.ac] != 0
  let s1 := (((s.setExch x none).failMpdus e.mpdus).endPlan x k 3).txRelease x
  if more && s1.maySend x then
    match (s1.readyPlans x e.ac (s1.now + sifs)).find? fun j => s1.planCovers x j (s1.now + sifs) e.txopEnd with
    | some j => s1.continueWith x e j
    | none => s1.endAccess x e
  else s1.endAccess x e

/-- Frames delivered on a station's poll or trigger end their exchange; no backoff was spent on them. -/
def State.pollOver (s : State) (x : Nat) (e : Exchange) : State :=
  let s1 := (s.setExch x none).failMpdus e.mpdus
  let w := s1.wbx x
  (s1.setWbx x { w with rx := { w.rx with idleAt := s1.now } }).txRelease x

/-- PPDU_END (R170, R221): the exchange in progress on a unit ends. -/
def execPpduEnd (x : Nat) (s : State) : Host.Outcome State Fault Refusal :=
  match s.exch x with
  | some e =>
    match e.sound, e.slot with
    | some a, _ => .next (s.soundOver x e a)
    | none, some k => .next (s.planOver x e k)
    | none, none => .next (s.pollOver x e)
  | none => .next s

/-- A PPDU being sent is aborted (R211, R217): its exchange ends there. -/
def State.abortTx (s : State) (x : Nat) : State :=
  match s.exch x with
  | some e =>
    let s0 := (s.cutBursts x).setExch x none
    let s1 := match e.sound with | some a => s0.soundDone x e a | none => s0
    let s2 := if e.rts then s1.ctsLost x e |>.setExch x none else s1.failMpdus e.mpdus
    let s3 := match e.slot with | some k => s2.endPlan x k 3 | none => s2
    s3.endAccess x { e with failed := true }
  | none => s

/-- Plans of a unit end EXPIRED, one after another. -/
def State.expirePlans (s : State) (x : Nat) : List Nat → State
  | [] => s
  | k :: t => State.expirePlans (if (s.pslot x k).st = 0 then s else s.endPlan x k 4) x t

/-- A unit's domain leaves on (R170, R221): a sounding that ran ends DONE, the unit's plans end EXPIRED, and MPDUs in flight
wait for retransmission on another unit. -/
def State.airUnitDown (s : State) (x : Nat) : State :=
  let s1 :=
    match s.exch x with
    | some e =>
      let s0 := s.setExch x none
      let s1 := match e.sound with | some a => s0.soundDone x e a | none => s0
      e.mpdus.foldl (fun (t : State) m => t.awaitRetx m) s1
    | none => s
  s1.expirePlans x [0, 1, 2, 3]

/-! ## Frames delivered on a station's poll or trigger (R179) -/

/-- The plan that such frames go by: one user at MCS 0, one stream and one chain of 20 MHz (DESIGN CHOICE, assumption 150). -/
def pollPlan : Bytes := [1, 1, 1, 0, 0, 1, 0, 0] ++ leBytes 4 5484 ++ List.replicate 20 0
/-- Its user. -/
def pollUser (q : Nat) : Bytes := leBytes 2 q ++ [0, 0, 0, 1] ++ leBytes 2 0xFFFF ++ leBytes 4 0xFFFFFFFF ++ leBytes 4 1

/-- The TIDs, the highest priority first. -/
def tidOrder : List Nat := [7, 6, 5, 4, 3, 0, 2, 1]

/-- Up to `max` frames of the first queue of a station that holds some and whose TID passes a test go to it at an instant,
outside the plans, where the unit is free to send. -/
def State.pollServe (s : State) (x n max start : Nat) (ok : Nat → Bool) : State :=
  match tidOrder.find? fun t => ok t && !(s.aq (8 * n + t)).frames.isEmpty && bitN (s.qUnits (8 * n + t)) x with
  | some t =>
    if s.maySend x && (s.exch x).isNone then
      let nmax := (5484000 - Config.preamble pollPlan - Config.packetExt pollPlan) / plSym pollPlan
      let (s1, a, _) := s.takeNew x pollPlan (pollUser (8 * n + t)) nmax {} max
      if a.list.isEmpty then s1
      else
        let e : Exchange := { start, txopEnd := start + 5484000, mpdus := a.list.reverse, asked := [n],
                              symbols := ampduSymbols pollPlan (pollUser (8 * n + t)) a.bytes }
        (s1.startPpdu x pollPlan e).setExch x (some e)
    else s
  | none => s

/-! ## Enqueue (R149, R156, R157, R194) -/

/-- AIR_ENQUEUE (R156): an enq.air, or a renq that names this device, reaches the enqueue arbiter. -/
def execAirEnqueue (op : Nat) (s : State) : Host.Outcome State Fault Refusal :=
  match s.readyOp op with
  | some o =>
    let go (handle tid : Nat) : State :=
      let q := 8 * (handle % 1024) + tid
      let s1 := s.contest 4 (q % 8192) (o.ctx % 512)
      let st := s1.airStatus handle tid
      match o.frame with
      | some f =>
        if st = 0 then ((s1.airPut q f).leaseAsk (handle % 1024) tid).answerOp op o 0 0 false
        else s1.answerOp op o st 0 true
      | none => s1.answerOp op o esRefused 0 true
    match o.kind with
    | .enqAir handle tid => .next (go handle tid)
    | .renq handle tid dev => .next (if dev = s.self then go handle tid else s)
    | _ => .next s
  | none => .next s

end Sys2Proof.Machine
end

