-- ==== Sys2Proof/Machine/Wrx.lean ====
section
/-! DEFINITION. Reception (R181, R190-R193): the received MPDU's fields, scoreboards, replay and reorder, conversion; and
migrations of a station's home (R196). -/

namespace Sys2Proof.Machine

/-! ## The MPDU on the air (IEEE 802.11 frame formats) -/

def fcType (b : Bytes) : Nat := bits (leAt b 0 1) 3 2
def fcSub (b : Bytes) : Nat := bits (leAt b 0 1) 7 4
/-- Flags of the second byte: 0 To DS, 1 From DS, 3 Retry, 4 Power Management, 6 Protected, 7 +HTC. -/
def fcFlag (b : Bytes) (i : Nat) : Bool := bitN (leAt b 1 1) i
/-- A Data frame with a QoS Control field. -/
def isQos (b : Bytes) : Bool := fcType b == 2 && bitN (fcSub b) 3
/-- The offset of the QoS Control field. -/
def qosOff (b : Bytes) : Nat := if fcFlag b 0 && fcFlag b 1 then 30 else 24
/-- The MAC header's length. -/
def hdrLen (b : Bytes) : Nat :=
  (if fcType b = 2 then qosOff b + (if isQos b then 2 else 0) else 24) + (if fcFlag b 7 && fcType b != 1 then 4 else 0)
def mpTid (b : Bytes) : Nat := if isQos b then leAt b (qosOff b) 1 % 8 else 0
def mpSn (b : Bytes) : Nat := leAt b 22 2 / 16
def mpAmsdu (b : Bytes) : Bool := isQos b && bitN (leAt b (qosOff b) 1) 7

/-- The receive AAD of an MPDU (IEEE 802.11: the changing bits masked). -/
def rxAad (b : Bytes) (a1 a2 : Nat) : Bytes :=
  let fc0 := leAt b 0 1
  leBytes 1 (if fcType b = 2 then bits fc0 7 7 * 128 + bits fc0 3 0 else fc0) ++ leBytes 1 (64 + bits (leAt b 1 1) 2 0) ++
    beBytes 6 a1 ++ beBytes 6 a2 ++ slice b 16 6 ++ leBytes 2 (leAt b 22 1 % 16) ++
    (if qosOff b = 30 ∧ fcType b = 2 then slice b 24 6 else []) ++ (if isQos b then leBytes 1 (mpTid b) ++ [0] else [])

/-- The PN and key ID of a protection header. -/
def mpPn (h : Bytes) : Nat := leAt h 0 2 + leAt h 4 4 * 65536
def mpKeyId (h : Bytes) : Nat := bits (leAt h 3 1) 7 6

/-! ## Conversion and delivery (R181, R377) -/

/-- One MSDU as an Ethernet II frame: LLC/SNAP removed. -/
def msduFrame (da sa body : Bytes) : Bytes :=
  if slice body 0 6 = [0xAA, 0xAA, 0x03, 0, 0, 0] ∨ slice body 0 6 = [0xAA, 0xAA, 0x03, 0, 0, 0xF8] then
    da ++ sa ++ body.drop 6
  else da ++ sa ++ beBytes 2 body.length ++ body

/-- The subframes of an A-MSDU, at most `n`. -/
def amsduFrames (b : Bytes) : Nat → List Bytes
  | 0 => []
  | n + 1 =>
    if b.length < 14 then []
    else
      let len := beAt b 12 2
      msduFrame (slice b 0 6) (slice b 6 6) ((b.drop 14).take len) :: amsduFrames (b.drop (ceilDiv (14 + len) 4 * 4)) n

/-- The Ethernet frames of a received MPDU's body; an MSDU over 2,304 bytes is not one (R180). -/
def RxMpdu.frames (m : RxMpdu) (body : Bytes) : List Bytes :=
  (if m.amsdu then amsduFrames body 64 else [msduFrame m.da m.sa body]).filter fun b => decide (b.length ≤ 14 + 2304)

/-- A converted frame goes to the skimmer; while ATTACHED it waits for the twin's acknowledgement of its RX_PN. -/
def State.deliver (s : State) (wait : Bool) (f : Frame) : State :=
  if wait && s.domOn .fabric && s.bndState == bndAttached then
    { s with bnd := { s.bnd with held := s.bnd.held ++ [(s.bnd.next - 1, s.now, f)] } }
  else s.skmEnter 3 f

/-- Deliver converted frames in order, as far as pails are free; those left wait for pails, since their MPDU has been
acknowledged (R198). -/
def State.drainOut (s : State) : List (Nat × Bool × Bytes) → State
  | [] => { s with wmac := { s.wmac with out := [] } }
  | (unit, wait, b) :: t =>
    match s.storeFrame (512 + unit) b with
    | some (s1, hs) =>
      State.drainOut (s1.deliver wait { pail := getAt hs 0 0, len := b.length, source := 2 * 4096 + unit }) t
    | none => { s with wmac := { s.wmac with out := (unit, wait, b) :: t } }

/-- Deliver the frames of an MPDU behind those that wait. -/
def State.deliverAll (s : State) (unit : Nat) (wait : Bool) (l : List Bytes) : State :=
  s.drainOut (s.wmac.out ++ l.map fun b => (unit, wait, b))

/-- The management context receives a management frame, unconverted. -/
def State.mgmtFrame (s : State) (m : RxMpdu) : State :=
  s.raise { typ := 1, pinned := some (s.fg WMAC_MGMT WMAC_MGMT_CTX), source := 2 * 4096 + m.unit, length := m.frame.len,
            frame := some { m.frame with source := 2 * 4096 + m.unit, flags := 1 } }

/-- Return the pails of a received MPDU. -/
def State.freeRx (s : State) (m : RxMpdu) : State :=
  let s1 := if m.stored then s.freeFrame m.frame else s
  match m.job with | some j => s1.freeJob j | none => s1

/-! ## Key IDs (R190) -/

/-- What the key ID of a protected MPDU says here: true for a superseded key. `slot` is the station's index at the receiving
device, and that + 1024 at home. The first frame under the other key ID makes it the current one. -/
def State.keyTurn (s : State) (slot keyId : Nat) : State × Bool × Bool :=
  let put (v : Nat) : State := { s with wmac := { s.wmac with keySeen := SMap.ins s.wmac.keySeen slot v } }
  match SMap.find s.wmac.keySeen slot with
  | none => (put keyId, false, false)
  | some v => if v % 4 = keyId then (s, false, false) else if 4 ≤ v then (s, true, false) else (put (4 + keyId), false, true)

/-! ## Reorder at home (R190, R191) -/

/-- A reorder buffer. -/
def State.reorderOf (s : State) (n t : Nat) : Reorder := SMap.get s.wmac.reorder (n * 8 + t) {}
/-- Set it. -/
def State.setReorder (s : State) (n t : Nat) (r : Reorder) : State :=
  { s with wmac := { s.wmac with reorder := SMap.set s.wmac.reorder (n * 8 + t) r {} } }

/-- Set RX_PN of every TID to 0. -/
def State.zeroRxPn (s : State) (n : Nat) : Nat → State
  | 0 => s
  | k + 1 => State.zeroRxPn (s.setCw n (16 + k) 0) n k

/-- Release one MPDU: the replay check, then conversion. -/
def State.release (s : State) (n : Nat) (m : RxMpdu) : State :=
  let s0 :=
    if m.prot then
      let (s1, _, turned) := s.keyTurn (n + 1024) m.keyId
      if turned then s1.zeroRxPn n 8 else s1
    else s
  if m.prot && decide (m.pn ≤ s0.cw n (16 + m.tid)) then (s0.freeRx m).bump WMAC_RX_REPLAY
  else
    let s1 := if m.prot then s0.setCw n (16 + m.tid) m.pn else s0
    let (s2, body, _) := s1.frameBytes m.frame
    (s2.freeRx m).deliverAll m.unit m.prot (m.frames body)

/-- Release the MPDUs that follow in order, at most `fuel`; WS moves past each. -/
def State.releaseRun (s : State) (n t : Nat) : Nat → State
  | 0 => s
  | fuel + 1 =>
    let r := s.reorderOf n t
    let ws := s.sessWs n 12 t
    match r.held.find? fun m => m.sn == ws with
    | some m =>
      let s1 := (s.setReorder n t { r with held := r.held.filter fun k => k.sn ≠ ws }).release n m
      State.releaseRun (s1.setSessWs n 12 t ((ws + 1) % 4096)) n t fuel
    | none => s

/-- The held SN that comes first after WS. -/
def State.firstHeld (s : State) (n t : Nat) : Option Nat :=
  let ws := s.sessWs n 12 t
  (s.reorderOf n t).held.foldr (fun m best =>
    match best with
    | none => some m.sn
    | some b => if (m.sn + 4096 - ws) % 4096 < (b + 4096 - ws) % 4096 then some m.sn else some b) none

/-- Release in order every held MPDU before an SN, and move WS to it. -/
def State.releaseBefore (s : State) (n t sn : Nat) : Nat → State
  | 0 => s.setSessWs n 12 t sn
  | fuel + 1 =>
    match s.firstHeld n t with
    | some k =>
      if snBefore k sn then
        let r := s.reorderOf n t
        match r.held.find? fun m => m.sn == k with
        | some m =>
          State.releaseBefore (((s.setReorder n t { r with held := r.held.filter fun y => y.sn ≠ k }).release n m).setSessWs
            n 12 t ((k + 1) % 4096)) n t sn fuel
        | none => s.setSessWs n 12 t sn
      else s.setSessWs n 12 t sn
    | none => s.setSessWs n 12 t sn

/-- The gap's hold begins when something is held behind it, with the HOLD of that instant (R199). -/
def State.gapCheck (s : State) (n t : Nat) (moved : Bool) : State :=
  let r := s.reorderOf n t
  let till := if r.held.isEmpty then none else if moved || r.gapTill.isNone then some (s.now + s.holdNs) else r.gapTill
  s.setReorder n t { r with gapTill := till }

/-- A link's scoreboard of a session. -/
def State.scoreOf (s : State) (n t x : Nat) : Score :=
  SMap.get s.wmac.score ((n * 8 + t) * 4 + x) { ws := s.sessWs n 12 t }
/-- Set it. -/
def State.setScore (s : State) (n t x : Nat) (c : Score) : State :=
  { s with wmac := { s.wmac with score := SMap.ins s.wmac.score ((n * 8 + t) * 4 + x) c } }
/-- Move a scoreboard's window forward. -/
def State.moveScore (s : State) (n t x ws : Nat) : State :=
  let c := s.scoreOf n t x
  if snBefore c.ws ws then s.setScore n t x { ws, seen := c.seen.filter fun k => !snBefore k ws } else s

/-- Move the scoreboards of this device's links. -/
def State.moveScores (s : State) (n t ws : Nat) : State :=
  ((s.moveScore n t 0 ws).moveScore n t 1 ws).moveScore n t 2 ws

/-- The home tells the link devices its WS: after 64 SNs, or at once when `now_` says so. -/
def State.wsTell (s : State) (n t : Nat) (now_ : Bool) : State :=
  let ws := s.sessWs n 12 t
  let r := s.reorderOf n t
  if now_ || decide (64 ≤ (ws + 4096 - r.wsSent) % 4096) then
    ((s.setReorder n t { r with wsSent := ws }).moveScores n t ws).tellAll (.ws (s.ctxHandle n) t ws) (s.linkDevs n)
  else s

/-- What every move of WS calls for. -/
def State.afterMove (s : State) (n t old : Nat) (now_ : Bool) : State :=
  let s1 := s.releaseRun n t ((s.reorderOf n t).held.length + 1)
  (s1.gapCheck n t (s1.sessWs n 12 t != old)).wsTell n t now_

/-- The MPDUs held in reorder by this device. -/
def State.reorderCount (s : State) : Nat := (s.wmac.reorder.map fun e => e.2.held.length).sum

/-- The oldest gap of a session is released, as by a hold's expiry (R191). -/
def State.releaseGap (s : State) (n t : Nat) : State :=
  match s.firstHeld n t with
  | some k =>
    ((s.releaseBefore n t k (s.reorderOf n t).held.length).releaseRun n t ((s.reorderOf n t).held.length + 1)).bump
      WMAC_RX_REORDER_TIMEOUT
  | none => s

/-- An MPDU is placed in its home's reorder buffer (R190 step 7, R191, R192). -/
def State.reorderIn (s : State) (n : Nat) (m : RxMpdu) : State :=
  let t := m.tid
  let s0 := s.contest 24 n (512 + m.unit)
  if m.mgmt then
    if m.prot && decide (m.pn ≤ s0.cw n 24) then (s0.freeRx m).bump WMAC_RX_REPLAY
    else
      let s1 := if m.prot then s0.setCw n 24 m.pn else s0
      s1.mgmtFrame m
  else if s0.sessOn n 12 t then
    let old := s0.sessWs n 12 t
    let r := s0.reorderOf n t
    if snBefore m.sn old || r.held.any (fun k => k.sn == m.sn) then (s0.freeRx m).bump WMAC_RX_DUP
    else
      let full := decide (s0.fg WMAC_CTL WMAC_CTL_REORDER_MAX ≤ s0.reorderCount)
      if full && r.held.isEmpty then (s0.freeRx m).bump WMAC_RX_REORDER_FULL
      else
        let s1 := if full then s0.releaseGap n t else s0
        let r1 := s1.reorderOf n t
        if snBefore m.sn (s1.sessWs n 12 t) then (s1.freeRx m).bump WMAC_RX_DUP
        else
          let s2 := s1.setReorder n t { r1 with held := r1.held ++ [m] }
          let buf := s2.sessBuf n 12 t
          let past := decide (buf ≤ (m.sn + 4096 - s2.sessWs n 12 t) % 4096)
          let s3 := if past then s2.releaseBefore n t ((m.sn + 4097 - buf) % 4096) (r1.held.length + 1) else s2
          s3.afterMove n t old false
  else
    let r := s0.reorderOf n t
    if m.retry && r.lastSn == some m.sn then (s0.freeRx m).bump WMAC_RX_DUP
    else (s0.setReorder n t { r with lastSn := some m.sn }).release n m

/-- An MPDU whose integrity holds goes to the home: here, where it waits until a moved station's state has arrived (R196), or
forwarded (R190 step 6). One that has no home to reach counts in RX_NO_STA (DESIGN CHOICE, assumption 150). -/
def State.toHome (s : State) (m : RxMpdu) : State :=
  let n := m.handle % 1024
  if s.ctxRole n = 1 then
    if s.moveWaits n then { s with wmac := { s.wmac with early := s.wmac.early ++ [m] } } else s.reorderIn n m
  else if s.ctxRole n = 0 then (s.freeRx m).bump WMAC_RX_NO_STA
  else
    let (s1, body, _) := s.frameBytes m.frame
    let (s2, st) := (s1.freeRx m).fabSend (s.homeDev n)
      (.mpdu { m with job := none, stored := false, frame := { len := m.frame.len } } body) .none_
    if st = esOk then s2 else s2.bump WMAC_RX_NO_STA

/-- REORDER_HOLD_EXPIRE (R191). -/
def execReorderHoldExpire (n t : Nat) (s : State) : Host.Outcome State Fault Refusal :=
  match (s.reorderOf n t).gapTill with
  | some g =>
    if s.domOn .memory ∧ g ≤ s.now then
      let old := s.sessWs n 12 t
      .next (((s.cross 30 3).releaseGap n t).afterMove n t old false)
    else .next s
  | none => .next s

/-- A forwarded MPDU arrives at the home (R190, R196): it takes pails here. -/
def State.forwardArrive (s : State) (m : RxMpdu) (body : Bytes) : State :=
  let n := m.handle % 1024
  if s.ctxRole n = 0 then s.bump WMAC_RX_NO_STA
  else
    match s.storeFrame (512 + m.unit) body with
    | some (s1, hs) =>
      s1.toHome { m with frame := { pail := getAt hs 0 0, len := body.length }, stored := true, job := none }
    | none => s.bump (if s.freePailCount = 0 then WMAC_RX_NOBUF else WMAC_RX_NOBUF_MID)

/-- MPDU_FORWARD_ARRIVE (R190). -/
def execMpduForwardArrive (m : RxMpdu) (body : Bytes) (s : State) : Host.Outcome State Fault Refusal :=
  .next (if s.domOn .memory then s.forwardArrive m body else s)

/-! ## The receiving device (R190 steps 1-5, R192, R193) -/

/-- A response is prepared for SIFS after the PPDU's end by L-SIG. -/
def State.ackMpdu (s : State) (x n t sn : Nat) : State :=
  let acks := match SMap.get s.wmac.resp x none with | some r => r.acks | none => []
  { s with wmac := { s.wmac with
      resp := SMap.set s.wmac.resp x (some { due := (s.wbx x).rx.till + sifs, acks := acks ++ [(n, t, sn)] }) none } }

/-- The station of a transmitter address on a unit. -/
def State.findSta (s : State) (x a2 : Nat) : Option Nat :=
  s.ctxList.find? fun n => s.cw n (29 + x) % 2 ^ 48 == a2 || (!bitN (s.cw n 0) 20 && s.cw n 1 % 2 ^ 48 == a2)

/-- Raise the job that checks a protected MPDU; the MPDU waits for it. A job that cannot be raised fails integrity. -/
def State.protectRx (s : State) (n : Nat) (m : RxMpdu) (aad : Bytes) (off : Nat) : State :=
  let w := s.cw n 3
  let suite := s.suite n
  let key := if m.keyId = 0 then (if bitN w 24 then some (bits w 11 0) else none)
    else if m.keyId = 1 then (if bitN w 25 then some (bits w 23 12) else none) else none
  let fail := (s.freeRx m).bump WMAC_RX_MIC_FAIL
  match key with
  | none => fail
  | some k =>
    if suite = 0 then fail
    else
      let a2 := beNat (slice aad 8 6)
      let d := mkDesc 2 suite (suiteMic suite) k (m.frame.len - off)
        (mkNonce suite (m.tid + if m.mgmt then 16 else 0) a2 m.pn) aad (s.segsOf (s.chain maxChain m.frame.pail) off) 0
      match s.raiseJob m.unit false d with
      | (s1, some j) =>
        let c := s1.cph
        let till := s1.now + s1.fg CPH_CFG CPH_CFG_RX_TMO * 1000
        let s2 := s1.setCph { c with slots := match s1.jobOf j with
          | some x => SMap.ins c.slots (jobSlot j) { x with till := some till } | none => c.slots }
        { s2 with wmac := { s2.wmac with rxWait := s2.wmac.rxWait ++ [{ m with job := some j }] } }
      | (_, none) => fail

/-- Steps 4 and 5 for an MPDU of a known station, its body in pails. -/
def State.rxKnown (s : State) (x n : Nat) (b : Bytes) (m : RxMpdu) (off : Nat) : State :=
  let t := m.tid
  let s0 := s.setCw n 26 ((s.cw n 26 + 1) % 2 ^ 64)
  let s1 := if fcType b = 1 then s0 else s0.setPs n (fcFlag b 4)
  let on := !m.mgmt && s1.sessOn n 12 t
  let c := s1.scoreOf n t x
  if on && (c.seen.contains m.sn || snBefore m.sn c.ws) then ((s1.ackMpdu x n t m.sn).freeRx m).bump WMAC_RX_DUP
  else
    let s2 :=
      if on then
        let buf := s1.sessBuf n 12 t
        let past := decide (buf ≤ (m.sn + 4096 - c.ws) % 4096)
        let ws := if past then (m.sn + 4097 - buf) % 4096 else c.ws
        s1.setScore n t x { ws, seen := m.sn :: c.seen.filter fun k => !snBefore k ws }
      else s1
    let s3 := s2.ackMpdu x n t m.sn
    if !m.stored then s3
    else if m.prot then
      let (s4, old, _) := s3.keyTurn n m.keyId
      if old then (s4.freeRx m).bump WMAC_RX_OLD_KEY
      else
        let mlo := bitN (s.cw n 0) 20
        let a1 := if mlo then s.apFor n x else beAt b 4 6
        let a2 := if mlo then s.cw n 1 % 2 ^ 48 else beAt b 10 6
        s4.protectRx n m (rxAad b a1 a2) off
    else s3.toHome m

/-- A received BlockAckReq moves this link's scoreboard, is answered, and is handled or forwarded to home (R191). -/
def State.barIn (s : State) (x n t ssn : Nat) : State :=
  let s1 := (s.moveScore n t x ssn).ackMpdu x n t ssn
  if s.ctxRole n = 1 then
    let old := s1.sessWs n 12 t
    if s1.sessOn n 12 t && snBefore old ssn then
      (s1.releaseBefore n t ssn (s1.reorderOf n t).held.length).afterMove n t old true
    else s1
  else s1.fabTell (s.homeDev n) (.bar (s.ctxHandle n) t ssn)

/-- A forwarded BlockAckReq reaches the home. -/
def State.barHome (s : State) (handle t ssn : Nat) : State :=
  let n := handle % 1024
  let old := s.sessWs n 12 t
  if s.ctxRole n = 1 && s.sessOn n 12 t && snBefore old ssn then
    (s.releaseBefore n t ssn (s.reorderOf n t).held.length).afterMove n t old true
  else s

/-- PA_EN of a unit (R217): from PA_LEAD before a PPDU's first sample to PA_LAG after its ramp-down. -/
def State.paEn (s : State) (x : Nat) : Bool :=
  (s.wbx x).bursts.any fun b => decide (b.at_ ≤ s.now + b.lead * 50) && decide (s.now < b.fall)

/-- A unit receives: its domain is on, RX_EN is set, its link is up, and its PA_EN is low (R215); a replay takes what it receives
from its stream (R416). -/
def State.mayReceive (s : State) (x : Nat) : Bool :=
  s.domOn (Dom.ofUnit x) && s.flag WB_CTL WB_CTL_RX_EN [x] && s.felUp x && !s.paEn x && !s.deaf

/-- An MPDU of a PPDU that has been detected, has passed L-SIG and was not aborted arrives now (R211-R214). -/
def State.inPpdu (s : State) (x : Nat) : Bool :=
  let r := (s.wbx x).rx
  r.st == 2 && decide (s.now ≤ r.till)

/-- A control frame of a known station (R179, R191): a BlockAckReq, or a PS-Poll of a station in power save. -/
def State.ctlIn (s : State) (x n : Nat) (b : Bytes) : State :=
  if fcSub b = 8 then s.barIn x n (bits (leAt b 16 2) 14 12) (leAt b 18 2 / 16)
  else if fcSub b = 10 ∧ s.flag AIR_STA AIR_STA_PS [n] then
    s.pollServe x n 1 ((s.wbx x).rx.till + sifs) fun t => !Config.uapsd (s.ctxHandle n) t
  else s

/-- A U-APSD trigger (R179): a QoS frame under PM of a trigger-enabled TID delivers the queues so enabled, behind its
acknowledgement. -/
def State.uapsdIn (s : State) (x n : Nat) (b : Bytes) : State :=
  let h := s.ctxHandle n
  if isQos b ∧ fcFlag b 4 ∧ Config.uapsd h (mpTid b) then
    s.pollServe x n (Config.uapsdMax h) ((s.wbx x).rx.till + 2 * sifs + Config.responseAir 1) (Config.uapsd h)
  else s

/-- Steps 1 to 3 for a received MPDU. One longer than the limits of Table WMC-2 is discarded as a bad frame of the baseband
(DESIGN CHOICE, assumption 150). -/
def State.rxMpdu (s : State) (x : Nat) (b : Bytes) : State :=
  let len := b.length - 4
  if b.length < 14 ∨ 11454 < b.length ∨ (crc32 (b.take len)).toNat ≠ leAt b len 4 then s.bump WB_RX_FCS_BAD [x]
  else
    let a2 := beAt b 10 6
    let h := hdrLen b
    let prot := fcFlag b 6 && fcType b != 1
    let mgmt := fcType b == 0
    let sta := s.findSta x a2
    let mic := if prot then (match sta with | some n => suiteMic (s.suite n) | none => 8) else 0
    let sec := slice b h 8
    let body := ((b.take (len - mic)).drop (h + if prot then 8 else 0))
    let place := if mgmt then b.take h ++ body else body
    if fcType b = 1 then
      if fcSub b = 12 then s.ctsIn x
      else if fcSub b = 13 then s
      else
        match sta with
        | some n => s.ctlIn x n b
        | none => s.bump WMAC_RX_NO_STA
    else if fcType b = 2 ∧ !isQos b then
      match sta with
      | some n => (s.ackMpdu x n 0 (mpSn b)).bump WMAC_RX_NO_STA
      | none => s.bump WMAC_RX_NO_STA
    else
      let m : RxMpdu := {
        unit := x, handle := match sta with | some n => s.ctxHandle n | none => 0, tid := mpTid b, sn := mpSn b,
        pn := if prot then mpPn sec else 0, keyId := if prot then mpKeyId sec else 0, prot, retry := fcFlag b 3,
        amsdu := mpAmsdu b, mgmt, da := if fcFlag b 0 then slice b 16 6 else slice b 4 6,
        sa := if fcFlag b 0 && fcFlag b 1 then slice b 24 6 else slice b 10 6, mic := slice b (len - mic) mic }
      let null := fcType b == 2 && bitN (fcSub b) 2
      if null then
        match sta with
        | some n => (s.rxKnown x n b m 0).uapsdIn x n b
        | none => s.bump WMAC_RX_NO_STA
      else if s.freePailCount = 0 then s.bump WMAC_RX_NOBUF
      else
        match s.storeFrame (512 + x) place with
        | none => s.bump WMAC_RX_NOBUF_MID
        | some (s1, hs) =>
          let m1 := { m with frame := { pail := getAt hs 0 0, len := place.length }, stored := true }
          match sta with
          | some n => (s1.rxKnown x n b m1 (if mgmt then h else 0)).uapsdIn x n b
          | none => if mgmt then s1.mgmtFrame m1 else (s1.freeRx m1).bump WMAC_RX_NO_STA

/-- The iterations run on LDPC codewords (R205): exactly ITER on each, or fewer where every parity check is satisfied
earlier; `sat` gives, for each, the iteration after which they all are. -/
def ldpcRuns (iter : Nat) (sat : List Nat) : List Nat := sat.map fun k => min iter k

/-- MPDU_RECEIVE (R190, R205): an MPDU addressed to a unit arrives as decoded, with its FCS, in the PPDU being received; `sat`
is what its LDPC codewords needed. -/
def execMpduReceive (x : Nat) (b : Bytes) (sat : List Nat) (s : State) : Host.Outcome State Fault Refusal :=
  .next (if x < 3 ∧ s.mayReceive x ∧ s.inPpdu x then
    let w := s.wbx x
    ((s.setWbx x { w with rx := { w.rx with runs := ldpcRuns w.rx.iter sat } }).input 2 x b).rxMpdu x b
  else s)

/-- BLOCKACKREQ_RECEIVE (R191): for local index n, TID t, with its SSN. -/
def execBlockackreqReceive (x n t ssn : Nat) (s : State) : Host.Outcome State Fault Refusal :=
  .next (if x < 3 ∧ s.mayReceive x ∧ s.ctxRole n ≠ 0 then s.barIn x n (t % 8) (ssn % 4096) else s)

/-- WS_UPDATE_RECEIVE (R191): a link device takes the home's WS. -/
def execWsUpdateReceive (handle t ws : Nat) (s : State) : Host.Outcome State Fault Refusal :=
  .next (if s.domOn .memory ∧ s.ctxFor handle then s.moveScores (handle % 1024) (t % 8) (ws % 4096) else s)

/-- RESPONSE_RELEASE (R48, R186): at the tick of its instant a response is sent if it is ready and the unit may send; after
that tick it is not sent, and counts. -/
def execResponseRelease (x : Nat) (ready : Bool) (s : State) : Host.Outcome State Fault Refusal :=
  match SMap.get s.wmac.resp x none with
  | some r =>
    if r.due ≤ s.now then
      let s1 := ({ s with wmac := { s.wmac with resp := SMap.del s.wmac.resp x } }).cross 33 x
      let inTime := ready && decide (s.now < r.due + 2)
      if inTime && s1.maySend x then
        .next (((s1.blankRx x).placePpdu x r.due (Config.responseAir r.acks.length) (s1.standingChains x)).bump WB_TX_PPDU [x])
      else if !inTime || !s1.felUp x then .next (s1.bump WMAC_U_LATE_RESP [x])
      else .next s1
    else .next s
  | none => .next s

/-! ## The end of an RX protection job (R190 step 5) -/

/-- Integrity holds: the MPDU's job slot is freed and the MPDU goes on to its home. -/
def State.rxGood (s : State) (m : RxMpdu) : State :=
  let s1 := match m.job with | some j => s.freeJob j | none => s
  s1.toHome { m with job := none }

/-- A job of a received MPDU has ended: the TAG is compared with the MIC. -/
def State.rxJobEnd (s : State) (job : Nat) (ok : Bool) : State :=
  match s.wmac.rxWait.find? fun m => m.job == some job with
  | some m =>
    let s1 := { s with wmac := { s.wmac with rxWait := s.wmac.rxWait.filter fun k => k.job ≠ some job } }
    let tag := s1.bytes (s1.descAddr (jobSlot job) + 72) m.mic.length
    if ok && tag == m.mic then s1.rxGood m else (s1.freeRx m).bump WMAC_RX_MIC_FAIL
  | none => s

/-! ## Stations leave and move (R184, R196) -/

/-- Precoder entries of a test become free (R225). -/
def State.precDrop (s : State) (p : Prec → Bool) : State :=
  { s with spe := { s.spe with precs := s.spe.precs.map fun e =>
      if (e.2.used && p (e.2)) = true then (e.1, { e.2 with used := false, gen := (e.2.gen + 1) % 16, stas := [] }) else e } }

/-- Empty an air queue whose station is removed. -/
def State.emptyQueue (s : State) (q : Nat) : Nat → State
  | 0 => s
  | n + 1 =>
    match (s.aq q).frames with
    | f :: t => State.emptyQueue (((s.setAq q { s.aq q with frames := t }).dropFrame f.frame).bump WMAC_TX_REMOVED) q n
    | [] => s

/-- Empty several queues, and drop what awaits retransmission. -/
def State.emptyQueues (s : State) : List Nat → State
  | [] => s
  | q :: t =>
    let s1 := s.emptyQueue q (s.aq q).frames.length
    State.emptyQueues (((s1.setRetx q []).closeMpdus (s1.retxOf q))) t

/-- MPDUs of a station leave the exchange in progress on a unit. -/
def State.exchDrop (s : State) (n : Nat) : List Nat → State
  | [] => s
  | x :: t =>
    State.exchDrop
      (match s.exch x with
       | some e =>
         (s.setExch x (some { e with
           mpdus := e.mpdus.filter fun m => m.q / 8 != n, asked := e.asked.filter fun k => k ≠ n })).closeMpdus
           (e.mpdus.filter fun m => m.q / 8 == n)
       | none => s) n t

/-- The requests of a station that wait at home, and those this device has outstanding, are withdrawn. -/
def State.dropRequests (s : State) (n : Nat) : State :=
  { s with wmac := { s.wmac with
      deferred := s.wmac.deferred.filter fun r => r.handle % 1024 ≠ n
      asked := SMap.keep s.wmac.asked fun k => k / 8 != n } }

/-- Close every lease held for a station. -/
def State.closeLeases (s : State) : List (Nat × Lease) → State
  | [] => s
  | (i, l) :: t =>
    State.closeLeases (({ s with wmac := { s.wmac with leases := SMap.ins s.wmac.leases i { l with live := 0, recalled := true } } }).leaseCheck i) t

/-- Release every reorder buffer of a station in order. -/
def State.flushReorder (s : State) (n : Nat) : Nat → State
  | 0 => s
  | t + 1 =>
    let h := (s.reorderOf n t).held
    let s1 :=
      match (h.map fun m => (m.sn + 4096 - s.sessWs n 12 t) % 4096).foldr (fun a b => max a b) 0 with
      | d => if h.isEmpty then s else s.releaseBefore n t ((s.sessWs n 12 t + d + 1) % 4096) h.length
    State.flushReorder (s1.setReorder n t {}) n t

/-- Clear every word of a context. -/
def State.clearCtx (s : State) (n : Nat) : Nat → State
  | 0 => s
  | m + 1 => State.clearCtx (s.setCw n m 0) n m

/-- Forget what WMAC keeps of a station beside its context. -/
def State.forgetSta (s : State) (n : Nat) : State :=
  let w := s.wmac
  { s with wmac := { w with
      gens := SMap.set w.gens n (bits (s.ctxHandle n) 15 14) 0
      leases := w.leases.filter fun e => e.2.handle % 1024 != n
      granted := w.granted.filter fun l => l.n ≠ n
      deferred := w.deferred.filter fun r => r.handle % 1024 ≠ n
      asked := SMap.keep w.asked fun k => k / 8 != n
      closes := w.closes.filter fun c => c.1 % 1024 != n
      score := SMap.keep w.score fun k => k / 32 != n
      reorder := SMap.keep w.reorder fun k => k / 8 != n
      keySeen := SMap.keep w.keySeen fun k => k % 1024 != n
      moves := SMap.del w.moves n
      holes := w.holes.filter fun h => h.1 / 8 != n
      gap := SMap.keep w.gap fun k => k / 8 != n } }

/-- STA_REMOVE (Table WMC-5). -/
def State.staRemove (s : State) (n : Nat) : State :=
  let s0 := ((s.dropRequests n).exchDrop n [0, 1, 2]).emptyQueues (staQueues n)
  let s1 := (s0.closeLeases (s0.wmac.leases.filter fun e => e.2.handle % 1024 == n)).dropRequests n
  let s2 := (s1.flushReorder n 8).precDrop fun p => p.stas.contains n
  (s2.forgetSta n).clearCtx n 32

/-- The unclosed leases that a home has granted of a station, as they are handed over. -/
def State.leaseTuples (s : State) (n : Nat) : List (Nat × Nat × Nat × Nat) :=
  (s.wmac.granted.filter fun l => l.n == n).map fun l => (l.tid, l.dev, l.sn, l.len)

/-- Forward MPDUs to another device in order. -/
def State.forwardAll (s : State) (dev : Nat) : List RxMpdu → State
  | [] => s
  | m :: t =>
    let (s1, body, _) := s.frameBytes m.frame
    State.forwardAll ((s1.freeRx m).fabTell dev (.mpdu { m with job := none, stored := false, frame := { len := m.frame.len } } body)) dev t

/-- Insert a held MPDU into a list by its distance from an SN. -/
def heldIns (ws : Nat) (m : RxMpdu) : List RxMpdu → List RxMpdu
  | [] => [m]
  | a :: t => if (m.sn + 4096 - ws) % 4096 < (a.sn + 4096 - ws) % 4096 then m :: a :: t else a :: heldIns ws m t

/-- The old home hands a station over: its words and leases, then each TID's reorder contents in SN order. -/
def State.handOver (s : State) (n dev : Nat) : State :=
  let s1 := s.fabTell dev (.moved (s.ctxHandle n) ((List.range 32).map (s.cw n)) (s.leaseTuples n))
  let held := (List.range 8).flatMap fun t => (s1.reorderOf n t).held.foldr (heldIns (s1.sessWs n 12 t)) []
  let s2 := s1.forwardAll dev held
  { s2 with wmac := { s2.wmac with
      granted := s2.wmac.granted.filter fun l => l.n ≠ n
      deferred := s2.wmac.deferred.filter fun r => r.handle % 1024 ≠ n
      reorder := SMap.keep s2.wmac.reorder fun k => k / 8 != n } }

/-- Set words of a context to 0. -/
def State.zeroWords (s : State) (n : Nat) : List Nat → State
  | [] => s
  | m :: t => State.zeroWords (s.setCw n m 0) n t

/-- STA_MIGRATE at its instant, on a device that holds a context of the station or becomes its home (R196). -/
def State.staMigrate (s : State) (handle dev : Nat) : State :=
  let n := handle % 1024
  let h1 := bits handle 15 14 * 16384 + dev * 1024 + n
  let was := s.ctxRole n
  let s0 := { s with wmac := { s.wmac with asked := SMap.keep s.wmac.asked fun k => k / 8 != n } }
  let note (t : State) (arrived : Bool) : State :=
    { t with wmac := { t.wmac with moves := SMap.ins t.wmac.moves n { old := handle, till := t.now + t.holdNs, arrived } } }
  if dev = s.self then
    if was = 1 then s
    else
      let s1 := note s0 false
      s1.setCw n 0 (bits (s.cw n 0) 63 18 * 2 ^ 18 + 2 ^ 16 + h1)
  else if was = 0 then s
  else
    let s1 := if was = 1 then s0.handOver n dev else s0
    let s2 := note s1 true
    (s2.setCw n 0 (bits (s2.cw n 0) 63 18 * 2 ^ 18 + 2 * 2 ^ 16 + h1)).zeroWords n ((List.range 32).filter homeWord)

/-- Write context words from a list; word 0 and the words each device keeps for itself, 25 to 28, stay. -/
def State.putWords (s : State) (n : Nat) : List Nat → Nat → State
  | [], _ => s
  | w :: t, m => State.putWords (if m = 0 ∨ (25 ≤ m ∧ m ≤ 28) then s else s.setCw n m w) n t (m + 1)

/-- The closures of a station that came before its state are reported now. -/
def State.lateCloses (s : State) : List (Nat × Nat × Nat × Nat × Nat) → State
  | [] => s
  | (h, t, d, sn, used) :: r => State.lateCloses (s.homeClose h t d sn used) r

/-- The MPDUs of a station that came before its state enter the one reorder buffer now. -/
def State.lateMpdus (s : State) (n : Nat) : List RxMpdu → State
  | [] => s
  | m :: t => State.lateMpdus (s.reorderIn n m) n t

/-- A home takes its WS of each session as told: the link devices of the old home knew it. -/
def State.wsFresh (s : State) (n : Nat) : State :=
  { s with wmac := { s.wmac with
      reorder := (List.range 8).foldl (fun r t =>
        if s.sessOn n 12 t then SMap.set r (n * 8 + t) { s.reorderOf n t with wsSent := s.sessWs n 12 t } {} else r)
        s.wmac.reorder } }

/-- The moved state arrives at the new home. -/
def State.movedArrive (s : State) (handle : Nat) (words : List Nat) (leases : List (Nat × Nat × Nat × Nat)) : State :=
  let n := handle % 1024
  match SMap.find s.wmac.moves n with
  | some m =>
    if m.arrived ∨ s.ctxRole n ≠ 1 then s
    else
      let w0 := getAt words 0 0
      let s1 := s.putWords n words 0
      let s2 := s1.setCw n 0 (bits w0 63 18 * 2 ^ 18 + 2 ^ 16 + s1.ctxHandle n)
      let new := leases.map fun (tid, dev, sn, len) => ({ n, tid, dev, sn, len, at_ := s.now } : HomeLease)
      let s3 := { s2 with wmac := { s2.wmac with
        granted := s2.wmac.granted ++ new, moves := SMap.ins s2.wmac.moves n { m with arrived := true } } }
      let cl := s.wmac.closes.filter fun c => c.1 % 1024 == n
      let ms := s.wmac.early.filter fun k => k.handle % 1024 == n
      let s4 := { s3 with wmac := { s3.wmac with
        closes := s3.wmac.closes.filter (fun c => c.1 % 1024 != n), early := s3.wmac.early.filter fun k => k.handle % 1024 != n } }
      (((new.foldl (fun (t : State) l => t.mirror (.lease l)) s4).wsFresh n).lateCloses cl).leaseRetry.lateMpdus n ms
  | none => s

/-- MIGRATE_STATE_ARRIVE (R196). -/
def execMigrateStateArrive (handle : Nat) (words : List Nat) (leases : List (Nat × Nat × Nat × Nat)) (s : State) :
    Host.Outcome State Fault Refusal :=
  .next (if s.domOn .memory then s.movedArrive handle words leases else s)

/-- MIGRATE_GRACE_END (R196): the old handle is accepted no more; a device that then holds no link frees its context. -/
def execMigrateGraceEnd (n : Nat) (s : State) : Host.Outcome State Fault Refusal :=
  match SMap.find s.wmac.moves n with
  | some m =>
    if m.arrived ∧ m.till ≤ s.now then
      let s1 := { s with wmac := { s.wmac with moves := SMap.del s.wmac.moves n } }
      .next (if s1.ctxRole n = 2 ∧ !(s1.linkDevs n).contains s1.self then s1.staRemove n else s1)
    else .next s
  | none => .next s

/-- The status a renq receives at its target (R194, R196). -/
def State.renqStatus (s : State) (handle tid : Nat) : Nat :=
  let n := handle % 1024
  let known := s.ctxHandle n == handle ||
    match SMap.find s.wmac.moves n with | some m => m.old == handle && decide (s.now ≤ m.till) | none => false
  if !s.domOn .memory then esDomainDown
  else if s.ctxRole n = 0 ∨ !known then esStale
  else if !(s.linkDevs n).contains s.self then esRefused
  else s.airStatus handle tid

end Sys2Proof.Machine
end

