-- ==== Sys2Proof/Machine/Wb.lean ====
section
/-! DEFINITION. Radio units, their front-end links and the spatial engine (chapter 09). -/

namespace Sys2Proof.Machine

/-! ## Reception (R212-R216) -/

/-- Change a unit's receiver. -/
def State.setRx (s : State) (x : Nat) (r : Rx) : State := s.setWbx x { s.wbx x with rx := r }

/-- A level in dBm, counted from -128, of a signed register field. -/
def dbmLevel (v : Nat) : Nat := (sgn 8 v + 128).toNat

/-- Record each subchannel of a list whose CCA report differs from a state before (`s`) to one after, while recording. -/
def State.ccaTell (t s : State) (x : Nat) : List Nat → State
  | [] => t
  | k :: r =>
    State.ccaTell (if s.ccaBusyAt x k == t.ccaBusyAt x k then t else t.phy x (if t.ccaBusyAt x k then 0x04 else 0x05) k) s x r

/-- What a change of a unit's receiver makes of its CCA reports: the changes are recorded, and the primary one's idle time
begins when it turns idle. -/
def State.ccaAfter (t s : State) (x : Nat) : State :=
  let u := if t.recording then t.ccaTell s x (List.range (2 ^ unitBw x)) else t
  if s.ccaBusy x && !u.ccaBusy x then u.setRx x { (u.wbx x).rx with idleAt := u.now } else u

/-- The control words of the transceiver, chain by chain (Table WBR-3): the gain index applied and the ADC overload; the
other bits are ignored. -/
def felWords : List Nat → Nat → SMap Nat
  | [], _ => []
  | w :: t, c => SMap.set (felWords t (c + 1)) c (w % 512) 0

/-- PREAMBLE_DETECT (R212): an L-STF at a level (dBm + 128), on the subchannels of `cover`, is detected, AGC is frozen and
RX_DETECT counts; WBx_DET is taken for this reception (R219). A unit that is receiving does not acquire it. `words` are the
transceiver's control words at that instant (R207). -/
def execPreambleDetect (x level cover : Nat) (words : List Nat) (s : State) : Host.Outcome State Fault Refusal :=
  .next (if x < 3 ∧ s.mayReceive x ∧ !s.receiving x ∧ dbmLevel (s.fg WB_DET WB_DET_PD_LVL [x]) ≤ level then
    let s1 := s.cross 33 x
    let w := s1.wbx x
    let r : Rx := { w.rx with
      st := 1, level, cover, gain := Config.agcGain x level % 256, restart := s.flag WB_DET WB_DET_RESTART_EN [x]
      jump := s.fg WB_DET WB_DET_JUMP_DB [x], iter := s.fg WB_DET WB_DET_ITER [x], sig := none, runs := [] }
    (((s1.setWbx x { w with rx := r, words := felWords words 0 }).bump WB_RX_DETECT [x]).phy x 0x01 0).ccaAfter s x
  else s)

/-- Data bits per symbol of an L-SIG RATE code, if it is assigned (IEEE 802.11). -/
def lsigRate (v : Nat) : Option Nat :=
  if v = 11 then some 24 else if v = 15 then some 36 else if v = 10 then some 48 else if v = 14 then some 72
  else if v = 9 then some 96 else if v = 13 then some 144 else if v = 8 then some 192 else if v = 12 then some 216 else none

/-- The duration in µs that an L-SIG implies, when it passes the checks of R213. -/
def lsigTime (v : Nat) : Option Nat :=
  match lsigRate (bits v 3 0) with
  | some n =>
    let t := 20 + 4 * ceilDiv (22 + 8 * bits v 16 5) n
    if popc 18 v % 2 = 0 ∧ 1 ≤ t ∧ t ≤ 5484 then some t else none
  | none => none

/-- LSIG_CHECK (R213): the 24 bits of L-SIG, RATE in [3:0], LENGTH in [16:5], parity in [17]. -/
def execLsigCheck (x lsig : Nat) (s : State) : Host.Outcome State Fault Refusal :=
  let r := (s.wbx x).rx
  if x < 3 ∧ r.st = 1 ∧ !s.deaf then
    match lsigTime lsig with
    | some t => .next (s.setRx x { r with st := 2, till := s.now + t * 1000 - 20000 })
    | none => .next ((((s.setRx x { r with st := 0 }).bump WB_RX_LSIG_FAIL [x]).phy x 0x03 0).ccaAfter s x)
  else .next s

/-- A unit receives a format on a BW (Table WBR-1). -/
def rxFormat (x : Nat) (f : PhyFmt) (bw : Nat) : Bool :=
  decide (bw ≤ unitBw x) &&
    match f with
    | .nonHt | .ehtMu | .ehtTb => true
    | .ht => decide (x < 2) && decide (bw ≤ 1)
    | .vht => x == 1 && decide (bw ≤ 3)
    | .heSu | .heMu | .heErSu | .heTb => decide (bw ≤ 3)

/-- The largest MCS of a format: of HE and EHT by Table WBR-1, of the others by IEEE 802.11 (PRESUMED, assumption 151). -/
def fmtMcs (f : PhyFmt) : Nat :=
  match f with
  | .ehtMu | .ehtTb => 13
  | .heSu | .heMu | .heErSu | .heTb => 11
  | .vht => 9
  | .ht | .nonHt => 7

/-- The values of signal fields that a unit supports (R203): format, width, MCS, streams, and static puncturing on units B and
C from 80 MHz on. -/
def sigOk (x : Nat) (f : SigField) : Bool :=
  rxFormat x f.fmt f.bw && decide (f.mcs ≤ fmtMcs f.fmt) && decide (1 ≤ f.nss) && decide (f.nss ≤ 16) &&
    (f.punct == 0 || (decide (1 ≤ x) && decide (2 ≤ f.bw)))

/-- SIG_FIELD_CHECK (R213): a later signal field passes its CRC with values the unit supports, or ends the reception with CCA
held busy. -/
def execSigFieldCheck (x : Nat) (f : SigField) (crc : Bool) (s : State) : Host.Outcome State Fault Refusal :=
  let r := (s.wbx x).rx
  .next (if x < 3 ∧ r.st = 2 ∧ s.receiving x ∧ !s.deaf then
    if crc && sigOk x f then s.setRx x { r with sig := some f }
    else (((s.setRx x { r with st := 0, holdTill := r.till, hold := r.cover }).bump WB_RX_SIG_FAIL [x])).ccaAfter s x
  else s)

/-- RX_RESTART (R214): the power has risen to a level (dBm + 128) JUMP_DB or more above the freeze level. -/
def execRxRestart (x level : Nat) (s : State) : Host.Outcome State Fault Refusal :=
  let r := (s.wbx x).rx
  .next (if x < 3 ∧ s.receiving x ∧ !s.deaf ∧ r.restart ∧ r.level + r.jump ≤ level then
    (((s.setRx x { r with st := 0 }).bump WB_RX_RESTART [x]).phy x 0x02 0).ccaAfter s x
  else s)

/-- CCA_CHANGE (R216): the energy on subchannel `sub` of a unit, 0 the primary one, is now at a level (dBm + 128). -/
def execCcaChange (x sub level : Nat) (s : State) : Host.Outcome State Fault Refusal :=
  let r := (s.wbx x).rx
  let busy := decide (dbmLevel (s.fg WB_DET WB_DET_ED_LVL [x]) ≤ level)
  .next (if x < 3 ∧ sub < 2 ^ unitBw x ∧ s.mayReceive x ∧ bitN r.busy sub ≠ busy then
    (s.setRx x { r with busy := if busy then r.busy + 2 ^ sub else r.busy - 2 ^ sub }).ccaAfter s x
  else s)

/-! ## The balls of a unit (R207, R217) -/

/-- The code of a ramp `t` ns after its start, 1 to 7 (Table WBR-5). -/
def rampCode (prof t : Nat) : Nat :=
  if prof = 0 then min 7 (1 + t / 50)
  else if prof = 1 then min 7 (1 + t / 100)
  else 1 + ((List.range 6).filter fun k => decide (Config.rampStep prof (k + 2) ≤ t)).length

/-- The code that a PPDU drives at an instant: up to its first sample, 7, and in reverse after its last. -/
def Burst.code (b : Burst) (now : Nat) : Nat :=
  let t := rampUnits b.prof * 50
  if now + t < b.at_ ∨ b.till + t ≤ now then 0
  else if now < b.at_ then rampCode b.prof (now + t - b.at_)
  else if now < b.till then 7
  else rampCode b.prof (t - 1 - (now - b.till))

/-- PA_RAMP_x[2:0]. -/
def State.paRamp (s : State) (x : Nat) : Nat := ((s.wbx x).bursts.map fun b => b.code s.now).foldr max 0

/-- What the device sends for a chain: its control word, and whether its samples are zero. -/
structure FelOut where
  word : BitVec 32
  zero : Bool
  deriving DecidableEq, Repr

/-- The control word of chain c and its samples while the link is up (R207): the gain index; transmit enable while a PPDU on
that many chains has the PA on; receive enable while the receiver runs; zero samples while the unit is not transmitting. -/
def State.felOut (s : State) (x c : Nat) : Option FelOut :=
  if s.felUp x ∧ s.domOn (Dom.ofUnit x) then
    let tx := (s.wbx x).bursts.any fun b => decide (c < b.chains) && decide (b.at_ ≤ s.now + b.lead * 50) && decide (s.now < b.fall)
    some { word := BitVec.ofNat 32 ((s.wbx x).rx.gain % 256 + 256 * b2n tx + 512 * b2n (s.mayReceive x)),
           zero := !((s.wbx x).bursts.any fun b => decide (c < b.chains) && decide (b.at_ ≤ s.now) && decide (s.now < b.till)) }
  else none

/-! ## Front-end links (R208-R211) -/

/-- Lanes of a unit (Table WBR-2). -/
def felLanes (x : Nat) : Nat := getAt [2, 4, 8] x 0

/-- Every logical lane of a unit is held by exactly one physical lane of a direction. -/
def State.lanesOk (s : State) (r : Reg) (u l : Fld) (x : Nat) : Bool :=
  (List.range (felLanes x)).all fun k =>
    ((List.range 16).filter fun p => s.fg r u [p] == x && s.fg r l [p] == k).length == 1

/-- A unit's link leaves STATE 0b11 (R211): a PPDU being sent is aborted with its ramp-down, one being received is dropped, and
each counts. -/
def State.felDown (s : State) (x lane : Nat) : State :=
  let s1 := (s.fs FEL_LINK_STATUS FEL_LINK_STATUS_STATE 0 [x]).fs FEL_LINK_STATUS FEL_LINK_STATUS_LOSS_SEEN 1 [x]
  let s2 := (s1.logEv 0x16 0x04 0 x).phy x 0x06 lane
  let s3 :=
    if (s2.exch x).isSome then (s2.abortTx x).bump WB_LINK_ABORT [x]
    else if s2.sending x then (s2.cutBursts x).bump WB_LINK_ABORT [x]
    else s2
  if s3.receiving x then ((s3.setRx x { (s3.wbx x).rx with st := 0 }).bump WB_LINK_ABORT [x]).ccaAfter s3 x else s3

/-- What FEL keeps of a unit in AON. -/
def State.felUnit (s : State) (x : Nat) : FelUnit := SMap.get s.fel.units x {}
/-- Set it. -/
def State.setFelUnit (s : State) (x : Nat) (u : FelUnit) : State :=
  { s with fel := { s.fel with units := SMap.set s.fel.units x u {} } }

/-- A write of FEL_LINKx_CTL (R210). -/
def State.felCtlWrite (s : State) (x : Nat) (v : Word) : State :=
  let use := FEL_LINK_CTL_SYSREF_USE.of v
  let was := s.flag FEL_LINK_CTL FEL_LINK_CTL_ENABLE [x]
  let want := FEL_LINK_CTL_ENABLE.of v == 1
  if use = 3 then s
  else
    let s1 := s.fs FEL_LINK_CTL FEL_LINK_CTL_SYSREF_USE use [x]
    if want && !was then
      if s1.lanesOk FEL_TXLANE FEL_TXLANE_UNIT FEL_TXLANE_LOGICAL x &&
          s1.lanesOk FEL_RXLANE FEL_RXLANE_UNIT FEL_RXLANE_LOGICAL x && s1.domOn (Dom.ofUnit x) then
        (s1.fs FEL_LINK_CTL FEL_LINK_CTL_ENABLE 1 [x]).setFelUnit x { s1.felUnit x with fresh := false }
      else s1.logEv 0x16 0x02 0 x
    else if was && !want then
      let s2 := s1.fs FEL_LINK_CTL FEL_LINK_CTL_ENABLE 0 [x]
      if s2.felUp x then s2.felDown x 0 else s2.fs FEL_LINK_STATUS FEL_LINK_STATUS_STATE 0 [x]
    else s1

/-- FEL_LINK_ENABLE (R210): a write of FEL_LINKx_CTL with ENABLE := 1. -/
def execFelLinkEnable (x : Nat) (who : Init) (v : Word) (s : State) : Host.Outcome State Fault Refusal :=
  .next (s.csrWrite FEL_LINK_CTL [x] who (setFld v 0 0 1) fun t => t.felCtlWrite x (setFld v 0 0 1))

/-- A SYSREF edge at one unit whose link is enabled: aligned by it, or monitored against the alignment held (R210). -/
def State.sysrefUnit (s : State) (x : Nat) (off : Bool) : State :=
  if s.flag FEL_LINK_CTL FEL_LINK_CTL_ENABLE [x] && s.domOn (Dom.ofUnit x) then
    let u := s.felUnit x
    let use := s.fg FEL_LINK_CTL FEL_LINK_CTL_SYSREF_USE [x]
    if use = 1 ∨ (use = 0 ∧ !u.fresh) then s.setFelUnit x { aligned := some s.now, fresh := true }
    else if off && u.aligned.isSome then s.fs FEL_LINK_STATUS FEL_LINK_STATUS_DRIFT_SEEN 1 [x]
    else s
  else s

/-- SYSREF_EDGE (R17, R208, R210): the timebase is recorded in FEL_SYSREF_STAMP, in AON; `off` has bit x set where the edge fell
more than one frame from unit x's expected instant. -/
def execSysrefEdge (off : Nat) (s : State) : Host.Outcome State Fault Refusal :=
  let s0 := { s with fel := { s.fel with stamp := s.now } }
  if s.deaf then .next s else .next (((s0.sysrefUnit 0 (bitN off 0)).sysrefUnit 1 (bitN off 1)).sysrefUnit 2 (bitN off 2))

/-- A unit's samples are aligned as SYSREF_USE asks: since its enable, or at all where it only monitors (R210). -/
def State.felAligned (s : State) (x : Nat) : Bool :=
  if s.fg FEL_LINK_CTL FEL_LINK_CTL_SYSREF_USE [x] = 2 then (s.felUnit x).aligned.isSome else (s.felUnit x).fresh

/-- FEL_LINK_UP (R210): the lanes of an enabled link reach a STATE, 1 sync headers locked, 2 extended multiblocks aligned, 3 up,
the last only with its SYSREF alignment. -/
def execFelLinkUp (x st : Nat) (s : State) : Host.Outcome State Fault Refusal :=
  .next (if x < 3 ∧ s.flag FEL_LINK_CTL FEL_LINK_CTL_ENABLE [x] ∧ s.domOn (Dom.ofUnit x) ∧ !s.deaf ∧
      s.fg FEL_LINK_STATUS FEL_LINK_STATUS_STATE [x] < st ∧ st ≤ 3 ∧ (st < 3 ∨ s.felAligned x) then
    let s1 := s.fs FEL_LINK_STATUS FEL_LINK_STATUS_STATE st [x]
    if st = 3 then (s1.setRx x { (s1.wbx x).rx with idleAt := s1.now }).phy x 0x07 0 else s1
  else s)

/-- FEL_LINK_LOSS (R211): a lane of a unit's link loses lock or alignment. -/
def execFelLinkLoss (x lane : Nat) (s : State) : Host.Outcome State Fault Refusal :=
  .next (if x < 3 ∧ s.felUp x ∧ s.domOn (Dom.ofUnit x) ∧ !s.deaf then s.felDown x lane else s)

/-- A write of FEL_TXLANEp or FEL_RXLANEp (R209). -/
def State.laneWrite (s : State) (r : Reg) (u l : Fld) (p : Nat) (v : Word) : State :=
  let busy (x : Nat) : Bool := decide (x < 3) && s.flag FEL_LINK_CTL FEL_LINK_CTL_ENABLE [x]
  let x := u.of v
  if busy (s.fg r u [p]) || busy x || (decide (x < 3) && decide (felLanes x ≤ l.of v)) then s.logDiscard (r.addr [p])
  else s.plain r [p] v

/-! ## Transmit leave and the baseband's registers (R217-R219) -/

/-- A write of WBx_CTL. TX_EN written 1 while leave waits to be returned asks anew once it has been (R218). -/
def State.wbCtlWrite (s : State) (x : Nat) (v : Word) : State :=
  let sc := WB_CTL_STANDING_CHAINS.of v
  let was := s.flag WB_CTL WB_CTL_TX_EN [x]
  let want := WB_CTL_TX_EN.of v == 1
  if sc = 0 ∨ 16 < sc ∨ (was ∧ sc ≠ s.standingChains x) then s.logDiscard (WB_CTL.addr [x])
  else
    let s1 := s.plain WB_CTL [x] v
    let w := s1.wbx x
    if want && !was then (if w.txOff then s1 else s1.askStanding x)
    else if was && !want then
      let s2 := (s1.setWbx x { w with txAsk := false }).withdraw fun l => l.cls == clsStanding && l.req == 1 && l.index == x
      if s2.flag WB_CTL WB_CTL_TX_LEAVE [x] then
        let s3 := s2.setWbx x { s2.wbx x with txOff := true }
        if (s3.exch x).isSome then s3 else s3.txRelease x
      else s2
    else s1

/-- A unit's standing leave has been granted. -/
def State.standingGranted (s : State) (x : Nat) : State :=
  let w := s.wbx x
  if w.txAsk then (s.setWbx x { w with txAsk := false }).fs WB_CTL WB_CTL_TX_LEAVE 1 [x] else s.returnReq clsStanding 1 x

/-- It has been refused while waiting. -/
def State.standingRefused (s : State) (x : Nat) : State :=
  let w := s.wbx x
  if w.txAsk then ((s.setWbx x { w with txAsk := false }).fs WB_CTL WB_CTL_TX_EN 0 [x]).logEv (0x12 + x) 0x02 0 0 else s

/-- TX_ENABLE (R218): a write of WBx_CTL with TX_EN := 1. -/
def execTxEnable (x : Nat) (who : Init) (v : Word) (s : State) : Host.Outcome State Fault Refusal :=
  .next (s.csrWrite WB_CTL [x] who (setFld v 1 1 1) fun t => t.wbCtlWrite x (setFld v 1 1 1))

/-- TX_DISABLE (R218): a write of WBx_CTL with TX_EN := 0. -/
def execTxDisable (x : Nat) (who : Init) (v : Word) (s : State) : Host.Outcome State Fault Refusal :=
  .next (s.csrWrite WB_CTL [x] who (setFld v 1 1 0) fun t => t.wbCtlWrite x (setFld v 1 1 0))

/-- A write of WBx_DET: out of range, it is discarded whole. -/
def State.detWrite (s : State) (x : Nat) (v : Word) : State :=
  let pd := sgn 8 (WB_DET_PD_LVL.of v)
  let ed := sgn 8 (WB_DET_ED_LVL.of v)
  if pd < -95 ∨ -62 < pd ∨ ed < -82 ∨ -40 < ed ∨ WB_DET_JUMP_DB.of v < 6 ∨ WB_DET_ITER.of v = 0 ∨ 8 < WB_DET_ITER.of v then
    s.logDiscard (WB_DET.addr [x])
  else s.plain WB_DET [x] v

/-- A write of WBx_TXRAMP. -/
def State.rampWrite (s : State) (x : Nat) (v : Word) : State :=
  let p := WB_TXRAMP_PROFILE.of v
  if WB_TXRAMP_PA_LEAD.of v = 0 ∨ WB_TXRAMP_PA_LAG.of v = 0 ∨ 3 < p ∨ WB_TXRAMP_PA_LEAD.of v < rampUnits p then
    s.logDiscard (WB_TXRAMP.addr [x])
  else s.plain WB_TXRAMP [x] v

/-! ## Sounding (R220-R222) -/

/-- This device holds station n's link on unit x. -/
def State.holdsLink (s : State) (n x : Nat) : Bool :=
  s.ctxRole n != 0 && bitN (s.cw n 2) (8 * x + 4) && bits (s.cw n 2) (8 * x + 3) (8 * x) == s.self

/-- Station i of a sounding record. -/
def sndSta (b : Bytes) (i : Nat) : Nat := leAt b (16 + 2 * i) 2

/-- A sounding record passes its checks. -/
def State.sndOk (s : State) (x : Nat) (b : Bytes) : Bool :=
  let n := leAt b 2 1
  let fb := leAt b 5 1
  leAt b 0 1 == 1 && decide (leAt b 1 1 < 4) && decide (1 ≤ n) && decide (n ≤ 16) && decide (leAt b 3 1 ≤ unitBw x) &&
    decide (1 ≤ leAt b 4 1) && decide (leAt b 4 1 ≤ 16) && bits fb 1 0 != 3 && decide (fb < 128) &&
    decide (1 ≤ leAt b 6 2) && decide (leAt b 6 2 ≤ 5000) && decide (1 ≤ leAt b 8 2) && decide (leAt b 8 2 ≤ 1000) &&
    leAt b 10 2 == 0 && leAt b 56 8 == 0 &&
    (List.range 16).all fun i =>
      if i < n then decide (sndSta b i < 1024) && s.holdsLink (sndSta b i) x else sndSta b i == 0

/-- The record's address in a store to a post register: bits 39:6, the other bits ignored (R12, R220, R223). -/
def postAddr (v : Word) : Nat := fld v 39 6 * 64

/-- A store to WBx_SND_POST. -/
def State.sndPost (s : State) (who : Init) (x : Nat) (v : Word) : State :=
  let a := postAddr v
  if !inSram a then s.logDiscard (WB_SND_POST.addr [x])
  else
    let s1 := s.contest 17 x who.contender
    let w := s1.wbx x
    if 4 ≤ w.sounds.length then s1.endSound x a 4 0 0
    else
      let (s2, b, bad) := s1.read a 64 3
      if bad.isSome ∨ !s2.sndOk x b then s2.endSound x a 3 0 0
      else
        let chains := leAt b 4 1
        let need := (chains - s2.standingChains x) * chainLeave x
        let r : Sound := { addr := a, ac := leAt b 1 1, till := s2.now + leAt b 8 2 * 1000000, need, held := false }
        let (s3, ok) := if need = 0 then (s2, true) else s2.askLeave clsFullChain need 1 x
        if ok then s3.setWbx x { s3.wbx x with sounds := w.sounds ++ [r] } else s3.endSound x a 5 0 0

/-- SND_POST (R220). -/
def execSndPost (x : Nat) (who : Init) (v : Word) (s : State) : Host.Outcome State Fault Refusal :=
  .next (s.csrWrite WB_SND_POST [x] who v fun t => t.sndPost who x v)

/-- Mark the first record that waits for a grant of an amount as holding it. -/
def soundHeld (need : Nat) : List Sound → List Sound
  | [] => []
  | r :: t => if r.need = need ∧ !r.held then { r with held := true } :: t else r :: soundHeld need t

/-- A sounding's full-chain leave has been granted; it is returned at once if no record waits for it. -/
def State.soundGranted (s : State) (x need : Nat) : State :=
  let w := s.wbx x
  if w.sounds.any fun r => r.need == need && !r.held then s.setWbx x { w with sounds := soundHeld need w.sounds }
  else { s with pwr := { s.pwr with grants := s.pwr.grants.eraseP fun e => sndLeave x need e.2 } }

/-- It has been refused while waiting. -/
def State.soundRefused (s : State) (x need : Nat) : State :=
  let w := s.wbx x
  match w.sounds.find? fun r => r.need == need && !r.held with
  | some r => (s.setWbx x { w with sounds := w.sounds.erase r }).endSound x r.addr 5 0 0
  | none => s

/-- End the records whose TTL has run out. -/
def State.expireSounds (s : State) (x : Nat) : List Sound → State
  | [] => s
  | r :: t =>
    let s1 :=
      if r.till ≤ s.now then
        (s.setWbx x { s.wbx x with sounds := (s.wbx x).sounds.erase r }).endSound x r.addr 2 0 r.need
      else s
    State.expireSounds s1 x t

/-- SOUNDING_EXPIRE (R221). -/
def execSoundingExpire (x : Nat) (s : State) : Host.Outcome State Fault Refusal :=
  .next (if x < 3 ∧ s.domOn (Dom.ofUnit x) then s.expireSounds x (s.wbx x).sounds else s)

/-- The address of a feedback entry. -/
def State.fbEntry (s : State) (x n : Nat) : Nat := s.fg SPE_FB_BASE SPE_FB_BASE_BASE * 2 ^ 30 + (x * 1024 + n) * 131072

/-- FEEDBACK_RECEIVE (R222): the report of the i-th station of the sounding in progress, or none, with the NDP's start. -/
def execFeedbackReceive (x i ndpAt : Nat) (report : Option Bytes) (s : State) : Host.Outcome State Fault Refusal :=
  match (if s.deaf then none else s.exch x) with
  | some e =>
    match e.sound with
    | some a =>
      let b := s.bytes a 64
      if i < leAt b 2 1 ∧ !bitN e.sndSeen i then
        let e1 := { e with sndSeen := e.sndSeen + 2 ^ i }
        match report with
        | some r =>
          if 131008 < r.length ∨ !s.domOn .spatial then .next ((s.setExch x (some e1)).bump WB_FB_MISSING [x])
          else
            let fb := leAt b 5 1
            let h := leBytes 1 1 ++ slice b 3 2 ++ leBytes 1 (bits fb 6 4 + 1) ++ leBytes 1 (if bitN fb 2 then 16 else 4) ++
              leBytes 1 (bits fb 3 3) ++ leBytes 1 (bits fb 1 0) ++ [0] ++ leBytes 8 ndpAt ++ leBytes 4 r.length ++
              List.replicate 44 0
            .next ((s.setExch x (some { e1 with sndStored := e.sndStored + 2 ^ i })).write (s.fbEntry x (sndSta b i))
              (h ++ r)).1
        | none => .next ((s.setExch x (some e1)).bump WB_FB_MISSING [x])
      else .next s
    | none => .next s
  | none => .next s

/-! ## The spatial engine (R223-R226) -/

/-- Set the spatial engine. -/
def State.setSpe (s : State) (x : Spe) : State := { s with spe := x }

/-- A job ends: bytes 50-63, HANDLE_OUT, zeros and DONE_AT, before STATUS. -/
def State.speEnd (s : State) (a code handle : Nat) : State :=
  ((s.write (a + 50) (leBytes 2 handle ++ leBytes 4 0 ++ leBytes 8 s.now)).1).writeLe (a + 48) 1 code

/-- A store to SPE_SUBMIT. -/
def State.speSubmit (s : State) (who : Init) (v : Word) : State :=
  let a := postAddr v
  if !inSram a then s.logDiscard (SPE_SUBMIT.addr [])
  else
    let s1 := s.contest 18 0 who.contender
    if 64 ≤ s1.spe.queue.length then s1.speEnd a 2 0xFFFF
    else s1.setSpe { s1.spe with queue := s1.spe.queue ++ [a] }

/-- SPE_SUBMIT (R223). -/
def execSpeSubmit (who : Init) (v : Word) (s : State) : Host.Outcome State Fault Refusal :=
  .next (s.csrWrite SPE_SUBMIT [] who v fun t => t.speSubmit who v)

/-- The users of a PRECODE job: local index and NSS. -/
def speUsers (b : Bytes) : List (Nat × Nat) :=
  (List.range (leAt b 2 1)).map fun i => let v := leAt b (16 + 2 * i) 2; (bits v 9 0, bits v 12 10 + 1)

/-- A job record's fields are in range. -/
def speOk (b : Bytes) : Bool :=
  let k := leAt b 0 1
  let n := leAt b 2 1
  let list := leAt b 8 8
  decide (leAt b 1 1 < 3) && decide (leAt b 3 1 < 2) && (slice b 32 16).all (fun y => y == 0) && leAt b 49 1 == 0 &&
    leAt b 52 4 == 0 &&
    (if k = 1 then
       decide (1 ≤ n) && decide (n ≤ 8) && decide (leAt b 6 2 < 512) && ruMap (leAt b 6 2) != 0 && list == 0 &&
         (List.range 8).all fun i => if i < n then decide (leAt b (16 + 2 * i) 2 < 8192) else leAt b (16 + 2 * i) 2 == 0
     else if k = 2 then
       decide (2 ≤ n) && decide (n ≤ 64) && leAt b 4 2 == 0xFFFF && leAt b 6 2 == 0 && list % 8 == 0 && inSram list &&
         (slice b 16 16).all fun y => y == 0
     else k == 3 && n == 0 && leAt b 6 2 == 0 && list == 0 && (slice b 16 16).all fun y => y == 0)

/-- SPE_JOB_START (R224): a free lane takes the oldest job and asks its leave. -/
def execSpeJobStart (lane : Nat) (s : State) : Host.Outcome State Fault Refusal :=
  match s.spe.queue with
  | a :: t =>
    if lane < 2 ∧ s.domOn .spatial ∧ (SMap.find s.spe.lanes lane).isNone then
      let (s1, b, bad) := (s.setSpe { s.spe with queue := t }).read a 64 3
      let k := leAt b 0 1
      if bad.isSome ∨ !speOk b then .next (s1.speEnd a 3 0xFFFF)
      else if k = 3 then .next (s1.setSpe { s1.spe with lanes := SMap.ins s1.spe.lanes lane { addr := a, granted := true } })
      else
        let (s2, ok) := s1.askLeave clsSpatial (if k = 1 then 5000 else 2500) 3 lane
        .next (if ok then s2.setSpe { s2.spe with lanes := SMap.ins s2.spe.lanes lane { addr := a } } else s2.speEnd a 6 0xFFFF)
    else .next s
  | [] => .next s

/-- A lane's leave has been granted, or refused. -/
def State.speGranted (s : State) (lane : Nat) : State :=
  match SMap.find s.spe.lanes lane with
  | some j => s.setSpe { s.spe with lanes := SMap.ins s.spe.lanes lane { j with granted := true } }
  | none => s.returnReq clsSpatial 3 lane
def State.speRefused (s : State) (lane : Nat) : State :=
  match SMap.find s.spe.lanes lane with
  | some j => (s.setSpe { s.spe with lanes := SMap.del s.spe.lanes lane }).speEnd j.addr 6 0xFFFF
  | none => s

/-- A precoder handle of a unit is in use and its life has not run out. -/
def State.precValid (s : State) (x h : Nat) : Bool :=
  let e := SMap.get s.spe.precs (h % 1024) {}
  decide (h < 16384) && e.used && e.unit == x && e.gen == h / 1024 &&
    decide (s.now < e.at_ + s.fg SPE_CFG SPE_CFG_PREC_LIFE * 1000000)

/-- The feedback of a PRECODE user serves the job. -/
def State.fbServes (s : State) (x ru n nss : Nat) (many : Bool) : Bool :=
  let b := s.bytes (s.fbEntry x n) 64
  leAt b 0 1 == 1 && decide (s.now ≤ leAt b 8 8 + s.fg SPE_CFG SPE_CFG_FB_MAX_AGE * 1000000) &&
    decide (ruMap ru < 2 ^ bwPlaces (leAt b 1 1)) && decide (nss ≤ leAt b 3 1) && (!many || leAt b 6 1 == 1)

/-- The lowest precoder entry not in use. -/
def State.freePrec (s : State) : Option Nat := (List.range 1024).find? fun e => !(SMap.get s.spe.precs e ({} : Prec)).used

/-- Write an entry for a PRECODE job. -/
def State.precWrite (s : State) (x e bank : Nat) (stas : List Nat) : State × Nat :=
  let p := SMap.get s.spe.precs e {}
  let gen := (p.gen + 1) % 16
  let h := e + 1024 * gen
  let q : Prec := ⟨true, x, gen, s.now, bank, stas⟩
  let s1 := (s.contest 19 e 513).setSpe { s.spe with precs := SMap.ins s.spe.precs e q }
  ((s1.write (s1.bankAddr e bank) ((Config.coefficients h s.now).take 131072)).1, h)

/-- A PRECODE job runs: its STATUS and handle. -/
def State.precode (s : State) (b : Bytes) : State × Nat × Nat :=
  let x := leAt b 1 1
  let ru := leAt b 6 2
  let h := leAt b 4 2
  let us := speUsers b
  if h ≠ 0xFFFF ∧ !s.precValid x h then (s, 7, 0xFFFF)
  else if !us.all (fun u => s.fbServes x ru u.1 u.2 (decide (2 ≤ us.length))) then (s, 4, 0xFFFF)
  else if h ≠ 0xFFFF then
    let e := h % 1024
    let (s1, g) := s.precWrite x e (1 - (SMap.get s.spe.precs e {}).bank) (us.map Prod.fst)
    (s1, 1, g)
  else
    match s.freePrec with
    | some e => let (s1, g) := s.precWrite x e 0 (us.map Prod.fst); (s1, 1, g)
    | none => (s, 5, 0xFFFF)

/-- The first group from a chosen one on that has fewer than 8 stations. -/
def groupRoom (given : List Nat) (n : Nat) : Nat → Nat → Nat
  | 0, g => g
  | k + 1, g => if (given.filter fun y => y = g).length < 8 then g else groupRoom given n k ((g + 1) % n)

/-- The group numbers of a list of stations, in order. -/
def State.groupsOf (s : State) (x n : Nat) (all : List Nat) : List Nat → Nat → List Nat → List Nat
  | [], _, given => given
  | k :: t, i, given =>
    let b := s.bytes (s.fbEntry x k) 64
    let ok := leAt b 0 1 == 1 && leAt b 6 1 == 1
    let g := if ok then groupRoom given n n (Config.muGroup all s.now i % n) else 0xFF
    State.groupsOf s x n all t (i + 1) (given ++ [g])

/-- Free a precoder entry. -/
def State.precFree (s : State) (e : Nat) : State :=
  let p := SMap.get s.spe.precs e {}
  s.setSpe { s.spe with precs := SMap.ins s.spe.precs e { p with used := false, gen := (p.gen + 1) % 16, stas := [] } }

/-- Run the job of a record: its STATUS and HANDLE_OUT. -/
def State.speRun (s : State) (b : Bytes) : State × Nat × Nat :=
  let x := leAt b 1 1
  if leAt b 0 1 = 1 then s.precode b
  else if leAt b 0 1 = 2 then
    let n := leAt b 2 1
    let a := leAt b 8 8
    let stas := (List.range n).map fun i => leNat (s.bytes (a + 2 * i) 2) % 1024
    let gs := s.groupsOf x n stas stas 0 []
    ((s.write (a + 128) (gs.flatMap fun g => leBytes 1 g)).1, 1, 0xFFFF)
  else if s.precValid x (leAt b 4 2) then (s.precFree (leAt b 4 2 % 1024), 1, 0xFFFF)
  else (s, 7, 0xFFFF)

/-- SPE_JOB_DONE (R224): a lane's job ends, and its leave is returned. -/
def execSpeJobDone (lane : Nat) (s : State) : Host.Outcome State Fault Refusal :=
  match SMap.find s.spe.lanes lane with
  | some j =>
    if j.granted then
      let s1 := (s.cross 33 0).setSpe { s.spe with lanes := SMap.del s.spe.lanes lane }
      let (s2, code, h) := s1.speRun (s1.bytes j.addr 64)
      .next ((s2.speEnd j.addr code h).returnReq clsSpatial 3 lane)
    else .next s
  | none => .next s

/-- PRECODER_EXPIRE (R225): an entry whose life has run out is freed. -/
def execPrecoderExpire (e : Nat) (s : State) : Host.Outcome State Fault Refusal :=
  let p := SMap.get s.spe.precs e {}
  .next (if p.used ∧ p.at_ + s.fg SPE_CFG SPE_CFG_PREC_LIFE * 1000000 ≤ s.now ∧ s.domOn .spatial then s.precFree e else s)

/-- End every record of a list ABORTED. -/
def State.speAbort (s : State) : List Nat → State
  | [] => s
  | a :: t => State.speAbort (s.speEnd a 8 0xFFFF) t

/-- SPATIAL leaves on (R223). -/
def State.speDown (s : State) : State :=
  let s1 := s.speAbort (s.spe.lanes.map (fun e => e.2.addr) ++ s.spe.queue)
  s1.setSpe { s1.spe with queue := [], lanes := [] }

/-- A write of SPE_CFG. -/
def State.speCfgWrite (s : State) (v : Word) : State :=
  if SPE_CFG_PREC_LIFE.of v = 0 ∨ SPE_CFG_FB_MAX_AGE.of v = 0 then s.logDiscard (SPE_CFG.addr []) else s.plain SPE_CFG [] v

/-- Some feedback entry is valid. -/
def State.fbAny (s : State) : Bool :=
  let b := s.fg SPE_FB_BASE SPE_FB_BASE_BASE * 2 ^ 30
  s.mem.any fun c => decide (b ≤ c.1) && decide (c.1 < b + 3072 * 131072) && (c.1 - b) % 131072 == 0 && c.2 == 1

/-- A write of SPE_FB_BASE. -/
def State.fbBaseWrite (s : State) (v : Word) : State :=
  if 6 < SPE_FB_BASE_BASE.of v ∨ s.fbAny ∨ !s.spe.queue.isEmpty ∨ !s.spe.lanes.isEmpty then s.logDiscard (SPE_FB_BASE.addr [])
  else s.plain SPE_FB_BASE [] v

/-- A radio domain leaves on: its link leaves STATE 0b11, its plans and exchanges end, and its standing and full-chain leave is
returned: TX_LEAVE clears, and TX_EN with it, to be written 1 again (R170, R210, R218; the latter DESIGN CHOICE, assumption
151). -/
def State.radioDown (s : State) (x : Nat) : State :=
  let s1 := (s.wbx x).sounds.foldl (fun (t : State) r => t.endSound x r.addr 2 0 r.need) s
  let s2 := (s1.airUnitDown x).giveBack fun l => l.req == 1 && l.index == x
  let s3 := (s2.withdraw fun l => l.req == 1 && l.index == x).setWbx x {}
  let s4 := (s3.fs WB_CTL WB_CTL_TX_LEAVE 0 [x]).fs WB_CTL WB_CTL_TX_EN 0 [x]
  let s5 := if s4.felUp x then s4.fs FEL_LINK_STATUS FEL_LINK_STATUS_LOSS_SEEN 1 [x] else s4
  let s6 := s5.fs FEL_LINK_STATUS FEL_LINK_STATUS_STATE 0 [x]
  { s6 with wmac := { s6.wmac with resp := SMap.del s6.wmac.resp x } }

end Sys2Proof.Machine
end

