-- ==== Sys2Proof/Machine/TlmPhy.lean ====
section
/-! DEFINITION. The telemetry radio's PHY and its TIQ port (R230, R232, R234, R237, R238): coding and the trellis decoder, the
bits of a frame on the air, the transmit ramp, and the control word. The code, its tail, the interleaver, the PHR and the SFD
values are IEEE 802.15.4-2020's (PRESUMED, log 152). -/

namespace Sys2Proof.Machine

/-! ## Bits -/

/-- The n bits of a value as the PHY sends a field, the most significant first. -/
def phrField (n v : Nat) : List Bool := (List.range n).map fun i => bitN v (n - 1 - i)

/-- The value of bits, the most significant first. -/
def bitsMsb (b : List Bool) : Nat := b.foldl (fun v x => 2 * v + b2n x) 0

/-- The bits of bytes, each octet's least significant first. -/
def octetBits (b : Bytes) : List Bool := b.flatMap fun x => (List.range 8).map fun i => bitN x.toNat i

/-- The bytes of bits, each octet's least significant first. -/
def bitOctets (b : List Bool) : Nat → Bytes
  | 0 => []
  | n + 1 => BitVec.ofNat 8 (bitsMsb (b.take 8).reverse) :: bitOctets (b.drop 8) n

/-! ## Coding (R232) -/

/-- One step of the rate-1/2, constraint-length-4 code from a state of three bits, the newest highest: the next state and the
two code bits. NRNSC sends 1 + D + D² + D³ and 1 + D² + D³ of the input; RSC sends the input, and feeds 1 + D + D² + D³ back. -/
def codeStep (rsc : Bool) (st : Nat) (x : Bool) : Nat × (Bool × Bool) :=
  let m1 := bitN st 2
  let m2 := bitN st 1
  let m3 := bitN st 0
  let f := x ^^ m1 ^^ m2 ^^ m3
  let inp := if rsc then f else x
  (4 * b2n inp + st / 2, if rsc then (x, f ^^ m2 ^^ m3) else (f, x ^^ m2 ^^ m3))

/-- The input that leads the code to its all-zero state. -/
def tailBit (rsc : Bool) (st : Nat) : Bool := rsc && (bitN st 2 ^^ bitN st 1 ^^ bitN st 0)

/-- Code bits in order from a state, and three tail bits that end in state 0. -/
def codeTail (rsc : Bool) : Nat → Nat → List (Bool × Bool)
  | 0, _ => []
  | n + 1, st => (codeStep rsc st (tailBit rsc st)).2 :: codeTail rsc n (codeStep rsc st (tailBit rsc st)).1

/-- The code symbols of bits from a state, with the tail. -/
def encodeFrom (rsc : Bool) : Nat → List Bool → List (Bool × Bool)
  | st, [] => codeTail rsc 3 st
  | st, x :: t => (codeStep rsc st x).2 :: encodeFrom rsc (codeStep rsc st x).1 t

/-- The place from which symbol t of a block of 16 is taken; the same map takes it back. -/
def ilvPlace (t : Nat) : Nat := 15 - 4 * (t % 4) - t / 4

/-- Interleave code symbols block by block of 16; a last block that is not whole keeps its order. -/
def interleave {α : Type} : Nat → List α → List α
  | 0, l => l
  | n + 1, l =>
    if l.length < 16 then l else (List.range 16).filterMap (fun t => l[ilvPlace t]?) ++ interleave n (l.drop 16)

/-- A survivor of the trellis: its metric and its input bits, newest first; none while its state has not been reached. -/
abbrev Path := Option (Int × List Bool)

/-- The metric of a code symbol against two soft values, a positive value standing for 1. -/
def symMetric (v : Int × Int) (c : Bool × Bool) : Int := (if c.1 then v.1 else -v.1) + (if c.2 then v.2 else -v.2)

/-- The better of two survivors; the first at equal metrics. -/
def betterPath : Path → Path → Path
  | some a, some b => if a.1 < b.1 then some b else some a
  | some a, none => some a
  | none, b => b

/-- One step of the 8-state decoder: each state keeps the best of the paths that lead to it. -/
def trellisStep (rsc : Bool) (v : Int × Int) (ps : List Path) : List Path :=
  let moves := (List.range 8).flatMap fun st => [(st, false), (st, true)]
  (List.range 8).map fun ns => moves.foldl (fun best m =>
    let (nx, c) := codeStep rsc m.1 m.2
    if nx = ns then betterPath best ((ps.getD m.1 none).map fun p => (p.1 + symMetric v c, m.2 :: p.2)) else best) none

/-- The decoder's survivors after some symbols. -/
def trellisRun (rsc : Bool) : List (Int × Int) → List Path → List Path
  | [], ps => ps
  | v :: t, ps => trellisRun rsc t (trellisStep rsc v ps)

/-- Decode soft code symbols from state 0: the input bits without the tail, and whether the best path has ended in state 0. -/
def trellis (rsc : Bool) (vs : List (Int × Int)) : List Bool × Bool :=
  let ps := trellisRun rsc vs (some (0, []) :: List.replicate 7 none)
  let best := ps.foldl betterPath none
  match best with
  | some p => ((p.2.drop 3).reverse, best == ps.getD 0 none)
  | none => ([], false)

/-- Soft values two by two. -/
def softPairs : List Int → List (Int × Int)
  | a :: b :: t => (a, b) :: softPairs t
  | _ => []

/-- A received part of a frame from its soft values (a positive value standing for 1), and whether it ended as its code does:
uncoded bits as they are, coded ones de-interleaved and decoded. -/
def decodePart (coded rsc ilv : Bool) (soft : List Int) : List Bool × Bool :=
  if coded then
    let ps := softPairs soft
    trellis rsc (if ilv then interleave ps.length ps else ps)
  else (soft.map fun v => decide (0 < v), true)

/-- A part of a frame as it is sent. -/
def encodePart (coded rsc ilv : Bool) (b : List Bool) : List Bool :=
  if coded then
    let ps := encodeFrom rsc 0 b
    (if ilv then interleave ps.length ps else ps).flatMap fun c => [c.1, c.2]
  else b

/-! ## Profiles and frames -/

/-- Symbol rate of a profile RATE, ksym/s (Table TLM-1). -/
def profSyms (r : Nat) : Nat := getAt [50, 100, 150, 200, 100, 300, 200] r 0

/-- The bits each symbol of a profile RATE carries. -/
def profBits (r : Nat) : Nat := if r = 4 ∨ r = 6 then 2 else 1

/-- The time of n symbols of a profile, ns. -/
def State.profNs (s : State) (p n : Nat) : Nat := n * 1000000 / max 1 (profSyms (s.fg TLM_PROF TLM_PROF_RATE [p]))

/-- A profile's coded frames use RSC; its FEC 0b11 sends NRNSC. -/
def State.profRsc (s : State) (p : Nat) : Bool := s.fg TLM_PROF TLM_PROF_FEC [p] == 2

/-- The SFD values of a phySunFskSfd value: uncoded, coded (IEEE 802.15.4-2020). -/
def sfdValues (sel : Nat) : Nat × Nat := if sel = 0 then (0x904E, 0x6F4E) else (0x7A0E, 0x632D)

/-- The PHR of a frame: mode switch and two reserved bits 0, the FCS type (1 for 2 octets), no whitening, and the length. -/
def phrBits (len : Nat) (fcs4 : Bool) : List Bool := [false, false, false, !fcs4, false] ++ phrField 11 len

/-- The bits of preamble and SFD. -/
def State.shrBits (s : State) (p : Nat) : List Bool :=
  let v := sfdValues (s.fg TLM_PROF TLM_PROF_SFD_SEL [p])
  octetBits (List.replicate (s.fg TLM_PROF TLM_PROF_PRE_LEN [p]) 0x55) ++
    phrField 16 (if s.fg TLM_PROF TLM_PROF_FEC [p] = 0 then v.1 else v.2)

/-- The bits of PHR and PSDU as a profile sends them. -/
def State.dataBits (s : State) (p : Nat) (psdu : Bytes) (fcs4 : Bool) : List Bool :=
  let part := encodePart (s.fg TLM_PROF TLM_PROF_FEC [p] != 0) (s.profRsc p) (s.flag TLM_PROF TLM_PROF_ILV [p])
  part (phrBits psdu.length fcs4) ++ part (octetBits psdu)

/-- The time on the air of a PSDU in a profile, ns: preamble and SFD at one bit a symbol. -/
def State.frameNs (s : State) (p : Nat) (psdu : Bytes) (fcs4 : Bool) : Nat :=
  let k := profBits (s.fg TLM_PROF TLM_PROF_RATE [p])
  s.profNs p ((s.shrBits p).length + ((s.dataBits p psdu fcs4).length + k - 1) / k)

/-- A frame sent in a profile from an instant P, with the ramp in force now (R238). -/
def State.mkBurst (s : State) (p at_ freq : Nat) (ant : Bool) (psdu : Bytes) (fcs4 : Bool) (ends : Option Nat) : TlmBurst :=
  let r := s.fg TLM_PROF TLM_PROF_RAMP [p]
  { at_, till := at_ + s.frameNs p psdu fcs4, step := s.fg TLM_RAMP_T TLM_RAMP_T_STEP [r] * 1000,
    lead := s.fg TLM_RAMP_T TLM_RAMP_T_LEAD [r] * 1000, lag := s.fg TLM_RAMP_T TLM_RAMP_T_LAG [r] * 1000,
    amp := s.fg TLM_RAMP TLM_RAMP_AMP [r], freq, ant, bits := s.shrBits p ++ s.dataBits p psdu fcs4, ends }

/-! ## The transmit ramp (R238) -/

/-- The instants at which TLM_PA_EN rises and falls for a transmission. -/
def TlmBurst.rise (b : TlmBurst) : Nat := b.at_ - (8 * b.step + b.lead)
def TlmBurst.fall (b : TlmBurst) : Nat := b.till + 8 * b.step + b.lag

/-- Amplitude step k of a ramp. -/
def rampAmp (amp k : Nat) : Nat := bits amp (8 * k + 7) (8 * k)

/-- The amplitude of a transmission at an instant, in 1/255 of full scale: the steps up to P, the last step while it is
modulated, the steps in reverse, and 0 outside. -/
def TlmBurst.level (b : TlmBurst) (now : Nat) : Nat :=
  if now + 8 * b.step < b.at_ then 0
  else if now < b.at_ then rampAmp b.amp ((now + 8 * b.step - b.at_) / max 1 b.step)
  else if now < b.till then rampAmp b.amp 7
  else if now < b.till + 8 * b.step then rampAmp b.amp (7 - (now - b.till) / max 1 b.step)
  else 0

/-- The port is told a slot's carrier frequency and antenna SETTLE before its first radio event (R237). -/
def State.tlmTune (s : State) (event freq : Nat) (ant : Bool) : State :=
  let x := s.tlm
  let old := (x.tunes.filter fun t => decide (t.1 ≤ s.now)).getLast?
  { s with tlm := { x with
      tunes := old.toList ++ [(event - s.fg TLM_TIQ TLM_TIQ_SETTLE * 1000, freq, ant)] } }

/-- The frequency and antenna the port has been told. -/
def State.tlmTuned (s : State) : Nat × Bool :=
  match (s.tlm.tunes.filter fun t => decide (t.1 ≤ s.now)).getLast? with
  | some t => t.2
  | none => (0, false)

/-- Place a transmission; those whose ramp has ended are gone. -/
def State.tlmPlace (s : State) (b : TlmBurst) : State :=
  { s with tlm := { s.tlm with air := (s.tlm.air.filter fun c => decide (s.now < c.fall) || c.ends.isSome) ++ [b] } }

/-- A transmission in progress ramps down at once; one not begun is not made. -/
def State.tlmCut (s : State) : State :=
  { s with tlm := { s.tlm with air := (s.tlm.air.filter fun b => decide (b.at_ ≤ s.now)).map fun b =>
      { b with till := min b.till s.now } } }

/-- A transmission has begun, or its ramp has, and has not ended. -/
def State.tlmSending (s : State) : Bool := s.tlm.air.any fun b => decide (b.at_ ≤ s.now + 8 * b.step) && decide (s.now < b.till)

end Sys2Proof.Machine
end

