-- ==== Sys2Proof/Machine/Tlm.lean ====
section
/-! DEFINITION. The telemetry radio (chapter 10): slots and cells, acquisition, transmit and receive entries, neighbours, and
enhanced acknowledgements. -/

namespace Sys2Proof.Machine

/-- Set the telemetry radio's state. -/
def State.setTlm (s : State) (x : Tlm) : State := { s with tlm := x }

/-- TLM runs: TELEM is on and ENABLE is 1. -/
def State.tlmOn (s : State) : Bool := s.domOn .telem && s.flag TLM_CTL TLM_CTL_ENABLE

/-- TS_LEN in ns. -/
def State.tsLen (s : State) : Nat := s.fg TLM_SLOT TLM_SLOT_TS_LEN * 1000

/-- The ASN of the present instant; none before EPOCH. -/
def State.asnNow (s : State) : Option Nat :=
  let e := (s.rg TLM_EPOCH).toNat
  if s.now < e then none else some ((s.now - e) / s.tsLen)

/-- A neighbour's fields. -/
def State.nbValid (s : State) (n : Nat) : Bool := decide (n ≤ 4096) && s.flag TLM_NBR1 TLM_NBR1_VALID [n]
def State.nbState (s : State) (n : Nat) : Nat := s.fg TLM_NBR1 TLM_NBR1_STATE [n]
/-- DRIFT in ppb. -/
def State.nbDrift (s : State) (n : Nat) : Int := sgn 32 (s.fg TLM_NBR3 TLM_NBR3_DRIFT [n])

/-- The valid neighbours. -/
def State.nbList (s : State) : List Nat :=
  (s.csr.filterMap fun e =>
    if 0x1840008 ≤ e.1 ∧ e.1 < 0x1840008 + 4096 * 32 ∧ (e.1 - 0x1840008) % 32 = 0 then some ((e.1 - 0x1840008) / 32) else none).filter
    s.nbValid

/-- Raise a notice (R249). -/
def State.tlmNotice (s : State) (kind entry nbr asn : Nat) : State :=
  s.raise { typ := 5, record := leBytes 2 kind ++ leBytes 2 entry ++ leBytes 2 nbr ++ leBytes 2 0 ++ leBytes 8 asn }

/-- The 2-octet FCS: CRC-16 of x^16 + x^12 + x^5 + 1, least significant bit first, from 0. -/
def fcs16 (b : Bytes) : Nat :=
  (b.foldl (fun (c : BitVec 32) x => crcBitsR 0x8408 8 (c ^^^ x.setWidth 32)) 0).toNat

/-- The FCS of a frame, 2 or 4 octets. -/
def tlmFcs (fcs4 : Bool) (b : Bytes) : Bytes := if fcs4 then leBytes 4 (crc32 b).toNat else leBytes 2 (fcs16 b)

/-- A frame less its FCS, if the FCS is good. -/
def fcsTaken (fcs4 : Bool) (b : Bytes) : Option Bytes :=
  let n := b.length - if fcs4 then 4 else 2
  if b.drop n = tlmFcs fcs4 (b.take n) then some (b.take n) else none

/-! ## Transmit entries (R244, R246) -/

/-- The address of a transmit entry and of a receive entry. -/
def State.txEntry (s : State) (i : Nat) : Nat := s.fg TLM_TXBASE TLM_TXBASE_ADDR * 64 + 2112 * i
def State.rxEntry (s : State) (i : Nat) : Nat := s.fg TLM_RXBASE TLM_RXBASE_ADDR * 64 + 2112 * i

/-- The fields of a posted header (Table TLM-5). -/
def TlmTx.ackReq (e : TlmTx) : Bool := bitN (leAt e.hdr 6 1) 0
def TlmTx.fcs4 (e : TlmTx) : Bool := bitN (leAt e.hdr 6 1) 2
def TlmTx.shared (e : TlmTx) : Bool := bitN (leAt e.hdr 6 1) 3
def TlmTx.payOff (e : TlmTx) : Nat := leAt e.hdr 10 2
def TlmTx.len (e : TlmTx) : Nat := leAt e.hdr 4 2
def TlmTx.notAfter (e : TlmTx) : Nat := leAt e.hdr 24 8

/-- Free the slots of some jobs. -/
def State.freeJobs (s : State) : List Nat → State
  | [] => s
  | j :: t => State.freeJobs (s.freeJob j) t

/-- A transmit entry ends with a status: its slots are freed and TX_DONE is raised. -/
def State.endEntry (s : State) (i code : Nat) : State :=
  match s.tlm.tx.find? fun e => e.entry == i with
  | some e =>
    let s1 := (s.writeLe (s.txEntry i) 1 code).setTlm { s.tlm with
      tx := s.tlm.tx.filter (fun k => k.entry ≠ i)
      await := s.tlm.await.filter fun w => w.entry ≠ i
      air := s.tlm.air.map fun b => if b.ends = some i then { b with ends := none } else b }
    let s2 := s1.freeJobs (e.job.toList ++ (s.tlm.await.filter fun w => w.entry = i).filterMap TlmAwait.job)
    s2.tlmNotice 2 i e.nbr (s2.fg TLM_ASN TLM_ASN_ASN)
  | none => s

/-- End several entries. -/
def State.endEntries (s : State) (code : Nat) : List Nat → State
  | [] => s
  | i :: t => State.endEntries (s.endEntry i code) code t

/-- The MIC bytes of a security level. -/
def levelMic (l : Nat) : Nat := if l = 5 then 4 else if l = 6 then 8 else if l = 7 then 16 else 0

/-- The CCM* nonce: the sender's extended address, the frame counter, the level. -/
def tlmNonce (ext fc level : Nat) : Bytes := beBytes 8 ext ++ beBytes 4 fc ++ leBytes 1 level

/-- Assign the next frame counter; none at the end of the counter space. -/
def State.nextFc (s : State) : Option (State × Nat) :=
  let n := s.fg TLM_TXFC TLM_TXFC_NEXT
  if n = 0xFFFFFFFF then none
  else
    let s1 := s.fs TLM_TXFC TLM_TXFC_NEXT (n + 1)
    some (if n + 1 = 0xFFFF0000 then s1.logEv 0x18 0x0C 0 0xFFFF0000 else s1, n)

/-- The payload of an entry in segments of at most 512 bytes. -/
def splitSegs (a : Nat) : Nat → Nat → List (Nat × Nat)
  | 0, _ => []
  | f + 1, len => if len = 0 then [] else (a, min 512 len) :: splitSegs (a + 512) f (len - 512)

/-- The key of frames to and from a neighbour: entry 4,096's for a broadcast (R246). -/
def State.tlmKey (s : State) (n : Nat) (bcast : Bool) : Nat := s.fg TLM_NBR1 TLM_NBR1_KEY [if bcast then 4096 else n]

/-- A transmit entry passes its checks at post; an entry for a neighbour with SEC = 1 must ask for protection. -/
def State.txOk (s : State) (h : Bytes) : Bool :=
  let nbr := leAt h 2 2
  let flags := leAt h 6 1
  let sec := bitN flags 1
  let lv := leAt h 7 1
  let n := leAt h 4 2 + (if bitN flags 2 then 4 else 2) + levelMic lv
  s.nbValid nbr && (sec || !s.flag TLM_NBR1 TLM_NBR1_SEC [nbr]) && decide (5 ≤ n) && decide (n ≤ 2047) && decide (flags < 16) &&
    (if sec then levelMic lv != 0 else lv == 0) && leAt h 8 1 == 0 && (slice h 32 32).all (fun y => y == 0) &&
    (!sec || (decide (leAt h 10 2 ≤ leAt h 4 2) && decide (leAt h 10 2 ≤ 32) && decide (leAt h 9 1 + 5 ≤ leAt h 10 2)))

/-- Protect an entry: a frame counter is assigned and written, and the job is raised. Entries without one end KEY. -/
def State.protectEntry (s : State) (i : Nat) (h : Bytes) : State :=
  match s.nextFc with
  | none => s.endEntry i 6
  | some (s1, fc) =>
    let a := s.txEntry i
    let nbr := leAt h 2 2
    let lv := leAt h 7 1
    let pay := leAt h 10 2
    let len := leAt h 4 2
    let s2 := (s1.writeLe (a + 12) 4 fc).writeLe (a + 64 + leAt h 9 1 + 1) 4 fc
    let aad := s2.bytes (a + 64) pay
    let d := mkDesc 1 8 (levelMic lv) (s2.fg TLM_NBR1 TLM_NBR1_KEY [nbr]) (len - pay)
      (tlmNonce (s2.rg TLM_OWN).toNat fc lv) aad (splitSegs (a + 64 + pay) 32 (len - pay)) (len - pay)
    match s2.raiseJob 3 true d with
    | (s3, some j) =>
      s3.setTlm { s3.tlm with tx := s3.tlm.tx.map fun e => if e.entry = i then { e with job := some j } else e }
    | (s3, none) => s3.endEntry i 6

/-- A store to TLM_TXPOST. -/
def State.txPost (s : State) (v : Word) : State :=
  let i := TLM_TXPOST_ENTRY.of v
  if s.tlm.tx.any fun e => e.entry == i then s.logDiscard (TLM_TXPOST.addr [])
  else
    let (s1, h, bad) := s.read (s.txEntry i) 64 3
    let e : TlmTx := { entry := i, nbr := leAt h 2 2, prot := bitN (leAt h 6 1) 1, hdr := h.take 32 }
    let s2 := (s1.setTlm { s1.tlm with tx := s1.tlm.tx ++ [e] }).writeLe (s.txEntry i + 1) 1 0
    if bad.isSome ∨ !s2.txOk h then s2.endEntry i 5
    else if e.prot then s2.protectEntry i h else s2

/-- TLM_TXPOST (R244). -/
def execTlmTxpost (who : Init) (v : Word) (s : State) : Host.Outcome State Fault Refusal :=
  .next (s.csrWrite TLM_TXPOST [] who v fun t => t.txPost v)

/-- An entry never sent ends EXPIRED after NOT_AFTER. -/
def TlmTx.lateAt (e : TlmTx) (t : Nat) : Bool := e.tries == 0 && e.notAfter != 0 && decide (e.notAfter < t)

/-- TLM_ENTRY_EXPIRE (R244): an entry not yet sent after NOT_AFTER ends EXPIRED. -/
def execTlmEntryExpire (i : Nat) (s : State) : Host.Outcome State Fault Refusal :=
  .next (match s.tlm.tx.find? fun e => e.entry == i with
    | some e => if s.domOn .telem ∧ e.lateAt s.now then s.endEntry i 4 else s
    | none => s)

/-- The neighbour of a pending entry. -/
def State.entryNbr (s : State) (i : Nat) : Nat := match s.tlm.tx.find? fun e => e.entry == i with | some e => e.nbr | none => 0

/-- An awaited acknowledgement is good: its entry ends ACKED, and the neighbour's backoff is over. -/
def State.ackGood (s : State) (w : TlmAwait) : State :=
  let s1 := s.endEntry w.entry 1
  s1.setTlm { s1.tlm with backoff := SMap.del s1.tlm.backoff (s.entryNbr w.entry) }

/-- No acknowledgement has come: a shared transmission backs off further, and at MAX_TX transmissions the entry ends NO_ACK. -/
def State.ackLost (s : State) (w : TlmAwait) (draw : Nat) : State :=
  let nbr := s.entryNbr w.entry
  let tries := match s.tlm.tx.find? fun e => e.entry == w.entry with | some e => e.tries | none => 0
  let be := min 5 ((SMap.get s.tlm.backoff nbr (0, 0)).1 + 1)
  let s1 := (s.setTlm { s.tlm with
    await := s.tlm.await.filter fun k => k.entry ≠ w.entry
    backoff := if w.shared then SMap.ins s.tlm.backoff nbr (be, draw % 2 ^ be) else s.tlm.backoff }).freeJobs w.job.toList
  if s1.fg TLM_CTL TLM_CTL_MAX_TX ≤ tries then (s1.endEntry w.entry 3).bump TLM_TX_NO_ACK else s1

/-- TLM_ACK_WAIT_EXPIRE (R244): the window of an awaited acknowledgement has passed and none has begun in it. -/
def execTlmAckWaitExpire (draw : Nat) (s : State) : Host.Outcome State Fault Refusal :=
  match s.tlm.await.find? fun w => w.job.isNone && decide (w.closes ≤ s.now) with
  | some w => .next (if s.tlmOn then s.ackLost w draw else s)
  | none => .next s

/-! ## Slots and cells (R239, R240, R242, R243) -/

/-- A cell's fields. -/
def ceType (c : Nat) : Nat := bits c 2 0
def ceNbr (c : Nat) : Nat := bits c 28 16
def ceOff (c : Nat) : Nat := bits c 38 32
def ceAnt (c : Nat) : Bool := bitN c 39

/-- An entry is in transmission, or its acknowledgement is awaited. -/
def State.entryBusy (s : State) (i : Nat) : Bool :=
  (s.tlm.await.any fun w => w.entry == i) || (s.tlm.air.any fun b => b.ends == some i)

/-- The first entry of a neighbour, if it may be sent in a frame starting at P: protected if it must be, not expired, its
profile enabled, and not to a neighbour in REFIND. -/
def State.sendable (s : State) (p nbr : Nat) (shared : Bool) : Option TlmTx :=
  match s.tlm.tx.find? fun e => e.nbr == nbr with
  | some e =>
    let ok := !e.prot || (match e.job with | some j => s.jobOk j | none => false)
    if ok && !e.lateAt p && !s.entryBusy e.entry && s.flag TLM_PROF TLM_PROF_EN [s.fg TLM_NBR1 TLM_NBR1_PROF [nbr]] &&
        (nbr == 4096 || s.nbState nbr != 2) && (!shared || e.shared) then some e else none
  | none => none

/-- The neighbours a cell's transmission may be for. -/
def State.cellNbrs (s : State) (c : Nat) : List Nat :=
  if ceType c = 3 ∧ ceNbr c = 4096 then ((s.tlm.tx.map TlmTx.nbr).filter fun n => n ≠ 4096).eraseDups else [ceNbr c]

/-- The entry a cell would send in a frame starting at P. Entries for neighbour 4,096 go in ADV cells only. -/
def State.cellSends (s : State) (p c : Nat) : Option TlmTx :=
  if ceType c = 1 then (if ceNbr c = 4096 then none else s.sendable p (ceNbr c) false)
  else if ceType c = 3 then (s.cellNbrs c).findSome? fun n => if n = 4096 then none else s.sendable p n true
  else if ceType c = 4 then s.sendable p 4096 false
  else none

/-- The start of a slot, and of a frame sent in it. -/
def State.slotAt (s : State) (asn : Nat) : Nat := (s.rg TLM_EPOCH).toNat + asn * s.tsLen
def State.txAt (s : State) (asn : Nat) : Nat := s.slotAt asn + s.fg TLM_SLOT TLM_SLOT_TX_OFFSET * 1000

/-- The cell of the lowest-numbered enabled slotframe; a TX or TX_SHARED cell with nothing to send yields to the next
slotframe's, and a TX_SHARED cell that no other follows listens. -/
def State.pickCell (s : State) (asn : Nat) : List Nat → Option Nat → State × Option Nat
  | [], last => (s, last)
  | f :: t, last =>
    if s.flag TLM_SF TLM_SF_ENABLE [f] then
      let a := s.fg TLM_CELL_BASE TLM_CELL_BASE_ADDR * 524288 + f * 524288 + 8 * (asn % max 1 (s.fg TLM_SF TLM_SF_LEN [f]))
      let (s1, b, bad) := s.read a 8 3
      let c := if bad.isSome then 0 else leNat b
      let s2 := if 5 ≤ ceType c then s1.bump TLM_SLOT_SKIPPED else s1
      let dead := decide (5 ≤ ceType c) || decide (4096 < ceNbr c)
      if dead then (s2, none)
      else if (ceType c = 1 ∨ ceType c = 3) ∧ (s2.cellSends (s2.txAt asn) c).isNone then
        State.pickCell s2 asn t (if ceType c = 3 then some c else last)
      else (s2, some c)
    else State.pickCell s asn t last

/-- The frequency of a slot in Hz. -/
def State.slotFreq (s : State) (asn off : Nat) : Nat :=
  let hop := s.fg TLM_HOP TLM_HOP_CHAN [(asn + off) % max 1 (s.fg TLM_CHAN TLM_CHAN_HOP_LEN)]
  s.fg TLM_CHAN TLM_CHAN_F0 + hop * s.fg TLM_CHAN TLM_CHAN_SPACING * 1000

/-- A frequency lies in the bands. -/
def inBand (f : Nat) : Bool :=
  (decide (863000000 ≤ f) && decide (f ≤ 870000000)) || (decide (902000000 ≤ f) && decide (f ≤ 928000000))

/-- Δt of a neighbour, µs. -/
def State.nbDt (s : State) (n asn : Nat) : Nat := (asn - s.fg TLM_NBR2 TLM_NBR2_REF_ASN [n]) * s.fg TLM_SLOT TLM_SLOT_TS_LEN

/-- The window of an RX cell, in ns from the slot's start: opens and closes, clipped to the slot (R242, R243). -/
def State.rxWindow (s : State) (n asn : Nat) : Nat × Nat :=
  let dt := s.nbDt n asn
  let st := if n = 4096 then 0 else s.nbState n
  let pred : Int := if st = 0 then 0 else s.nbDrift n * dt / 1000000
  let wide := s.fg TLM_DRIFT_CFG TLM_DRIFT_CFG_WIDE_MAX * 1000
  let base := s.fg TLM_SLOT TLM_SLOT_RX_WAIT * 1000
  let w :=
    if st = 0 then base
    else if st = 2 then wide
    else min (base + 2 * (s.fg TLM_DRIFT_CFG TLM_DRIFT_CFG_MARGIN * dt / 1000)) wide
  let mid : Int := s.fg TLM_SLOT TLM_SLOT_TX_OFFSET * 1000 + pred
  ((mid - (w / 2 : Nat)).toNat, min s.tsLen (mid + (w / 2 : Nat)).toNat)

/-- The PSDU of an entry: its frame, with its payload encrypted and its MIC where it is protected, and the FCS. -/
def State.entryPsdu (s : State) (e : TlmTx) : Bytes :=
  let f := s.bytes (s.txEntry e.entry + 64) e.len
  let b := match e.job with | some j => f.take e.payOff ++ s.protect j (f.drop e.payOff) | none => f
  b ++ tlmFcs e.fcs4 b

/-- An acknowledgement of a frame that ends at an instant may start within ACK_WAIT around 1,000 µs after it. -/
def State.ackWindow (s : State) (stop : Nat) : Nat × Nat :=
  let w := s.fg TLM_SLOT TLM_SLOT_ACK_WAIT * 1000
  (stop + 1000000 - w / 2, stop + 1000000 + w / 2)

/-- A transmission of an entry whose frame has its first uncorrectable word at an address: it ramps down there as after a TIQ
underrun, and the entry ends BAD_ENTRY (Table MEM-4). -/
def State.sendBad (s : State) (e : TlmTx) (b : TlmBurst) (p word : Nat) : State :=
  let here := (s.entryPsdu e).take (word - (s.txEntry e.entry + 64))
  let n := (s.shrBits p).length + (s.dataBits p here e.fcs4).length
  ((s.tlmPlace { b with till := b.at_ + s.frameNs p here e.fcs4, bits := b.bits.take n, ends := none }).bump MEM_UE_FRAME).endEntry
    e.entry 5

/-- Send an entry in its cell (R238, R244): its frame is placed at P; without an acknowledgement to await, the entry ends SENT
as the frame ends. A job of which a word is uncorrectable ends FAIL, and the entry KEY. -/
def State.sendEntry (sGiven : State) (e : TlmTx) (asn freq : Nat) (ant shared : Bool) : State :=
  let a := sGiven.txEntry e.entry
  let acks := e.ackReq && e.nbr != 4096
  let (s0, _, bad) := sGiven.read (a + 64) e.len 3
  let (s, good) := match e.job with | some j => s0.jobTake j (e.len - e.payOff) | none => (s0, true)
  let b := s.mkBurst (s.fg TLM_NBR1 TLM_NBR1_PROF [e.nbr]) (s.txAt asn) freq ant (s.entryPsdu e) e.fcs4
    (if acks then none else some e.entry)
  if !good then s.endEntry e.entry 6
  else if let some w := bad then s.sendBad e b (s.fg TLM_NBR1 TLM_NBR1_PROF [e.nbr]) w
  else
  let s1 := (((s.tlmPlace b).writeLe (a + 1) 1 (e.tries + 1)).writeLe (a + 16) 8 asn).bump TLM_TX_FRAMES
  let s2 := (s1.cross 32 0).setTlm { (s1.cross 32 0).tlm with
    tx := s1.tlm.tx.map fun k => if k.entry = e.entry then { k with tries := k.tries + 1 } else k }
  if acks then
    let (o, c) := s.ackWindow b.till
    s2.setTlm { s2.tlm with await := s2.tlm.await ++ [{ entry := e.entry, shared, opens := o, closes := c }] }
  else s2

/-- The entries whose frames have ended and that await nothing end SENT. -/
def State.tlmAirEnd (s : State) : State :=
  s.endEntries 2 (s.tlm.air.filterMap fun b => if b.till ≤ s.now then b.ends else none)

/-- Serve a slot's cell. A cell that begins while a frame is still being sent is not used. -/
def State.serveCell (s : State) (asn c : Nat) (lock : Bool) : State :=
  let freq := s.slotFreq asn (ceOff c)
  if ceType c = 0 ∨ s.tlmSending then s
  else if !inBand freq then s.bump TLM_SLOT_SKIPPED
  else
    match s.cellSends (s.txAt asn) c with
    | some e =>
      let shared := ceType c == 3
      let (be, cnt) := SMap.get s.tlm.backoff e.nbr (0, 0)
      if shared ∧ cnt ≠ 0 then s.setTlm { s.tlm with backoff := SMap.ins s.tlm.backoff e.nbr (be, cnt - 1) }
      else
        let r := s.fg TLM_PROF TLM_PROF_RAMP [s.fg TLM_NBR1 TLM_NBR1_PROF [e.nbr]]
        let s1 := s.tlmTune (s.txAt asn - 8000 * s.fg TLM_RAMP_T TLM_RAMP_T_STEP [r]) freq (ceAnt c)
        if lock then s1.sendEntry e asn freq (ceAnt c) shared else s1.bump TLM_TIQ_NOLOCK
    | none =>
      if ceType c = 4 then s
      else
        let n := if ceType c = 3 then 4096 else ceNbr c
        let (o, w) := s.rxWindow n asn
        let s1 := s.tlmTune (s.slotAt asn + o) freq (ceAnt c)
        if lock then
          s1.setTlm { s1.tlm with
            slot := some { asn, nbr := n, opens := s.slotAt asn + o, closes := s.slotAt asn + w, freq, ant := ceAnt c } }
        else s1.bump TLM_TIQ_NOLOCK

/-- The slot of this instant begins, if it has not been served (R239, R240). -/
def State.slotBegins (s : State) : State :=
  match s.asnNow with
  | some asn =>
    if s.tlmOn ∧ s.tlm.served ≤ asn then
      let s0 := s.tlmAirEnd
      let s1 := (s0.setTlm { s0.tlm with served := asn + 1, slot := none }).bump TLM_SLOT_SKIPPED [] (asn - s.tlm.served)
      let s2 := s1.fs TLM_ASN TLM_ASN_ASN asn
      let (s3, c) := s2.pickCell asn [0, 1, 2, 3, 4, 5, 6, 7] none
      match c with | some c => s3.serveCell asn c s3.tlm.lockIn | none => s3
    else s
  | none => s

/-- TLM_SLOT_START (R239, R240): `lock` is bit 9 of the returned control word from now on, and the slot of this instant begins,
if it has not been served. -/
def execTlmSlotStart (lock : Bool) (s : State) : Host.Outcome State Fault Refusal :=
  .next (s.setTlm { s.tlm with lockIn := lock }).slotBegins

/-- REFIND (R243): a TRACKING neighbour not heard for REFIND_SF lengths of its slotframe. -/
def execRefind (n : Nat) (s : State) : Host.Outcome State Fault Refusal :=
  let asn := s.fg TLM_ASN TLM_ASN_ASN
  let len := s.fg TLM_SF TLM_SF_LEN [s.fg TLM_NBR1 TLM_NBR1_SF [n]]
  .next (if s.tlmOn ∧ n < 4096 ∧ s.nbValid n ∧ s.nbState n = 1 ∧
      s.fg TLM_NBR2 TLM_NBR2_REF_ASN [n] + s.fg TLM_DRIFT_CFG TLM_DRIFT_CFG_REFIND_SF * len ≤ asn then
    ((s.fs TLM_NBR1 TLM_NBR1_STATE 2 [n]).bump TLM_REFIND).tlmNotice 3 0xFFFF n asn
  else s)

/-! ## Acquisition (R233-R236) -/

/-- The enabled profiles that detect, lowest first, from the consecutive preamble symbols each has correlated. -/
def State.searched (s : State) (syms : List Nat) : List Nat :=
  (List.range 4).filter fun p => s.flag TLM_PROF TLM_PROF_EN [p] && decide (s.fg TLM_CTL TLM_CTL_PRE_DET ≤ getAt syms p 0)

/-- The slot whose receive window is open. -/
def State.windowOpen (s : State) : Option TlmSlot :=
  s.tlm.slot.filter fun w => decide (w.opens ≤ s.now) && decide (s.now < w.closes)

/-- TLM_PREAMBLE_DETECT (R233): profiles detect within one µs, by the consecutive preamble symbols each has correlated, at a
power (dBm + 128). -/
def execTlmPreambleDetect (syms : List Nat) (level : Nat) (s : State) : Host.Outcome State Fault Refusal :=
  match s.searched syms, s.windowOpen with
  | p :: _, some w =>
    .next (if s.tlmOn ∧ s.tlm.rx.isNone ∧ !s.tlmSending ∧ !s.deaf then
      (((s.cross 32 0).setTlm { s.tlm with rx := some { st := 1, prof := p, level, at_ := s.now, slot := w } }).bump
        TLM_RX_DETECT).phy 3 0x01 0
    else s)
  | _, _ => .next s

/-- The bits in which two 16-bit windows differ. -/
def sfdDist (a b : Nat) : Nat := popc 16 (a ^^^ b)

/-- The reception in progress ends without a frame: a claimed entry is free again. -/
def State.tlmDropRx (s : State) : State :=
  match s.tlm.rx with
  | some r => s.setTlm { s.tlm with rx := none, rxSt := if r.st = 3 then SMap.del s.tlm.rxSt r.entry else s.tlm.rxSt }
  | none => s

/-- 256 octets have passed since a detection (R233). -/
def State.sfdOver (s : State) (r : TlmRx) : Bool := decide (r.at_ + s.profNs r.prof 2048 ≤ s.now)

/-- The estimate of AFC has fewer than 8 preamble symbols between the detection and the SFD's start (R236). -/
def State.afcShort (s : State) (r : TlmRx) : Bool := decide (s.now < r.at_ + s.profNs r.prof 24)

/-- SFD_FOUND (R233, R236): a 16-bit window ends that may match an SFD value. It gives the frame's start: preamble and SFD
before now (R242). -/
def execSfdFound (window : Nat) (s : State) : Host.Outcome State Fault Refusal :=
  match s.tlm.rx with
  | some r =>
    if s.tlmOn ∧ r.st = 1 ∧ !s.sfdOver r ∧ !s.deaf then
      let (u, c) := sfdValues (s.fg TLM_PROF TLM_PROF_SFD_SEL [r.prof])
      let err := s.fg TLM_CTL TLM_CTL_SFD_ERR
      let du := sfdDist window u
      let dc := sfdDist window c
      let mu := decide (du ≤ err)
      let mc := decide (dc ≤ err) && s.fg TLM_PROF TLM_PROF_FEC [r.prof] != 0
      let s1 := if s.afcShort r ∧ s.fg TLM_PROF TLM_PROF_FREQ_MODE [r.prof] = 0 then s.bump TLM_AFC_SHORT else s
      let start := s.now - s.profNs r.prof (8 * s.fg TLM_PROF TLM_PROF_PRE_LEN [r.prof] + 16)
      if mu && mc && du == dc then .next (s.tlmDropRx.bump TLM_SFD_AMBIG)
      else if mu && (!mc || decide (du < dc)) then .next (s1.setTlm { s1.tlm with rx := some { r with st := 2, coded := false, start } })
      else if mc then .next (s1.setTlm { s1.tlm with rx := some { r with st := 2, coded := true, start } })
      else .next s
    else .next s
  | none => .next s

/-- SFD_TIMEOUT (R233): no SFD within 256 octets of the detection. -/
def execSfdTimeout (s : State) : Host.Outcome State Fault Refusal :=
  match s.tlm.rx with
  | some r => .next (if r.st = 1 ∧ s.sfdOver r then s.tlmDropRx.bump TLM_SFD_MISS else s)
  | none => .next s

/-- The lowest free receive entry. -/
def State.freeRxEntry (s : State) : Option Nat := (List.range 512).find? fun i => (SMap.find s.tlm.rxSt i).isNone

/-- A part of the frame in reception, from its soft values. -/
def State.rxPart (s : State) (r : TlmRx) (soft : List Int) : List Bool × Bool :=
  decodePart r.coded (s.profRsc r.prof) (s.flag TLM_PROF TLM_PROF_ILV [r.prof]) soft

/-- What a PHR says: mode switch, the bytes of its FCS, and the frame length. -/
def phrOf (b : List Bool) : Bool × Nat × Nat := (b.getD 0 false, if b.getD 3 false then 2 else 4, bitsMsb ((b.drop 5).take 11))

/-- PHR_CHECK (R232, R234, R248): the soft values of the PHR are decoded and checked, and a receive entry is claimed. -/
def execPhrCheck (soft : List Int) (s : State) : Host.Outcome State Fault Refusal :=
  match s.tlm.rx with
  | some r =>
    if r.st = 2 ∧ !s.deaf then
      let (b, ended) := s.rxPart r soft
      let (modeSwitch, fcs, len) := phrOf b
      if modeSwitch || decide (len < 5) || decide (len < fcs + 2) || !ended then
        .next ((s.tlmDropRx.bump TLM_RX_PHR_FAIL).phy 3 0x03 0)
      else
        match s.freeRxEntry with
        | some i =>
          .next ((s.contest 27 0 512).setTlm { s.tlm with
            rx := some { r with st := 3, entry := i, len, fcs }, rxSt := SMap.ins s.tlm.rxSt i 1 })
        | none => .next (s.tlmDropRx.bump TLM_RX_NOBUF)
    else .next s
  | none => .next s

/-- RX_REARM (R235): profiles detect a preamble REARM_DB or more above the first detection. -/
def execRxRearm (syms : List Nat) (level : Nat) (s : State) : Host.Outcome State Fault Refusal :=
  match s.tlm.rx, s.searched syms with
  | some r, p :: _ =>
    if s.tlmOn ∧ !s.deaf ∧ r.level + s.fg TLM_CTL TLM_CTL_REARM_DB ≤ level then
      let s1 := s.tlmDropRx
      .next (((s1.setTlm { s1.tlm with rx := some { st := 1, prof := p, level, at_ := s.now, slot := r.slot } }).bump TLM_RX_REARM).phy 3 0x02 0)
    else .next s
  | _, _ => .next s

/-! ## The MAC frame (IEEE 802.15.4-2020) -/

/-- The addressing fields: destination PAN, destination (mode, address), source (mode, address), and where they end. -/
structure MacAddr where
  dstPan : Option Nat := none
  dstMode : Nat := 0
  dst : Nat := 0
  srcMode : Nat := 0
  src : Nat := 0
  stop : Nat := 0
  deriving DecidableEq, Repr

/-- The PAN IDs present: destination, source. -/
def panPresent (ver dm sm : Nat) (comp : Bool) : Bool × Bool :=
  if ver < 2 then (dm != 0, sm != 0 && !(comp && dm != 0))
  else if dm = 0 ∧ sm = 0 then (comp, false)
  else if sm = 0 then (!comp, false)
  else if dm = 0 then (false, !comp)
  else if dm = 3 ∧ sm = 3 then (!comp, false)
  else (true, !comp)

/-- The bytes of an addressing mode. -/
def modeLen (m : Nat) : Nat := if m = 2 then 2 else if m = 3 then 8 else 0

/-- Read the addressing fields of a frame. -/
def macAddr (b : Bytes) : MacAddr :=
  let fc := leAt b 0 2
  let dm := bits fc 11 10
  let sm := bits fc 15 14
  let (dp, sp) := panPresent (bits fc 13 12) dm sm (bitN fc 6)
  let o0 := if bitN fc 8 ∧ bits fc 13 12 = 2 then 2 else 3
  let o1 := o0 + if dp then 2 else 0
  let o2 := o1 + modeLen dm
  let o3 := o2 + if sp then 2 else 0
  { dstPan := if dp then some (leAt b o0 2) else none, dstMode := dm, dst := leAt b o1 (modeLen dm), srcMode := sm,
    src := leAt b o3 (modeLen sm), stop := o3 + modeLen sm }

/-- The end of the auxiliary security header at an offset. -/
def auxEnd (b : Bytes) (off : Nat) : Nat :=
  let sc := leAt b off 1
  off + 1 + (if bitN sc 5 then 0 else 4) + getAt [0, 1, 5, 9] (bits sc 4 3) 0

/-- The end of the header information elements. -/
def ieEnd (b : Bytes) : Nat → Nat → Nat
  | 0, off => off
  | f + 1, off =>
    if b.length < off + 2 then off
    else
      let v := leAt b off 2
      let nxt := off + 2 + bits v 6 0
      if bits v 14 7 = 0x7E ∨ bits v 14 7 = 0x7F then nxt else ieEnd b f nxt

/-- The offset of the private payload. -/
def payOff (b : Bytes) : Nat :=
  let fc := leAt b 0 2
  let o1 := (macAddr b).stop
  let o2 := if bitN fc 3 then auxEnd b o1 else o1
  if bitN fc 9 ∧ bits fc 13 12 = 2 then ieEnd b 32 o2 else o2

/-- A frame's destination is this device, or broadcast within the PAN. -/
def State.tlmForUs (s : State) (m : MacAddr) : Bool :=
  let pan := s.fg TLM_OWN_ID TLM_OWN_ID_PANID
  let inPan := match m.dstPan with | some p => p == pan || p == 0xFFFF | none => true
  (m.dstMode == 3 && m.dst == (s.rg TLM_OWN).toNat) ||
    (m.dstMode == 2 && inPan && (m.dst == s.fg TLM_OWN_ID TLM_OWN_ID_SHORT || m.dst == 0xFFFF))

/-- The neighbour that sent a frame, if one is valid. -/
def State.tlmSource (s : State) (m : MacAddr) : Option Nat :=
  s.nbList.find? fun n =>
    (m.srcMode == 3 && s.fg TLM_NBR0 TLM_NBR0_EXT [n] == m.src) ||
      (m.srcMode == 2 && s.fg TLM_NBR1 TLM_NBR1_SHORT [n] == m.src && m.src != 0xFFFF)

/-! ## Decision, acknowledgement and delivery (R242, R243, R245-R249) -/

/-- Set a frame not yet delivered. -/
def State.setPend (s : State) (p : TlmPend) : State :=
  s.setTlm { s.tlm with pend := s.tlm.pend.map fun q => if q.entry = p.entry then p else q }

/-- Forget a frame that is not delivered: its entry is free at once. -/
def State.dropPend (s : State) (p : TlmPend) : State :=
  let s1 := s.setTlm { s.tlm with pend := s.tlm.pend.filter (fun q => q.entry ≠ p.entry), rxSt := SMap.del s.tlm.rxSt p.entry }
  let s2 := match p.job with | some j => s1.freeJob j | none => s1
  match p.ackJob with | some j => s2.freeJob j | none => s2

/-- a ÷ b to the nearest whole number, halves away from zero. -/
def roundDiv (a : Int) (b : Nat) : Int :=
  if 0 ≤ a then (2 * a + b) / (2 * b) else -((2 * -a + b) / (2 * b))

/-- The drift update of an accepted frame (R242), and its return from REFIND (R243). -/
def State.driftUpdate (s : State) (p : TlmPend) : State :=
  let n := p.nbr
  let dt := s.nbDt n p.slot.asn
  let st := s.nbState n
  let drift := s.nbDrift n
  let res : Int := p.off * 1000000 - drift * dt
  let lim : Int := (s.fg TLM_DRIFT_CFG TLM_DRIFT_CFG_MARGIN * dt * 1000 : Nat)
  let d1 := if dt ≠ 0 ∧ -lim ≤ res ∧ res ≤ lim then drift + roundDiv res (4 * dt) else drift
  let s1 := s.fs TLM_NBR3 TLM_NBR3_DRIFT (unsgn 32 d1) [n]
  let s2 := (s1.fs TLM_NBR2 TLM_NBR2_REF_ASN p.slot.asn [n]).fs TLM_NBR1 TLM_NBR1_STATE 1 [n]
  if st = 2 then s2.tlmNotice 4 0xFFFF n p.slot.asn else s2

/-- The Time Correction of a frame (R243): -e to the nearest µs, halves away from zero, within ±2,047. -/
def timeCorrection (e : Int) : Int := max (-2047) (min 2047 (roundDiv (-e) 1000))

/-- An enhanced acknowledgement up to its MIC: the frame's sequence number and sender, its security header, and its Time
Correction IE. -/
def State.ackFrame (s : State) (p : TlmPend) (fc : Nat) : Bytes :=
  let fcf := 2 + (if p.secured then 8 else 0) + 0x200 + 0x400 * p.src.1 + 0x2000
  leBytes 2 fcf ++ leBytes 1 p.dsn ++ leBytes 2 (s.fg TLM_OWN_ID TLM_OWN_ID_PANID) ++ leBytes (modeLen p.src.1) p.src.2 ++
    (if p.secured then leBytes 1 p.level ++ leBytes 4 fc else []) ++
    leBytes 2 (2 + 0x1E * 128) ++ leBytes 2 (unsgn 12 (timeCorrection p.off))

/-- Prepare the acknowledgement of a frame that asks for one: a secured one is protected with its own frame counter. -/
def State.prepareAck (s : State) (p : TlmPend) : State × TlmPend :=
  if !p.ackAsked then (s, p)
  else if !p.secured then (s, { p with ack := s.ackFrame p 0 })
  else
    match s.nextFc with
    | none => (s, { p with acked := some false })
    | some (s1, fc) =>
      let b := s1.ackFrame p fc
      let d := mkDesc 1 8 (levelMic p.level) (s1.tlmKey p.nbr false) 0 (tlmNonce (s1.rg TLM_OWN).toNat fc p.level) b [] 0
      let (s2, j) := s1.raiseJob 3 true d
      (s2, { p with ack := b, ackProt := true, ackJob := j })

/-- The transmission of a frame's acknowledgement, once its frame is settled and its job has ended OK: in the neighbour's
profile if that is enabled, and otherwise in the frame's own. -/
def State.ackBurst (s : State) (p : TlmPend) : Option TlmBurst :=
  let ready := p.verdict != 0 && (!p.ackProt || (match p.ackJob with | some j => s.jobOk j | none => false))
  let own := s.fg TLM_NBR1 TLM_NBR1_PROF [p.nbr]
  let pr := if p.nbr ≠ 0xFFFF ∧ s.flag TLM_PROF TLM_PROF_EN [own] then own else p.prof
  let b := p.ack ++ match p.ackJob with | some j => s.protect j [] | none => []
  if ready then some (s.mkBurst pr p.due p.slot.freq p.slot.ant (b ++ tlmFcs (p.fcs == 4) b) (p.fcs == 4) none) else none

/-- Deliver, in the order receptions ended, the frames whose verdict and acknowledgement are settled. -/
def State.deliverPend (s : State) : Nat → State
  | 0 => s
  | n + 1 =>
    match s.tlm.pend with
    | p :: t =>
      if p.verdict = 0 ∨ (p.ackAsked ∧ p.acked.isNone) then s
      else if p.verdict = 2 then State.deliverPend (s.dropPend p) n
      else
        let a := s.rxEntry p.entry
        let flags := b2n p.secured + 2 * b2n p.outside + 4 * b2n (p.acked == some true) + 8 * b2n p.coded
        let h := leBytes 2 p.len ++ leBytes 2 p.nbr ++ leBytes 1 p.prof ++ leBytes 1 flags ++ leBytes 1 p.rssi ++ [0] ++
          leBytes 8 p.slot.asn ++ leBytes 4 (unsgn 32 p.off) ++ leBytes 4 p.fc ++ leBytes 8 p.start ++ List.replicate 32 0
        let s1 := ((s.write a h).1).setTlm { s.tlm with pend := t, rxSt := SMap.ins s.tlm.rxSt p.entry 2 }
        let s2 := match p.job with | some j => s1.freeJob j | none => s1
        State.deliverPend (s2.tlmNotice 1 p.entry p.nbr p.slot.asn) n
    | [] => s

/-- Deliver what can be delivered. -/
def State.deliverReady (s : State) : State := s.deliverPend (s.tlm.pend.length + 1)

/-- A frame is accepted, or found a repeat: it is acknowledged where it asks. -/
def State.settle (s : State) (p : TlmPend) (verdict : Nat) : State :=
  let s0 := if verdict = 1 ∧ p.outside then s.bump TLM_RX_OUTSIDE else s
  let s1 := if verdict = 1 ∧ p.nbr ≠ 0xFFFF then s0.driftUpdate p else if verdict = 2 then s0.bump TLM_RX_DUP else s0
  let (s2, p1) := if p.acked.isSome then (s1, p) else s1.prepareAck p
  (s2.setPend { p1 with verdict }).deliverReady

/-- A frame counter from a neighbour is new (R247): RXFC_OK = 0, or above RX_FC. -/
def State.fcNew (s : State) (n fc : Nat) : Bool :=
  !s.flag TLM_NBR1 TLM_NBR1_RXFC_OK [n] || decide (s.fg TLM_NBR3 TLM_NBR3_RX_FC [n] < fc)

/-- A new frame counter is taken. -/
def State.fcTake (s : State) (n fc : Nat) : State :=
  (s.fs TLM_NBR3 TLM_NBR3_RX_FC fc [n]).fs TLM_NBR1 TLM_NBR1_RXFC_OK 1 [n]

/-- The sequence number of the last frame accepted. -/
def State.dsnTake (s : State) (n dsn : Nat) : State :=
  (s.fs TLM_NBR1 TLM_NBR1_LAST_DSN dsn [n]).fs TLM_NBR1 TLM_NBR1_DSN_OK 1 [n]

/-- The frame-counter check of a verified frame (R247). -/
def State.counterCheck (s : State) (p : TlmPend) : State :=
  if s.fcNew p.nbr p.fc then ((s.fcTake p.nbr p.fc).dsnTake p.nbr p.dsn).settle p 1
  else if p.fc = s.fg TLM_NBR3 TLM_NBR3_RX_FC [p.nbr] then s.settle p 2
  else ((s.dropPend p).bump TLM_RX_REPLAY).deliverReady

/-- The DSN check of an unsecured frame from a known neighbour (R247). -/
def State.dsnCheck (s : State) (p : TlmPend) : State :=
  let n := p.nbr
  if s.flag TLM_NBR1 TLM_NBR1_DSN_OK [n] ∧ s.fg TLM_NBR1 TLM_NBR1_LAST_DSN [n] = p.dsn then s.settle p 2
  else (s.dsnTake n p.dsn).settle p 1

/-- The verification of an awaited acknowledgement has ended: its MIC, and then its frame counter, decide. -/
def State.ackVerified (s : State) (w : TlmAwait) (ok : Bool) : State :=
  let n := s.entryNbr w.entry
  if !ok then (s.ackLost w w.draw).bump TLM_RX_MIC_FAIL
  else if s.fcNew n w.fc then (s.fcTake n w.fc).ackGood w
  else (s.ackLost w w.draw).bump (if w.fc = s.fg TLM_NBR3 TLM_NBR3_RX_FC [n] then TLM_RX_DUP else TLM_RX_REPLAY)

/-- The TAG a job has written is the MIC received. -/
def State.tagIs (s : State) (job : Nat) (mic : Bytes) : Bool := s.bytes (s.descAddr (jobSlot job) + 72) mic.length == mic

/-- The verification job of a received frame or acknowledgement has ended (R246). -/
def State.tlmJobEnd (s : State) (job : Nat) (ok : Bool) : State :=
  match s.tlm.pend.find? (fun p => p.job == some job), s.tlm.await.find? (fun w => w.job == some job) with
  | some p, _ =>
    if p.verdict ≠ 0 then s
    else if ok && s.tagIs job p.mic then s.counterCheck p
    else ((s.dropPend p).bump TLM_RX_MIC_FAIL).deliverReady
  | none, some w => s.ackVerified w (ok && s.tagIs job w.mic)
  | none, none => s

/-- A transmit entry's job has ended: KEY or FAIL ends the entry with KEY (R322). -/
def State.tlmTxJobEnd (s : State) (job : Nat) (ok : Bool) : State :=
  match s.tlm.tx.find? fun e => e.job == some job with
  | some e => if ok then s else s.endEntry e.entry 6
  | none => s

/-- Raise a verification job; it must end within RX_TMO (R322). -/
def State.raiseRx (s : State) (d : Bytes) : State × Option Nat :=
  match s.raiseJob 3 false d with
  | (s1, some j) =>
    let c := s1.cph
    let till := s1.now + s1.fg CPH_CFG CPH_CFG_RX_TMO * 1000
    (s1.setCph { c with slots := match s1.jobOf j with
      | some x => SMap.ins c.slots (jobSlot j) { x with till := some till } | none => c.slots }, some j)
  | (s1, none) => (s1, none)

/-- TLM_ACK_RECEIVE (R244, R246): an end device's acknowledgement with its FCS, which began at an instant; one that begins
within ACK_WAIT and answers the frame sent ends its entry ACKED, once its MIC is verified where the neighbour is protected.
`draw` is the backoff draw should it fail. -/
def execTlmAckReceive (b : Bytes) (start draw : Nat) (s : State) : Host.Outcome State Fault Refusal :=
  match s.tlm.await.find? fun w => w.job.isNone && decide (w.opens ≤ start) && decide (start ≤ w.closes) with
  | some w =>
    match s.tlm.tx.find? fun e => e.entry == w.entry with
    | some e =>
      if !s.tlmOn ∨ s.now < start ∨ s.deaf then .next s
      else
        match fcsTaken e.fcs4 b with
        | none => .next (s.bump TLM_RX_FCS_BAD)
        | some f =>
          let m := macAddr f
          let sec := bitN (leAt f 0 2) 3
          let lv := bits (leAt f m.stop 1) 2 0
          let mic := levelMic lv
          if bits (leAt f 0 2) 2 0 ≠ 2 ∨ leAt f 2 1 ≠ (s.byte (s.txEntry e.entry + 66)).toNat then .next s
          else if !sec && !s.flag TLM_NBR1 TLM_NBR1_SEC [e.nbr] then .next (s.ackGood w)
          else if !sec ∨ mic = 0 ∨ 32 < f.length - mic then .next (s.bump TLM_RX_MIC_FAIL)
          else
            let fc := leAt f (m.stop + 1) 4
            let (s1, j) := s.raiseRx (mkDesc 2 8 mic (s.tlmKey e.nbr false) 0
              (tlmNonce (s.fg TLM_NBR0 TLM_NBR0_EXT [e.nbr]) fc lv) (f.take (f.length - mic)) [] 0)
            let v := { w with job := j, mic := f.drop (f.length - mic), fc, draw }
            let s2 := s1.setTlm { s1.tlm with await := s1.tlm.await.map fun k => if k.entry = w.entry then v else k }
            .next (if j.isNone then s2.ackVerified v false else s2)
    | none => .next s
  | none => .next s

/-- Ask for the verification of a secured frame; a job that cannot be raised fails it. -/
def State.verifyRx (s : State) (p : TlmPend) (b : Bytes) (bcast : Bool) : State :=
  let off := payOff b
  let mic := levelMic p.level
  let len := p.len - off
  let ext := s.fg TLM_NBR0 TLM_NBR0_EXT [p.nbr]
  let fail := ((s.dropPend p).bump TLM_RX_MIC_FAIL).deliverReady
  if mic = 0 ∨ 32 < off ∨ p.len < off then fail
  else
    let d := mkDesc 2 8 mic (s.tlmKey p.nbr bcast) len (tlmNonce ext p.fc p.level) (slice b 0 off)
      (splitSegs (s.rxEntry p.entry + 64 + off) 32 len) 0
    match s.raiseRx d with
    | (s1, some j) => s1.setPend { p with job := some j }
    | (_, none) => fail

/-- A frame whose FCS is good: addressing, source, and what its protection calls for. An unsecured frame of a neighbour with
SEC = 1 fails integrity. -/
def State.tlmAccept (s : State) (r : TlmRx) (b : Bytes) (rssi : Nat) : State :=
  let fc := leAt b 0 2
  let m := macAddr b
  let sec := bitN fc 3
  let off : Int := r.start - s.txAt r.slot.asn
  let p0 : TlmPend := { entry := r.entry, nbr := 0xFFFF, slot := r.slot, off, start := r.start, rssi, prof := r.prof,
                        coded := r.coded, outside := false, secured := false, src := (m.srcMode, m.src), fcs := r.fcs,
                        len := b.length, dsn := leAt b 2 1, ackAsked := bitN fc 5, due := s.now + 1000000 }
  if !s.tlmForUs m then s.setTlm { s.tlm with rxSt := SMap.del s.tlm.rxSt r.entry }
  else
    match s.tlmSource m with
    | none =>
      if sec then (s.setTlm { s.tlm with rxSt := SMap.del s.tlm.rxSt r.entry }).bump TLM_RX_UNKNOWN
      else
        (s.setTlm { s.tlm with pend := s.tlm.pend ++ [p0] }).settle p0 1
    | some n =>
      let lv := bits (leAt b m.stop 1) 2 0
      let mic := if sec then levelMic lv else 0
      let p : TlmPend := { p0 with nbr := n, outside := r.slot.nbr != n, secured := sec,
                                   fc := if sec then leAt b (m.stop + 1) 4 else 0, level := if sec then lv else 0,
                                   len := b.length - mic, mic := slice b (b.length - mic) mic }
      let s1 := s.setTlm { s.tlm with pend := s.tlm.pend ++ [p] }
      if sec then s1.verifyRx p b (m.dstMode == 2 && m.dst == 0xFFFF)
      else if s.flag TLM_NBR1 TLM_NBR1_SEC [n] then (s1.dropPend p).bump TLM_RX_MIC_FAIL
      else s1.dsnCheck p

/-- The PSDU of a frame in reception, from its soft values (R232). -/
def State.rxPsdu (s : State) (r : TlmRx) (soft : List Int) : Bytes := bitOctets (s.rxPart r soft).1 r.len

/-- A frame ends with its PSDU as decoded, and is kept if its FCS is good (R245). -/
def State.tlmFrame (s : State) (r : TlmRx) (b : Bytes) (rssi : Nat) : State :=
  let s1 := (s.input 3 0 b).setTlm { (s.input 3 0 b).tlm with rx := none }
  match fcsTaken (r.fcs == 4) b with
  | none => (s1.setTlm { s1.tlm with rxSt := SMap.del s1.tlm.rxSt r.entry }).bump TLM_RX_FCS_BAD
  | some f => (s1.write (s1.rxEntry r.entry + 64) f).1.tlmAccept r f rssi

/-- TLM_FRAME_RECEIVE (R232, R245): a frame ends; the soft values of its PSDU are decoded, and its power is given. -/
def execTlmFrameReceive (soft : List Int) (rssi : Nat) (s : State) : Host.Outcome State Fault Refusal :=
  match s.tlm.rx with
  | some r =>
    .next (if s.tlmOn ∧ r.st = 3 ∧ !s.deaf then s.tlmFrame r (s.rxPsdu r soft) rssi else s)
  | none => .next s

/-- ENHANCED_ACK_RELEASE (R239, R246): the oldest acknowledgement due is sent if it is ready at its instant; it never goes
late. -/
def execEnhancedAckRelease (ready : Bool) (s : State) : Host.Outcome State Fault Refusal :=
  match s.tlm.pend.find? fun p => p.ackAsked && p.acked.isNone && decide (p.due ≤ s.now) with
  | some p =>
    if s.tlmOn then
      let b := if ready ∧ s.now < p.due + 2 then s.ackBurst p else none
      let sent := b.isSome
      let s0 := match b with | some a => s.tlmPlace a | none => s
      let s1 := (s0.cross 32 0).bump (if sent then TLM_TX_FRAMES else TLM_LATE_RESP)
      let s2 := match p.ackJob with | some j => s1.freeJob j | none => s1
      .next ((s2.setPend { p with acked := some sent, ackJob := none }).deliverReady)
    else .next s
  | none => .next s

/-! ## Registers (R230-R231, R237-R244, R248) -/

/-- A store to TLM_RXFREE. -/
def State.rxFree (s : State) (v : Word) : State :=
  let i := TLM_RXFREE_ENTRY.of v
  let s1 := s.contest 27 0 1024
  if SMap.find s1.tlm.rxSt i = some 2 then s1.setTlm { s1.tlm with rxSt := SMap.del s1.tlm.rxSt i }
  else s1.logDiscard (TLM_RXFREE.addr [])

/-- TLM_RXFREE (R248). -/
def execTlmRxfree (who : Init) (v : Word) (s : State) : Host.Outcome State Fault Refusal :=
  .next (s.csrWrite TLM_RXFREE [] who v fun t => t.rxFree v)

/-- A write of word 1 of a neighbour (R241, R247). -/
def State.nbr1Write (s : State) (n : Nat) (v : Word) : State :=
  let was := s.flag TLM_NBR1 TLM_NBR1_VALID [n]
  let want := TLM_NBR1_VALID.of v == 1
  if was && want then s
  else
    let s1 := (s.plain TLM_NBR1 [n] v).fs TLM_NBR1 TLM_NBR1_RXFC_OK 0 [n]
    if want then (s1.fs TLM_NBR1 TLM_NBR1_STATE 0 [n]).fs TLM_NBR1 TLM_NBR1_DSN_OK 0 [n]
    else if was then (s1.fs TLM_NBR1 TLM_NBR1_STATE 0 [n]).endEntries 7 ((s1.tlm.tx.filter fun e => e.nbr == n).map TlmTx.entry)
    else s1

/-- A write of word 0 of a neighbour. -/
def State.nbr0Write (s : State) (n : Nat) (v : Word) : State :=
  if s.flag TLM_NBR1 TLM_NBR1_VALID [n] then s else s.plain TLM_NBR0 [n] v

/-- NEIGHBOUR_VALIDATE (R241): word 1 written with VALID := 1. -/
def execNeighbourValidate (n : Nat) (who : Init) (v : Word) (s : State) : Host.Outcome State Fault Refusal :=
  .next (s.csrWrite TLM_NBR1 [n] who (setFld v 31 31 1) fun t => t.nbr1Write n (setFld v 31 31 1))

/-- NEIGHBOUR_INVALIDATE (R241): word 1 written with VALID := 0. -/
def execNeighbourInvalidate (n : Nat) (who : Init) (v : Word) (s : State) : Host.Outcome State Fault Refusal :=
  .next (s.csrWrite TLM_NBR1 [n] who (setFld v 31 31 0) fun t => t.nbr1Write n (setFld v 31 31 0))

/-- The TIQ sample rate gives 8 samples or more for each symbol. -/
def tiqOk (tiq rate : Nat) : Bool := decide (8 * profSyms rate ≤ 2000 * 2 ^ tiq)

/-- Every enabled profile keeps R231. -/
def State.profsOk (s : State) (tiq : Nat) : Bool :=
  (List.range 4).all fun p => !s.flag TLM_PROF TLM_PROF_EN [p] || tiqOk tiq (s.fg TLM_PROF TLM_PROF_RATE [p])

/-- A write of TLM_PROFp. -/
def State.profWrite (s : State) (p : Nat) (v : Word) : State :=
  if 6 < TLM_PROF_RATE.of v ∨ TLM_PROF_PRE_LEN.of v < 4 ∨ s.flag TLM_CTL TLM_CTL_ENABLE ∨
      (TLM_PROF_EN.of v = 1 ∧ !tiqOk (s.fg TLM_TIQ TLM_TIQ_RATE) (TLM_PROF_RATE.of v)) then s.logDiscard (TLM_PROF.addr [p])
  else s.plain TLM_PROF [p] v

/-- A write of TLM_TIQ. -/
def State.tiqWrite (s : State) (v : Word) : State :=
  let r := TLM_TIQ_RATE.of v
  if 4 < r ∨ (r ≠ s.fg TLM_TIQ TLM_TIQ_RATE ∧ (s.flag TLM_CTL TLM_CTL_ENABLE ∨ !s.profsOk r)) then
    s.logDiscard (TLM_TIQ.addr [])
  else if TLM_TIQ_SETTLE.of v = 0 then s else s.plain TLM_TIQ [] v

/-- TLM stops at once: a transmission in progress ramps down, and its entry and those awaiting stay pending. -/
def State.tlmStop (s : State) : State :=
  let s0 := s.tlmAirEnd.tlmCut
  let s1 := (s0.freeJobs (s0.tlm.await.filterMap TlmAwait.job)).tlmDropRx
  let s2 := s1.tlm.pend.foldl (fun (t : State) p => t.dropPend p) s1
  s2.setTlm { s2.tlm with slot := none, await := [], air := s2.tlm.air.map fun b => { b with ends := none } }

/-- A write of TLM_CTL. -/
def State.tlmCtlWrite (s : State) (v : Word) : State :=
  let was := s.flag TLM_CTL TLM_CTL_ENABLE
  let want := TLM_CTL_ENABLE.of v == 1
  if TLM_CTL_REARM_DB.of v < 6 ∨ TLM_CTL_PRE_DET.of v < 8 ∨ TLM_CTL_MAX_TX.of v = 0 then s.logDiscard (TLM_CTL.addr [])
  else
    let s1 := s.plain TLM_CTL [] v
    if want && !was then
      if !s.profsOk (s.fg TLM_TIQ TLM_TIQ_RATE) || !(List.range 8).any (fun f => s.flag TLM_SF TLM_SF_ENABLE [f]) then
        (s1.fs TLM_CTL TLM_CTL_ENABLE 0).logEv 0x18 0x02 0 0
      else
        s1.setTlm { s1.tlm with rxSt := [], served := match s1.asnNow with
          | some a => if ((s1.rg TLM_EPOCH).toNat + a * s1.tsLen) = s1.now then a else a + 1 | none => 0 }
    else if was && !want then s1.tlmStop
    else s1

/-- TLM_ENABLE (R244): TLM_CTL written with ENABLE := 1. -/
def execTlmEnable (who : Init) (v : Word) (s : State) : Host.Outcome State Fault Refusal :=
  .next (s.csrWrite TLM_CTL [] who (setFld v 0 0 1) fun t => t.tlmCtlWrite (setFld v 0 0 1))

/-- TLM_DISABLE (R244): TLM_CTL written with ENABLE := 0. -/
def execTlmDisable (who : Init) (v : Word) (s : State) : Host.Outcome State Fault Refusal :=
  .next (s.csrWrite TLM_CTL [] who (setFld v 0 0 0) fun t => t.tlmCtlWrite (setFld v 0 0 0))

/-- The amplitude steps of a ramp word do not decrease. -/
def rampRises (v : Nat) : Bool := (List.range 7).all fun k => decide (bits v (8 * k + 7) (8 * k) ≤ bits v (8 * k + 15) (8 * k + 8))

/-- Writes of TLM's other guarded registers that are discarded without a log entry. -/
def State.tlmQuiet (s : State) (r : Reg) (v : Word) : Bool :=
  let en := s.flag TLM_CTL TLM_CTL_ENABLE
  if r = TLM_TXBASE then en || !inMem (TLM_TXBASE_ADDR.of v * 64)
  else if r = TLM_RXBASE then en || !inMem (TLM_RXBASE_ADDR.of v * 64)
  else if r = TLM_TXFC then en
  else if r = TLM_SF then TLM_SF_LEN.of v == 0
  else if r = TLM_DRIFT_CFG then
    TLM_DRIFT_CFG_MARGIN.of v == 0 || decide (100 < TLM_DRIFT_CFG_MARGIN.of v) || decide (TLM_DRIFT_CFG_WIDE_MAX.of v < 100) ||
      TLM_DRIFT_CFG_REFIND_SF.of v == 0
  else false

/-- Writes of TLM's other guarded registers; a write out of range, or with ENABLE = 1 where the register forbids it, is
discarded, and logged where its rule says so. -/
def State.tlmRegWrite (s : State) (r : Reg) (i : List Nat) (v : Word) : State :=
  let en := s.flag TLM_CTL TLM_CTL_ENABLE
  let a := r.addr i
  let ts := TLM_SLOT_TS_LEN.of v
  let tx := TLM_SLOT_TX_OFFSET.of v
  let rx := TLM_SLOT_RX_WAIT.of v
  let ak := TLM_SLOT_ACK_WAIT.of v
  let bad : Bool :=
    if r = TLM_SLOT then
      en || decide (ts < 5000) || decide (tx < 500) || decide (ts / 2 < tx) || decide (rx < 100) || decide (2 * tx < rx) ||
        decide (ak < 100) || decide (2000 < ak)
    else if r = TLM_EPOCH then en
    else if r = TLM_CHAN then en || TLM_CHAN_SPACING.of v == 0 || TLM_CHAN_HOP_LEN.of v == 0 || decide (128 < TLM_CHAN_HOP_LEN.of v)
    else if r = TLM_CELL_BASE then en || !rangeInMem (TLM_CELL_BASE_ADDR.of v * 524288) (8 * 524288)
    else if r = TLM_RAMP then !rampRises v.toNat
    else if r = TLM_RAMP_T then TLM_RAMP_T_STEP.of v == 0 || TLM_RAMP_T_LEAD.of v == 0 || TLM_RAMP_T_LAG.of v == 0
    else false
  if bad then s.logDiscard a else if s.tlmQuiet r v then s else s.plain r i v

/-- TELEM leaves on: TLM stops, and its entries and tables go with the domain. -/
def State.tlmDown (s : State) : State :=
  let s1 := s.tlmStop
  let s2 := s1.tlm.tx.foldl (fun (t : State) e => match e.job with | some j => t.freeJob j | none => t) s1
  s2.setTlm {}

/-! ## The TIQ port and the pins (R237, R238) -/

/-- The transmissions placed, and the acknowledgements that are ready. -/
def State.tlmBursts (s : State) : List TlmBurst :=
  s.tlm.air ++ s.tlm.pend.filterMap fun p => if p.ackAsked ∧ p.acked.isNone ∧ s.now ≤ p.due then s.ackBurst p else none

/-- The level of TLM_PA_EN. -/
def State.tlmPaEn (s : State) : Bool := s.tlmBursts.any fun b => decide (b.rise ≤ s.now) && decide (s.now < b.fall)

/-- The amplitude sent, in 1/255 of full scale. -/
def State.tlmAmp (s : State) : Nat := s.tlmBursts.foldl (fun m b => max m (b.level s.now)) 0

/-- The radio receives: its window is open, or a reception is in progress. -/
def State.tlmRxOn (s : State) : Bool := s.tlmOn && (s.windowOpen.isSome || s.tlm.rx.isSome)

/-- The control word sent to the transceiver (Table TLM-3): carrier frequency, receive gain index, TX_ON, RX_ON and ANT. -/
def State.tiqWord (s : State) : Nat :=
  s.tlmTuned.1 % 2 ^ 32 + Config.tlmGain (match s.tlm.rx with | some r => r.level | none => 0) % 256 * 2 ^ 32 +
    b2n s.tlmPaEn * 2 ^ 40 + b2n s.tlmRxOn * 2 ^ 41 + b2n s.tlmTuned.2 * 2 ^ 42

end Sys2Proof.Machine
end

