-- ==== Sys2Proof/Machine/CphJobs.lean ====
section
/-! DEFINITION. The end of a protection job at its raiser (R322): the store to CPH_DONE and the RX timeout. -/

namespace Sys2Proof.Machine

/-- The retransmissions of every queue. -/
def retxFind (job : Nat) : SMap (List Mpdu) → Option Mpdu
  | [] => none
  | (_, l) :: t =>
    match l.find? fun m => m.job == some job with
    | some m => some m
    | none => retxFind job t

/-- A transmit job of a radio unit has ended: KEY sends an MPDU kept for retransmission back to its air queue (R189). -/
def State.txJobEnd (s : State) (job : Nat) (st : Nat) : State :=
  if st ≠ 1 then s
  else
    match retxFind job s.wmac.retx with
    | some m => (s.setRetx m.q ((s.retxOf m.q).filter fun k => k.job ≠ some job)).requeueMpdu m
    | none => s

/-- CPH passes the end of a job to its raiser. -/
def State.jobEnded (s : State) (x : CJob) (st : Nat) : State :=
  if x.tx then if x.src = 3 then s.tlmTxJobEnd x.job (st == 0) else s.txJobEnd x.job st
  else if x.src = 3 then s.tlmJobEnd x.job (st == 0)
  else s.rxJobEnd x.job (st == 0)

/-- The raiser reads the descriptor of an ended job and acts on its STATUS; an RX raiser first takes the keystream that READY
allows. -/
def State.jobDone (s : State) (x : CJob) : State :=
  let (s1, good) := s.jobRead x.job 0
  let s2 := if !good then s1.spoilJob x.job else if x.tx then s1 else s1.rxProgress x.job
  let st := s2.descStatus x.job
  (s2.setDone x st).jobEnded x st

/-- A store of JOB to CPH_DONE: one that matches no slot awaiting completion is discarded and counted. -/
def State.cphDone (s : State) (job : Nat) : State :=
  match s.jobOf job with
  | some x =>
    match x.done with
    | none => s.jobDone x
    | some _ => s.bump CPH_DONE_STALE
  | none => s.bump CPH_DONE_STALE

/-- CIPHER_JOB_DONE (R322): the initiator's store to CPH_DONE. -/
def execCipherJobDone (who : Init) (v : Word) (s : State) : Host.Outcome State Fault Refusal :=
  .next (s.csrWrite CPH_DONE [] who v fun t => t.cphDone (CPH_DONE_JOB.of v))

/-- CIPHER_RX_TIMEOUT (R322): an RX job without DONE within RX_TMO of its frame's end fails integrity. -/
def execCipherRxTimeout (slot : Nat) (s : State) : Host.Outcome State Fault Refusal :=
  match SMap.find s.cph.slots slot with
  | some x =>
    match x.done, x.till with
    | none, some t => .next (if t ≤ s.now ∧ !x.tx then (s.setDone x 2).jobEnded x 2 else s)
    | _, _ => .next s
  | none => .next s

end Sys2Proof.Machine
end

