-- ==== Sys2Proof/Machine/DrkFault.lean ====
section
/-! DEFINITION. A program's fault and the end of an event (R109, R114-R117, R141). -/

namespace Sys2Proof.Machine

/-- Fault codes (Table DRK-5). -/
def fcIllegal : Nat := 1
def fcUnmapped : Nat := 2
def fcMisaligned : Nat := 3
def fcLocal : Nat := 4
def fcShared : Nat := 5
def fcWindow : Nat := 6
def fcCsrDenied : Nat := 7
def fcUncorrectable : Nat := 8
def fcBudget : Nat := 9
def fcEngineArg : Nat := 10
def fcPailOwner : Nat := 11
def fcCode : Nat := 12

/-- A posted operation has taken effect or is on its way: its unit has answered, its clone is being made, its cipher block
has been issued, or its remote operation has been sent (R117). -/
def State.opStands (s : State) (id : Nat) (o : Op) : Bool :=
  o.res.isSome ||
    match o.kind with
    | .clone => true
    | .cblk .. => s.cph.issue.any (fun b => b.op == id) || s.cph.aes.any fun e => e.2.op == id
    | .renq .. => !s.fab.wait.any fun x => x.2.2 == .op id
    | .rmsg dev _ => dev != s.self && !s.fab.wait.any fun x => x.2.2 == .op id
    | _ => false

/-- A context's pending engine operations lose their event: what stands goes on without it, and the others are cancelled,
their frames returning to the pool (R116, R117). -/
def State.orphanOps (s : State) (c : Nat) : State :=
  let off := s.drk.ops.filter fun o => o.2.ctx == c && !s.opStands o.1 o.2
  let gone (id : Nat) : Bool := off.any fun o => o.1 == id
  let lose (o : Op) : Op := if o.ctx = c then { o with orphan := true } else o
  let left : SMap Op := (s.drk.ops.filter fun o => !gone o.1).map fun o => (o.1, lose o.2)
  let s1 := { s with
    drk := { s.drk with ops := left },
    cph := { s.cph with wait := s.cph.wait.filter fun id => !gone id },
    fab := { s.fab with wait := s.fab.wait.filter fun x => match x.2.2 with | .op id => !gone id | _ => true } }
  s1.dropFrames (off.filterMap fun o => o.2.frame)

/-- The last step of every end of an event (R141, R116): its grants return, the chain of passes of a frame not churned is
over, and the context takes no more of it. -/
def State.leaveEvent (s : State) (c : Nat) (chain : Bool) : State :=
  let x := s.ctx c
  let s1 := s.returnAll x.grants
  let s2 := if chain && x.frame.isSome then s1.chainOver x.epoch x.indir else s1
  (s2.orphanOps c).count c 0x03 |>.idleCtx c

/-- An event ends by a fault with no recovery (R116): its pails return, its pending operations are cancelled, and it is
counted and logged as a drop. -/
def State.faultEnd (s : State) (c : Nat) : State :=
  let s1 := s.dropFrames (s.ctx c).owned
  let s2 := s1.withdraw fun l => l.req == 6 && l.index == c
  (((s2.leaveEvent c true).bump DRK_DROP_FAULT).logLim (0x1000 + 2 * 128 + c / 4) 6 0x03 0 c)

/-- A fault (R114, R115): recorded, counted and logged; the context goes on at the image's fault entry with 64 more
instructions, or the event ends. -/
def State.fault (s : State) (c code : Nat) (addr : Word) : State :=
  let x := s.ctx c
  let k := c / 4
  let img := s.coreImage k
  let s1 := s.fs DRK_CORE_STATE DRK_CORE_STATE_LAST_FAULT code [k]
  let s2 := s1.fs DRK_CORE_STATE DRK_CORE_STATE_FAULTS (min 0xFFFF (s1.fg DRK_CORE_STATE DRK_CORE_STATE_FAULTS [k] + 1)) [k]
  let s3 := ((s2.logEv 6 0x05 x.pc (c + code * 2 ^ 16 + img.id * 2 ^ 32)).count c 0x04).tagUpd c fun t =>
    { t with flags := t.flags + 1024, code }
  if img.faultEntry != noEntry && !x.inFault then
    s3.setCtx c { s3.ctx c with
      st := .running, pc := img.faultEntry, budget := x.budget + 64, faultCode := code, faultPc := x.pc, faultAddr := addr,
      inFault := true, blocked := .nothing, guardN := 0, guardSquash := false }
  else s3.faultEnd c

/-- The drain of END is over (R141): every posted operation of the event has completed, and every posted store has taken
effect. -/
def State.drained (s : State) (c : Nat) : Bool :=
  !(s.drk.ops.any fun o => o.2.ctx == c && !o.2.orphan) && !s.storesBefore c s.drk.nextOp

/-- The value that a load of `n` bytes puts into its register. -/
def loadVal (n v : Nat) (signed : Bool) : Word :=
  if signed then BitVec.ofInt 64 (sgn (8 * n) v) else BitVec.ofNat 64 (v % 2 ^ (8 * n))

/-- The data of a load through the fabric window reaches its context (R365): a status other than OK and DOMAIN_DOWN, or
data that met an uncorrectable word, is a fault. -/
def State.loadBack (s : State) (c st v : Nat) (ue : Bool) : State :=
  let x := s.ctx c
  match x.st, x.blocked with
  | .waiting, .load d n a sg =>
    if st = esUnreachable then s.fault c fcUnmapped (BitVec.ofNat 64 a)
    else if ue then s.fault c fcUncorrectable (BitVec.ofNat 64 a)
    else s.setCtx c { x.setReg d (loadVal n v sg) with st := .running, blocked := .nothing, pc := x.pc + 1 }
  | _, _ => s

end Sys2Proof.Machine
end

