-- ==== Sys2Proof/Machine/Sec.lean ====
section
/-! DEFINITION. Start-up, measurement and attestation (chapter 03). -/

namespace Sys2Proof.Machine

/-! ## Start-up (R60-R63) -/

/-- Set a part of the SEC state. -/
def State.setSec (s : State) (x : Sec) : State := { s with sec := x }

/-- SEC_BOOT_STATUS.STAGE. -/
def State.stage (s : State) : Nat := s.fg SEC_BOOT_STATUS SEC_BOOT_STATUS_STAGE

/-- Set STAGE. -/
def State.setStage (s : State) (v : Nat) : State := s.fs SEC_BOOT_STATUS SEC_BOOT_STATUS_STAGE v

/-- STRAP_LATCH (R428, R60): the strap balls' levels go into SEC_STRAPS, TMB_STATUS.REFSEL and the fabric identities. -/
def execStrapLatch (refsel bootsrc fabid : Nat) (s : State) : Host.Outcome State Fault Refusal :=
  if s.sec.boot = .reset then
    let s1 := ((s.fs SEC_STRAPS SEC_STRAPS_REFSEL refsel).fs SEC_STRAPS SEC_STRAPS_BOOTSRC bootsrc).fs
      SEC_STRAPS SEC_STRAPS_FABID fabid
    .next (((s1.fs TMB_STATUS TMB_STATUS_REFSEL refsel).fs FAB_HUDDLE FAB_HUDDLE_SELF fabid).setSec
      { s1.sec with boot := .strapped })
  else .next s

/-- A private key (R70): SHA-384(UDS ‖ L ‖ inputs) mod (n − 1), plus 1. -/
def deriveKey (uds label inputs : Bytes) : Nat := beNat (sha384 (uds ++ label ++ inputs)) % (ecN - 1) + 1

/-- The ASCII label "DIK". -/
def labelDik : Bytes := [0x44, 0x49, 0x4B]
/-- The ASCII label "ALIAS". -/
def labelAlias : Bytes := [0x41, 0x4C, 0x49, 0x41, 0x53]

/-- FUSE_SENSE (R60): the fuses are sensed and SEC_PART_ID becomes valid. -/
def execFuseSense (f : Fuses) (s : State) : Host.Outcome State Fault Refusal :=
  if s.sec.boot = .strapped then
    let s1 := (s.fs SEC_PART_ID SEC_PART_ID_GRADE f.grade).fs SEC_PART_ID SEC_PART_ID_STEP f.step
    .next (s1.setSec { s1.sec with
      boot := .fused, fuses := f, dikPub := ecPub (deriveKey f.uds labelDik []), udsLocked := false })
  else .next s

/-- TIMEBASE_LOCK (R60): the island locks and TMB_TIME starts from 0; REFSEL 0b11 stops start-up instead. -/
def execTimebaseLock (s : State) : Host.Outcome State Fault Refusal :=
  if s.sec.boot = .fused then
    if s.fg SEC_STRAPS SEC_STRAPS_REFSEL = 3 then
      .next ((s.setStage 4).setSec { (s.setStage 4).sec with boot := .stopped })
    else
      .next { s with tmb := { s.tmb with ns := 0, frac := 0, running := true }, sec := { s.sec with boot := .locked } }
  else .next s

/-! ## Measurement (R64-R69) -/

/-- A measurement register: 48 zero bytes at power-on. -/
def State.mr (s : State) (n : Nat) : Bytes := SMap.get s.sec.mrs n (List.replicate 48 0)

/-- SEC performs an extend: MRn := SHA-384(MRn ‖ digest), and its log entry is written in the same step (R64, R68,
R69); when the log is full, FULL is set and no entry is written. -/
def State.extend_ (s : State) (x : Extend) : State :=
  let c := s.sec.count
  let s1 := s.setSec { s.sec with mrs := SMap.ins s.sec.mrs x.mr (sha384 (s.mr x.mr ++ x.digest)) }
  if c < 1024 then
    let e := leBytes 1 x.mr ++ leBytes 1 x.source ++ leBytes 2 x.image ++ leBytes 4 c ++ slice x.digest 0 48 ++
      leBytes 8 s.now
    let s2 := s1.setSec { s1.sec with log := SMap.ins s1.sec.log c e, count := c + 1 }
    let s3 := s2.fs SEC_LOG_STATUS SEC_LOG_STATUS_COUNT (c + 1)
    if c + 1 = 1024 then s3.fs SEC_LOG_STATUS SEC_LOG_STATUS_FULL 1 else s3
  else s1

/-- An extend whose digest is complete joins SEC's order; extends of one instant meet at the SEC extend arbiter (R68). -/
def State.queueExtend (s : State) (x : Extend) : State :=
  let s1 := s.contest 13 0 (if x.source = 2 then 1024 else 512 + x.source)
  s1.setSec { s1.sec with extends_ := s1.sec.extends_ ++ [x] }

/-- SEC performs the first pending extend (R68). -/
def State.extendNext (s : State) : State :=
  match s.sec.extends_ with
  | [] => s
  | x :: t =>
    let s1 := s.setSec { s.sec with extends_ := t, hostExt := if x.source = 2 then false else s.sec.hostExt }
    s1.extend_ x

/-- SEC performs the first `n` pending extends, in their order. -/
def State.extendAll (s : State) : Nat → State
  | 0 => s
  | n + 1 => State.extendAll s.extendNext n

/-- An extend of the ROM joins the order, and is performed behind those ahead of it. -/
def State.romExtend (s : State) (mr : Nat) (digest : Bytes) : State :=
  let s1 := s.queueExtend { mr, source := 0, image := 0, digest }
  s1.extendAll s1.sec.extends_.length

/-- The fuse configuration that MR0 measures: the minimum SVN and the root key digest (Table SEC-5). The digest is taken of the key
in the fuses, which is also what the checks of R63 compare with the ROM's digest (DESIGN CHOICE, assumption 147). -/
def fuseConfig (f : Fuses) : Bytes := leBytes 2 f.minSvn ++ sha384 f.rootKey

/-- The slots BOOTSRC selects, in order: 0 slot A, 1 slot B (R62). -/
def bootSlots (src : Nat) : List Nat := if src = 0 then [0, 1] else if src = 1 then [1, 0] else []

/-- The ROM selects its slots under BOOTSRC, or waits in RECOVERY. -/
def State.selectSlots (s : State) : State :=
  let src := s.fg SEC_STRAPS SEC_STRAPS_BOOTSRC
  if src = 2 then (s.setStage 3).setSec { (s.setStage 3).sec with boot := .recovery, window := [] }
  else (s.setStage 0).setSec { (s.setStage 0).sec with boot := .slots (bootSlots src), window := [] }

/-- ROM_START (R60, R65): BOOTSRC is read and MR0 extended, or start-up stops in STOP_BOOT. -/
def execRomStart (s : State) : Host.Outcome State Fault Refusal :=
  if s.sec.boot = .locked then
    if s.fg SEC_STRAPS SEC_STRAPS_BOOTSRC = 3 then
      .next ((s.setStage 5).setSec { (s.setStage 5).sec with boot := .stopped })
    else
      let d := sha384 (Config.digestOf Config.romDigest ++ sha384 (fuseConfig s.sec.fuses))
      .next (s.romExtend 0 d).selectSlots
  else .next s

/-- MAGIC of a firmware image (Table SEC-4). -/
def fwMagic : Bytes := [0x46, 0x57, 0x53, 0x56]

/-- The checks of Table SEC-3 in order, on an image as stored; 0 when all pass. The key checked first is the fused root
key against the digest that the ROM holds (R63). -/
def fwCheck (f : Fuses) (img : Bytes) : Nat :=
  let h := slice img 0 512
  let len := leAt h 8 4
  if slice h 0 4 ≠ fwMagic then 2
  else if len = 0 ∨ 1048576 < len then 3
  else if sha384 f.rootKey ≠ Config.digestOf Config.rootDigest ∨
      !ecVerify f.rootKey (sha384 (slice h 0 108)) (slice h 108 96) then 4
  else if !ecVerify (slice h 12 96) (sha384 (slice h 0 204 ++ slice img 512 len)) (slice h 204 96) then 5
  else if leAt h 6 2 < f.minSvn then 6
  else 0

/-- An image has passed its checks: it is the one that boots. -/
def State.acceptImage (s : State) (img : Bytes) (slot : Nat) : State :=
  let h := slice img 0 512
  let s1 := s.fs SEC_BOOT_STATUS SEC_BOOT_STATUS_SLOT slot
  let s2 := (s1.fs SEC_FW_INFO SEC_FW_INFO_VERSION (leAt h 4 2)).fs SEC_FW_INFO SEC_FW_INFO_SVN (leAt h 6 2)
  (s2.setStage 0).setSec { s2.sec with boot := .accepted, fwImage := h ++ slice img 512 (leAt h 8 4) }

/-- Write the failure code of slot A (0) or slot B (1). -/
def State.setFail (s : State) (slot code : Nat) : State :=
  if slot = 0 then s.fs SEC_BOOT_STATUS SEC_BOOT_STATUS_FAIL_A code
  else s.fs SEC_BOOT_STATUS SEC_BOOT_STATUS_FAIL_B code

/-- Where a slot starts in the flash: slot A at 0x00_0000, slot B at 0x20_0000 (R63). -/
def slotOffset (k : Nat) : Nat := k * 0x200000

/-- IMAGE_SLOT_CHECK (R61): the check of the slot being tried completes on what the flash holds there, none when the
flash did not answer; a failure starts the next slot at once, or RECOVERY. `flash` lists the flash's contents by the offset at which
they start. -/
def execImageSlotCheck (flash : Option (List (Nat × Bytes))) (s : State) : Host.Outcome State Fault Refusal :=
  match s.sec.boot with
  | .slots (k :: rest) =>
    let img := SMap.get (flash.getD []) (slotOffset k) []
    let code := if flash.isSome then fwCheck s.sec.fuses img else 1
    if code = 0 then .next (s.acceptImage img (k + 1))
    else
      let s1 := s.setFail k code
      match rest with
      | [] => .next ((s1.setStage 3).setSec { (s1.setStage 3).sec with boot := .recovery })
      | _ => .next (s1.setSec { s1.sec with boot := .slots rest })
  | _ => .next s

/-- Bytes of the recovery image that the host has written. -/
def State.rcvBytes (s : State) : Nat → Nat → Bytes
  | _, 0 => []
  | a, n + 1 => SMap.get s.sec.window a 0 :: State.rcvBytes s (a + 1) n

/-- The checks of the host image start and end (R63). -/
def State.rcvGo (s : State) (v : Word) : State :=
  if s.sec.boot = .recovery ∧ v.getLsbD 0 then
    let h := s.rcvBytes 0 512
    let img := h ++ s.rcvBytes 512 (min 1048576 (leAt h 8 4))
    let code := fwCheck s.sec.fuses img
    if code = 0 then s.acceptImage img 3 else s.setFail 1 code
  else s

/-- SEC_RCV_GO (R63). -/
def execSecRcvGo (who : Init) (v : Word) (s : State) : Host.Outcome State Fault Refusal :=
  .next (s.csrWrite SEC_RCV_GO [] who v fun t => t.rcvGo v)

/-! ## Host extends (R67) -/

/-- A write of GO: the six data words are captured, or the write is discarded while an extend is pending. MR7 belongs to
the host, so a request of another is discarded and logged (R65); where start-up has stopped no MR is extended, and a request is
discarded and logged in the same way (R61, Table SEC-2). -/
def State.extGo (s : State) (who : Init) (v : Word) : State :=
  if !v.getLsbD 0 then s
  else if who ≠ .host ∨ s.sec.boot = .stopped then s.logEv 0 0x0B 0 7
  else if s.sec.hostExt then s.fs SEC_LOG_STATUS SEC_LOG_STATUS_EXT_BUSY 1
  else
    let d := ([0, 1, 2, 3, 4, 5].map fun i => leBytes 8 (s.rg SEC_EXT_DATA [i]).toNat).flatten
    let s1 := s.setSec { s.sec with hostExt := true }
    s1.queueExtend { mr := 7, source := 2, image := 0, digest := d }

/-- SEC_EXT_GO (R67). -/
def execSecExtGo (who : Init) (v : Word) (s : State) : Host.Outcome State Fault Refusal :=
  .next (s.csrWrite SEC_EXT_GO [] who v fun t => t.extGo who v)

/-- MR_EXTEND (R68): SEC performs the first pending extend; none where start-up has stopped (R61). -/
def execMrExtend (s : State) : Host.Outcome State Fault Refusal :=
  .next (if s.sec.boot = .stopped then s else s.extendNext)

/-! ## The firmware's start (R60, R70, R73) -/

/-- MR1 and MR2 are extended, behind the host extends that were pending (R68), the alias key is derived and certified by the DIK,
and the UDS is locked. -/
def State.deriveAlias (s : State) : State :=
  let s1 := s.romExtend 1 (sha384 s.sec.fwImage)
  let d2 := leBytes 4 (s.rg SEC_PART_ID).toNat ++ leBytes 4 (s.rg SEC_STRAPS).toNat ++
    leBytes 4 (s.fg SEC_BOOT_STATUS SEC_BOOT_STATUS_SLOT)
  let s2 := s1.romExtend 2 (sha384 d2)
  let mrs := s2.mr 0 ++ s2.mr 1 ++ s2.mr 2
  let k := deriveKey s2.sec.fuses.uds labelAlias mrs
  let pub := ecPub k
  let dik := deriveKey s2.sec.fuses.uds labelDik []
  s2.setSec { s2.sec with
    aliasKey := k, aliasPub := pub, aliasSig := ecSign dik (sha384 (s2.sec.fuses.deviceId ++ pub ++ mrs)),
    udsLocked := true }

/-! ## Attestation (R72-R76) -/

/-- The enable bit of a source (Table SEC-11). -/
def State.attEnabled (s : State) (source : Nat) : Bool :=
  if source = 0 then s.flag SEC_ATT_CTRL SEC_ATT_CTRL_HOST
  else if source = 1 then s.flag SEC_ATT_CTRL SEC_ATT_CTRL_TWIN
  else s.flag SEC_ATT_CTRL SEC_ATT_CTRL_FABRIC

/-- A request meets Table SEC-9. -/
def attWellFormed (b : Bytes) : Bool :=
  b.length == 64 && leAt b 0 1 == 1 && leAt b 2 2 == 0 && (slice b 40 24).all (· == 0)

/-- The status with which a request is refused, or 0 when it is queued (Table SEC-12). -/
def State.attStatus (s : State) (source : Nat) (member : Bool) (b : Bytes) : Nat :=
  if !s.attEnabled source then 2
  else if !attWellFormed b then 3
  else if s.stage ≠ 2 then 4
  else if source = 2 ∧ !member then 5
  else if 8 ≤ s.sec.attPending.length + (if s.sec.attServing.isSome then 1 else 0) then 1
  else 0

/-- A request arrives: it is queued, or refused with its status and logged. -/
def State.attRequest (s : State) (r : AttReq) (member : Bool) : State × Nat :=
  let st := s.attStatus r.source member r.bytes
  if st = 0 then
    let s1 := s.contest 14 0 (if r.source = 0 then 1024 else 512 + r.source)
    (s1.setSec { s1.sec with attPending := s1.sec.attPending ++ [r] }, 0)
  else (s.logEv 0 0x0B 0 (r.source * 16 + st), st)

/-- ATTEST_SERVICE (R74): SEC starts serving the next request with one snapshot. -/
def execAttestService (s : State) : Host.Outcome State Fault Refusal :=
  match s.sec.attServing, s.sec.attPending with
  | none, r :: t =>
    let snap : AttServe := { req := r, mrs := (List.range 8).map s.mr, logCount := s.sec.count, time := s.now }
    .next (s.setSec { s.sec with attPending := t, attServing := some snap })
  | _, _ => .next s

/-- The MRs a mask selects, in ascending order. -/
def maskedMrs (mask : Nat) (mrs : List Bytes) : Bytes :=
  ((List.range 8).filterMap fun i => if bitN mask i then some (getAt mrs i []) else none).flatten

/-- The report of a served request (Table SEC-10). FAB_LOCK is taken when the report is made, since the snapshot of R74 holds only
the MRs, LOG_COUNT and TIME (DESIGN CHOICE, assumption 147). -/
def State.attReport (s : State) (a : AttServe) : Bytes :=
  let mask := leAt a.req.bytes 1 1 ||| 7
  let flags := b2n (decide (1024 ≤ a.logCount)) + 2 * b2n (s.fg SEC_BOOT_STATUS SEC_BOOT_STATUS_SLOT == 3) +
    4 * s.fg TMB_STATUS TMB_STATUS_FAB_LOCK
  let body := [0x53, 0x56, 0x41, 0x52] ++ leBytes 1 1 ++ leBytes 1 a.req.source ++ leBytes 1 mask ++ leBytes 1 flags ++
    slice a.req.bytes 4 4 ++ leBytes 4 (s.rg SEC_PART_ID).toNat ++ slice s.sec.fuses.deviceId 0 16 ++
    leBytes 4 (s.rg SEC_FW_INFO).toNat ++ leBytes 1 (s.fg SEC_STRAPS SEC_STRAPS_FABID) ++ leBytes 3 0 ++
    leBytes 8 a.time ++ leBytes 4 a.logCount ++ leBytes 4 0 ++ slice a.req.bytes 8 32 ++ slice s.sec.aliasPub 0 96 ++
    slice s.sec.aliasSig 0 96 ++ maskedMrs mask a.mrs
  body ++ ecSign s.sec.aliasKey (sha384 body)

/-- The DIK certificate (Table SEC-8). -/
def State.dikCert (s : State) : Bytes :=
  leBytes 4 1 ++ leBytes 4 (s.rg SEC_PART_ID).toNat ++ slice s.sec.fuses.deviceId 0 16 ++ slice s.sec.dikPub 0 96 ++
    slice (sha384 s.sec.fuses.rootKey) 0 8 ++ slice s.sec.fuses.dikSig 0 96

end Sys2Proof.Machine
end

