-- ==== Sys2Proof/Machine/Hif.lean ====
section
/-! DEFINITION. The host interface (chapter 04): queue pairs, doorbells, fetching and checking commands, completions, the
journal, interrupts, and the commands that HIF and SEC carry out alone. -/

namespace Sys2Proof.Machine

/-- Status codes (Table HIF-7). -/
def stOk : Nat := 0
def stNotReady : Nat := 1
def stBadOpcode : Nat := 2
def stBadField : Nat := 3
def stBadLength : Nat := 4
def stWrongQueue : Nat := 5
def stSeqMismatch : Nat := 6
def stDomainDown : Nat := 7
def stHostUnreachable : Nat := 8
def stDeviceError : Nat := 9
def stAborted : Nat := 10
def stRefused : Nat := 11
def stOversize : Nat := 12

/-- A queue pair's indices. -/
def State.hq (s : State) (n : Nat) : HQueue := SMap.get s.hif.qs n {}

/-- Set them. -/
def State.setHq (s : State) (n : Nat) (q : HQueue) : State :=
  { s with hif := { s.hif with qs := SMap.set s.hif.qs n q {} } }

/-- HIF_QPn_STATUS.STATE. -/
def State.qState (s : State) (n : Nat) : Nat := s.fg HIF_QP_STATUS HIF_QP_STATUS_STATE [n]

/-- Set it. -/
def State.setQState (s : State) (n v : Nat) : State := s.fs HIF_QP_STATUS HIF_QP_STATUS_STATE v [n]

/-- HALTED with a reason (Table HIF-3). -/
def State.halt (s : State) (n err : Nat) : State := (s.setQState n 3).fs HIF_QP_STATUS HIF_QP_STATUS_ERR err [n]

/-- The commands in flight of a queue. -/
def State.qCmds (s : State) (n : Nat) : List HCmd := s.hif.cmds.filter fun c => c.qp == n

/-- INFLIGHT follows the commands in flight. -/
def State.inflightView (s : State) (n : Nat) : State :=
  s.fs HIF_QP_STATUS HIF_QP_STATUS_INFLIGHT (s.qCmds n).length [n]

/-- Entries of a queue's command ring and completion ring. -/
def State.sqSize (s : State) (n : Nat) : Nat := 2 ^ s.fg HIF_QP_CFG HIF_QP_CFG_SQ_LOG2 [n]
def State.cqSize (s : State) (n : Nat) : Nat := 2 ^ s.fg HIF_QP_CFG HIF_QP_CFG_CQ_LOG2 [n]

/-- The queue's host memory cannot be used: the queue is SUSPENDED, or the function may not reach the host (R95). -/
def State.hostGone (s : State) (n : Nat) : Bool := s.qState n == 2 || !s.hostReach

/-- Write bytes to host memory from a host address. -/
def putHost (m : SMap Byte) : Nat → Bytes → SMap Byte
  | _, [] => m
  | a, b :: t => putHost (SMap.ins m a b) (a + 1) t

/-- The device writes host memory; a replay does not (R416). -/
def State.hostWrite (s : State) (a : Nat) (b : Bytes) : State :=
  if s.replaying then s else { s with hif := { s.hif with hostMem := putHost s.hif.hostMem a b } }

/-! ## Configuration and doorbells (R79, R81, R87) -/

/-- HIF_BAR2_BASE (R79): only the windows onto DRAM data and SRAM are valid. -/
def State.bar2Write (s : State) (v : Word) : State :=
  let w := HIF_BAR2_BASE_WIN.of v
  if w ≤ 6 ∨ w = 0x100 then s.fs HIF_BAR2_BASE HIF_BAR2_BASE_WIN w else s.logDiscard (HIF_BAR2_BASE.addr [])

/-- HIF_BAR2_BASE_WRITE (R79). -/
def execHifBar2BaseWrite (who : Init) (v : Word) (s : State) : Host.Outcome State Fault Refusal :=
  .next (s.csrWrite HIF_BAR2_BASE [] who v fun t => t.bar2Write v)

/-- A queue's configuration can be enabled (R81). -/
def qCfgOk (v : Word) : Bool :=
  let sq := HIF_QP_CFG_SQ_LOG2.of v
  let cq := HIF_QP_CFG_CQ_LOG2.of v
  decide (4 ≤ sq ∧ sq ≤ 12 ∧ sq ≤ cq ∧ cq ≤ 12) && fld v 3 1 == 0 && fld v 15 12 == 0 && fld v 31 22 == 0

/-- An accepted enable (R81, R87): the queue is ACTIVE, CONS and POST start before SEQ_INIT, the indices start at 0. -/
def State.qEnable (s : State) (n : Nat) : State :=
  let init := s.rg HIF_QP_SEQ_INIT [n]
  let cons := (fld init 31 0 + 0xFFFFFFFF) % 2 ^ 32
  let post := (fld init 63 32 + 0xFFFFFFFF) % 2 ^ 32
  let s1 := (s.fs HIF_QP_CFG HIF_QP_CFG_ENABLE 1 [n]).setQState n 1
  let s2 := (s1.fs HIF_QP_STATUS HIF_QP_STATUS_ERR 0 [n]).wg HIF_QP_SEQ (BitVec.ofNat 64 (cons + post * 2 ^ 32)) [n]
  s2.setHq n {}

/-- A queue is disabled (R81): fetching stops, and RX_BUF commands in flight are aborted. -/
def State.qDisable (s : State) (n : Nat) : State :=
  let s1 := s.fs HIF_QP_CFG HIF_QP_CFG_ENABLE 0 [n]
  { s1 with hif := { s1.hif with
      cmds := s1.hif.cmds.map fun c =>
        if c.qp = n ∧ c.op = 2 ∧ c.done = none then { c with started := true, done := some { status := stAborted } } else c,
      feeder := s1.hif.feeder.filter fun f => f.2 ≠ n } }

/-- A write of HIF_QPn_CFG (R81). -/
def State.qCfgWrite (s : State) (n : Nat) (v : Word) : State :=
  let on := v.getLsbD 0
  if s.flag HIF_QP_CFG HIF_QP_CFG_ENABLE [n] then
    let s1 := s.fs HIF_QP_CFG HIF_QP_CFG_VEC (HIF_QP_CFG_VEC.of v) [n]
    if on then s1 else s1.qDisable n
  else if on && s.qState n != 0 then s.fs HIF_QP_STATUS HIF_QP_STATUS_ERR 3 [n]
  else
    let s1 := s.wg HIF_QP_CFG (setFld (rwMerge HIF_QP_CFG (s.rg HIF_QP_CFG [n]) v) 0 0 0) [n]
    if !on then s1
    else if qCfgOk v then s1.qEnable n
    else s1.fs HIF_QP_STATUS HIF_QP_STATUS_ERR 3 [n]

/-- QUEUE_ENABLE (R81): a write of HIF_QPn_CFG with ENABLE 1. -/
def execQueueEnable (qp : Nat) (who : Init) (v : Word) (s : State) : Host.Outcome State Fault Refusal :=
  .next (s.csrWrite HIF_QP_CFG [qp] who v fun t => t.qCfgWrite qp (setFld v 0 0 1))

/-- QUEUE_DISABLE (R81): a write of HIF_QPn_CFG with ENABLE 0. -/
def execQueueDisable (qp : Nat) (who : Init) (v : Word) (s : State) : Host.Outcome State Fault Refusal :=
  .next (s.csrWrite HIF_QP_CFG [qp] who v fun t => t.qCfgWrite qp (setFld v 0 0 0))

/-- QUEUE_DRAINED (R81): a disabled queue becomes DISABLED when nothing of it is in flight. -/
def execQueueDrained (qp : Nat) (s : State) : Host.Outcome State Fault Refusal :=
  .next (if !s.flag HIF_QP_CFG HIF_QP_CFG_ENABLE [qp] && s.qState qp != 0 && (s.qCmds qp).isEmpty then s.setQState qp 0
    else s)

/-- A TAIL write (R87). -/
def State.sqDoorbell (s : State) (n : Nat) (v : Word) : State :=
  if s.qState n ≠ 1 then s
  else
    let t := HIF_QP_SQDB_TAIL.of v
    let size := s.sqSize n
    let q := s.hq n
    if size ≤ t then s.halt n 2
    else s.setHq n { q with tail := t, avail := q.avail + (t + size - q.tail) % size }

/-- SQ_DOORBELL (R87). -/
def execSqDoorbell (qp : Nat) (who : Init) (v : Word) (s : State) : Host.Outcome State Fault Refusal :=
  .next (s.csrWrite HIF_QP_SQDB [qp] who v fun t => t.sqDoorbell qp v)

/-- A HEAD write (R87). -/
def State.cqDoorbell (s : State) (n : Nat) (v : Word) : State :=
  if s.qState n ≠ 1 then s
  else
    let h := HIF_QP_CQDB_HEAD.of v
    let size := s.cqSize n
    let q := s.hq n
    let rel := (h + size - q.head % size) % size
    if size ≤ h ∨ q.used < rel then s.halt n 2
    else s.setHq n { q with head := h, used := q.used - rel }

/-- CQ_DOORBELL (R87). -/
def execCqDoorbell (qp : Nat) (who : Init) (v : Word) (s : State) : Host.Outcome State Fault Refusal :=
  .next (s.csrWrite HIF_QP_CQDB [qp] who v fun t => t.cqDoorbell qp v)

/-! ## Completions (R86, R89, R94, R96) -/

/-- An MSI-X message of a queue is sent and its two counts start anew (R94). -/
def State.qSignal (s : State) (n : Nat) : State :=
  let q := s.hq n
  (s.setHq n { q with unsig := 0, firstUnsig := 0 }).sendMsix (s.fg HIF_QP_CFG HIF_QP_CFG_VEC [n])

/-- One more unsignalled completion (R94). -/
def State.irqCount (s : State) (n : Nat) : State :=
  let q := s.hq n
  let s1 := s.setHq n { q with unsig := q.unsig + 1, firstUnsig := if q.unsig = 0 then s.now else q.firstUnsig }
  let c := s.fg HIF_QP_IRQ HIF_QP_IRQ_COUNT [n]
  if c ≠ 0 ∧ c ≤ q.unsig + 1 then s1.qSignal n else s1

/-- Write a completion to the journal (R96). -/
def State.journal (s : State) (e : Bytes) : State :=
  let t := (s.rg HIF_JRN_TOTAL).toNat
  let old := SMap.get s.hif.journal (t % 256) (List.replicate 32 0)
  let s1 := if bitN (leAt old 12 2) 1 then s.bump HIF_JRN_LOST else s
  { s1 with hif := { s1.hif with journal := SMap.ins s1.hif.journal (t % 256) e } }.wg HIF_JRN_TOTAL
    (BitVec.ofNat 64 (t + 1))

/-- The completion entry of Table HIF-6. -/
def cplEntry (pseq cseq tag qp : Nat) (d : HDone) (undelivered : Bool) : Bytes :=
  leBytes 4 pseq ++ leBytes 4 cseq ++ leBytes 2 tag ++ leBytes 1 qp ++ leBytes 1 d.status ++
    leBytes 2 (d.flags + 2 * b2n undelivered) ++ leBytes 2 d.stampFrac ++ leBytes 8 d.stampNs ++ leBytes 8 d.result

/-- Post a completion with the next PSEQ: to the journal, and to the ring unless host memory cannot be used. -/
def State.postCpl (s : State) (n cseq tag : Nat) (d : HDone) : State :=
  let s0 := (s.contest 12 0 (512 + n)).cross 36 1
  let pseq := (s0.fg HIF_QP_SEQ HIF_QP_SEQ_POST [n] + 1) % 2 ^ 32
  let susp := s0.hostGone n
  let s1 := (s0.fs HIF_QP_SEQ HIF_QP_SEQ_POST pseq [n]).journal (cplEntry pseq cseq tag n d susp)
  if susp then s1
  else
    let q := s1.hq n
    let base := s1.fg HIF_QP_CQ_BASE HIF_QP_CQ_BASE_ADDR [n] * 4096
    let s2 := s1.hostWrite (base + 32 * q.cq) (cplEntry pseq cseq tag n d false)
    (s2.setHq n { q with cq := (q.cq + 1) % s1.cqSize n, used := q.used + 1 }).irqCount n

/-- The stamp queue of a port shows its occupancy (R58). -/
def State.stampView (s : State) (p : Nat) : State :=
  s.fs ETH_TXTS_STATUS ETH_TXTS_STATUS_OCC (s.port p).stamps.length [p]

/-- A command's stamp leaves its port's queue once it is in the completion (R58). -/
def State.takeCmdStamp (s : State) (qp cseq p : Nat) : State :=
  let e := s.port p
  (s.setPort p { e with stamps := e.stamps.filter fun x => x.cmd != some (qp, cseq) }).stampView p

/-- COMPLETION_POST (R86, R96): a consumed command whose work has ended is completed. -/
def execCompletionPost (qp cseq : Nat) (s : State) : Host.Outcome State Fault Refusal :=
  match s.hif.cmds.find? fun c => c.qp == qp && c.cseq == cseq && c.done.isSome with
  | none => .next s
  | some c =>
    let d := c.done.getD { status := 0 }
    let s1 := { s with hif := { s.hif with cmds := s.hif.cmds.filter fun x => !(x.qp == qp && x.cseq == cseq) } }
    let s2 := ((s1.takeCmdStamp qp cseq 0).takeCmdStamp qp cseq 1).postCpl qp cseq c.tag d
    .next (s2.inflightView qp)

/-- IRQ_TIMER (R94): TIME µs have passed since the first unsignalled completion. No host memory is written, the message
among it, while the queue is SUSPENDED (R95). -/
def execIrqTimer (qp : Nat) (s : State) : Host.Outcome State Fault Refusal :=
  let q := s.hq qp
  let t := s.fg HIF_QP_IRQ HIF_QP_IRQ_TIME [qp]
  .next (if t ≠ 0 ∧ 0 < q.unsig ∧ q.firstUnsig + t * 1000 ≤ s.now ∧ !s.hostGone qp then s.qSignal qp else s)

/-! ## Fetching and checking (R84, R85, R88) -/

/-- An admin opcode (Table HIF-4). -/
def adminOp (op : Nat) : Bool := op == 0x10 || op == 0x11 || op == 0x12 || op == 0x20

/-- An assigned opcode. -/
def knownOp (op : Nat) : Bool := decide (op ≤ 4) || adminOp op

/-- A command entry's fields (Table HIF-5). -/
def cmdOf (qp : Nat) (b : Bytes) : HCmd :=
  { qp, cseq := leAt b 4 4, tag := leAt b 2 2, op := leAt b 0 1, flags := leAt b 1 1, addr0 := leAt b 8 8,
    len0 := leAt b 16 4, target := leAt b 20 4, addr1 := leAt b 24 8, len1 := leAt b 32 4, stampTag := leAt b 36 2,
    arg := slice b 40 24 }

/-- IMAGE_LOAD's mode and core mask (Table DRK-7). -/
def HCmd.loadMode (c : HCmd) : Nat := leAt c.arg 12 1
def HCmd.coreMask (c : HCmd) : Nat := leAt c.arg 0 12

/-- Check 5 of R84 for an opcode: reserved ARG bytes and other unused fields, TARGET and addresses. -/
def State.cmdFieldsOk (s : State) (c : HCmd) : Bool :=
  let zero (b : Bytes) : Bool := b.all (· == 0)
  if c.op = 2 then
    decide (c.target < 256) &&
      (match SMap.find s.hif.feeder c.target with
       | some q => q == c.qp || !s.flag HIF_QP_CFG HIF_QP_CFG_ENABLE [q]
       | none => true)
  else if c.op = 3 ∨ c.op = 4 then rangeInMem c.addr1 (max 1 c.len0)
  else if c.op = 0x10 then
    decide (c.loadMode ≤ 1) && c.coreMask != 0 && c.addr1 == 0 && c.len1 == 0 && zero (slice c.arg 13 11) &&
      (if c.loadMode = 0 then c.target == 0
       else c.addr0 == 0 && decide (1 ≤ c.target ∧ c.target ≤ 0xFFFF))
  else if c.op = 0x11 then decide (leAt c.arg 0 1 < 8) && decide (leAt c.arg 1 1 ≤ 1) && zero (slice c.arg 2 22)
  else if c.op = 0x12 then
    decide (leAt c.arg 0 1 < 8) && decide (leAt c.arg 1 1 ≤ 1) && zero (slice c.arg 2 6) && zero (slice c.arg 16 8) &&
      c.addr0 == 0 && c.len0 == 0 && c.addr1 == 0 && c.len1 == 0
  else true

/-- Check 6 of R84. -/
def HCmd.lengthsOk (c : HCmd) : Bool :=
  if c.op = 1 then decide (14 ≤ c.len0 ∧ c.len0 ≤ 9600)
  else if c.op = 2 then decide (64 ≤ c.len0 ∧ c.len0 ≤ 16384)
  else if c.op = 3 ∨ c.op = 4 then decide (1 ≤ c.len0 ∧ c.len0 ≤ 1048576)
  else if c.op = 0x10 then
    if c.loadMode = 0 then decide (260 ≤ c.len0 ∧ c.len0 ≤ 590080) else c.len0 == 0
  else if c.op = 0x11 then
    if leAt c.arg 1 1 = 1 then c.len0 == 0 && c.len1 == 0
    else decide (32 ≤ c.len0 ∧ c.len0 ≤ 1048576 ∧ c.len0 % 32 = 0 ∧ c.len1 % 256 = 0 ∧ c.len1 ≤ 1048576)
  else if c.op = 0x20 then c.len0 == 64 && decide (760 ≤ c.len1)
  else true

/-- The domains on a command's path (check 7 of R84). -/
def HCmd.domains (c : HCmd) : List Dom :=
  if c.op = 1 ∨ c.op = 2 then [.memory, .wired]
  else if c.op = 3 ∨ c.op = 4 ∨ c.op = 0x11 ∨ c.op = 0x12 then [.memory]
  else if c.op = 0x10 then
    .memory :: (if c.coreMask % 2 ^ 48 = 0 then [] else [.core0]) ++ (if c.coreMask / 2 ^ 48 = 0 then [] else [.core1])
  else []

/-- The checks 2 to 7 of R84 in order: the status of the first that fails, or none. -/
def State.cmdCheck (s : State) (c : HCmd) (reserved : Nat) : Option Nat :=
  if s.stage ≠ 2 then some stNotReady
  else if !knownOp c.op then some stBadOpcode
  else if adminOp c.op ∧ c.qp ≠ 0 then some stWrongQueue
  else if reserved ≠ 0 ∨ 4 ≤ c.flags ∨ (bitN c.flags 1 ∧ c.op ≠ 1) ∨ !s.cmdFieldsOk c then some stBadField
  else if !c.lengthsOk then some stBadLength
  else if c.domains.any (fun d => !s.domOn d) then some stDomainDown
  else none

/-- HIF may fetch from a queue (R88). -/
def State.canFetch (s : State) (n : Nat) : Bool :=
  let q := s.hq n
  let f := (s.qCmds n).length
  s.qState n == 1 && s.hostReach && !s.deaf && s.flag HIF_QP_CFG HIF_QP_CFG_ENABLE [n] && decide (0 < q.avail) && decide (f < 1024) &&
    decide (s.hif.cmds.length < 16384) && decide (q.used + f + 1 ≤ s.cqSize n)

/-- A command of an offered RX_BUF names the queue pair that feeds its host queue (R92). -/
def State.feed (s : State) (c : HCmd) : State :=
  if c.op = 2 then { s with hif := { s.hif with feeder := SMap.ins s.hif.feeder c.target c.qp } } else s

/-- The queue the fetch arbiter serves: the first that may fetch, round-robin after the one served last (R88). -/
def State.fetchPick (s : State) : Option Nat :=
  ((List.range 64).map fun i => (s.hif.next + i) % 64).find? s.canFetch

/-- The host address of the next entry of a queue's command ring: ADDR 0 is used as it is (R80, R98). -/
def State.entryAddr (s : State) (n : Nat) : Nat :=
  s.fg HIF_QP_SQ_BASE HIF_QP_SQ_BASE_ADDR [n] * 4096 + 64 * (s.hq n).sq

/-- COMMAND_FETCH (R84, R85, R88): `host` lists what host memory answers at a host address, and a read at an address not
listed fails (an error completion or poisoned data). A queue whose turn at the arbiter has not come is not served. -/
def execCommandFetch (qp : Nat) (host : List (Nat × Bytes)) (s : State) : Host.Outcome State Fault Refusal :=
  if s.fetchPick ≠ some qp then .next s
  else
    let s0 := ({ s with hif := { s.hif with next := (qp + 1) % 64 } }.contest 11 0 (512 + qp))
    match (host.find? fun e => e.1 == s.entryAddr qp).map (·.2) with
    | none => .next (((s0.cross 36 0).halt qp 4).logEv 5 0x04 0 qp)
    | some b =>
      let s1 := s0.input 4 qp b
      let c := cmdOf qp b
      let want := (s1.fg HIF_QP_SEQ HIF_QP_SEQ_CONS [qp] + 1) % 2 ^ 32
      if c.cseq ≠ want then
        .next ((s1.postCpl qp c.cseq c.tag { status := stSeqMismatch, result := want }).halt qp 1)
      else
        let q := s1.hq qp
        let s2 := (s1.setHq qp { q with sq := (q.sq + 1) % s1.sqSize qp, avail := q.avail - 1 }).fs HIF_QP_SEQ
          HIF_QP_SEQ_CONS want [qp]
        let (c', s3) :=
          match s2.cmdCheck c (leAt b 38 2) with
          | some st => ({ c with started := true, done := some { status := st } }, s2)
          | none => (c, s2.feed c)
        .next ({ s3 with hif := { s3.hif with cmds := s3.hif.cmds ++ [c'] } }.inflightView qp)

/-! ## Starting a command (R82, R86) -/

/-- The command may start: every earlier command of its queue has started, and with FENCE has completed. -/
def canStart (qp cseq : Nat) : List HCmd → Bool → Bool → Bool
  | [], _, _ => false
  | c :: t, started, empty =>
    if c.qp = qp then
      if c.cseq = cseq then started && !c.started && (!bitN c.flags 0 || empty)
      else canStart qp cseq t (started && c.started) false
    else canStart qp cseq t started empty

/-- The command of an opcode that starts now. -/
def State.starting (s : State) (qp cseq op : Nat) : Option HCmd :=
  match s.hif.cmds.find? fun c => c.qp == qp && c.cseq == cseq with
  | some c => if c.op = op && c.done.isNone && canStart qp cseq s.hif.cmds true true then some c else none
  | none => none

/-- Mark a command started. -/
def State.markStarted (s : State) (qp cseq : Nat) : State :=
  { s with hif := { s.hif with cmds := s.hif.cmds.map fun c =>
      if c.qp = qp ∧ c.cseq = cseq then { c with started := true } else c } }

/-- Host data that the queue can still reach: none while it is SUSPENDED (R95). -/
def State.hostData (s : State) (qp : Nat) (d : Option Bytes) : Option Bytes := if s.hostGone qp then none else d

/-- HIF_NOP (R83). -/
def execHifNop (qp cseq : Nat) (s : State) : Host.Outcome State Fault Refusal :=
  match s.starting qp cseq 0 with
  | some _ => .next ((s.markStarted qp cseq).hifDone qp cseq { status := stOk })
  | none => .next s

/-- TX_FRAME (R91): the frame is fetched into pails and waits at the skimmer's HIF input; it waits in HIF while the pool
has no pails for it. -/
def execTxFrame (qp cseq : Nat) (data : Option Bytes) (s : State) : Host.Outcome State Fault Refusal :=
  match s.starting qp cseq 1 with
  | none => .next s
  | some c =>
    if s.deaf then .next s else
    match s.hostData qp data with
    | none => .next ((s.markStarted qp cseq).hifDone qp cseq { status := stHostUnreachable })
    | some b =>
      let d := slice b 0 c.len0
      match (s.input 4 qp d).storeFrame (512 + 5) d with
      | none => .next s
      | some (s1, hs) =>
        let f : Frame := { pail := getAt hs 0 0, len := c.len0, source := 0x3000 + qp, flags := 5, arg := c.target,
                           ts := if bitN c.flags 1 then some (qp, cseq, c.stampTag) else none }
        let s2 := s1.markStarted qp cseq
        let s3 := { s2 with skm := { s2.skm with
          inputs := SMap.set s2.skm.inputs 4 (SMap.get s2.skm.inputs 4 [] ++ [f]) [] } }
        .next (if bitN c.flags 1 then s3 else s3.hifDone qp cseq { status := stOk })

/-- RX_BUF (R92): the buffer is offered; it completes when a frame fills it. -/
def execRxBuf (qp cseq : Nat) (s : State) : Host.Outcome State Fault Refusal :=
  match s.starting qp cseq 2 with
  | some _ => .next (s.markStarted qp cseq)
  | none => .next s

/-- MEM_WRITE (R83): host bytes go to device memory. -/
def execMemWrite (qp cseq : Nat) (data : Option Bytes) (s : State) : Host.Outcome State Fault Refusal :=
  match s.starting qp cseq 3 with
  | none => .next s
  | some c =>
    if s.deaf then .next s else
    let s1 := s.markStarted qp cseq
    if !s1.domOn .memory then .next (s1.hifDone qp cseq { status := stDomainDown })
    else
      match s.hostData qp data with
      | none => .next (s1.hifDone qp cseq { status := stHostUnreachable })
      | some b =>
        let d := slice b 0 c.len0
        .next (((s1.input 4 qp d).write c.addr1 d).1.hifDone qp cseq { status := stOk })

/-- MEM_READ (R83): device bytes go to host memory; an uncorrectable word ends it with DEVICE_ERROR. -/
def execMemRead (qp cseq : Nat) (reachable : Bool) (s : State) : Host.Outcome State Fault Refusal :=
  match s.starting qp cseq 4 with
  | none => .next s
  | some c =>
    let s1 := s.markStarted qp cseq
    if !s1.domOn .memory then .next (s1.hifDone qp cseq { status := stDomainDown })
    else
      let (s2, b, bad) := s1.read c.addr1 c.len0 0
      match bad with
      | some a => .next (s2.hifDone qp cseq { status := stDeviceError, result := max a c.addr1 })
      | none =>
        if reachable ∧ !s.hostGone qp then .next ((s2.hostWrite c.addr0 b).hifDone qp cseq { status := stOk })
        else .next (s2.hifDone qp cseq { status := stHostUnreachable })

/-! ## Attestation over HIF (R93, R76) -/

/-- An attestation has ended: RESULT carries the SEC status and the report's length. -/
def attDone (st len : Nat) : HDone := { status := stOk, result := st + len * 2 ^ 16 }

/-- ATTEST (R93): the 64-byte request read from the host goes to SEC. -/
def execAttest (qp cseq : Nat) (req : Option Bytes) (s : State) : Host.Outcome State Fault Refusal :=
  match s.starting qp cseq 0x20 with
  | none => .next s
  | some c =>
    if s.deaf then .next s else
    let s1 := s.markStarted qp cseq
    match s.hostData qp req with
    | none => .next (s1.hifDone qp cseq { status := stHostUnreachable })
    | some b =>
      let d := slice b 0 64
      let r : AttReq := { source := 0, tagA := qp, tagB := cseq, tagC := c.addr1, bytes := d }
      let (s2, st) := (s1.input 4 qp d).attRequest r true
      .next (if st = 0 then s2 else s2.hifDone qp cseq (attDone st 0))

/-- A report or a refusal goes back to a twin or a fabric peer: the source, its tags, the status and the bytes. -/
def State.attReply (s : State) (source tagA tagB st : Nat) (b : Bytes) : State :=
  s.setSec { s.sec with attSent := s.sec.attSent ++ [(source, tagA + tagB * 2 ^ 16 + st * 2 ^ 60, b)] }

/-- ATTEST_REQUEST (R76): a request of the twin (source 1) or a fabric peer (source 2) arrives with its own tags. No other source
sends one (Table SEC-11): the host's comes by its own command. -/
def execAttestRequest (source tagA tagB : Nat) (bytes : Bytes) (s : State) : Host.Outcome State Fault Refusal :=
  if source ≠ 1 ∧ source ≠ 2 then .next s else
  let member := bitN (s.fg FAB_HUDDLE FAB_HUDDLE_MEMBERS) tagA
  let (s1, st) := s.attRequest { source, tagA, tagB, tagC := 0, bytes := slice bytes 0 64 } member
  .next (if st = 0 then s1 else s1.attReply source tagA tagB st [])

/-- ATTEST_REPORT_DONE (R76): the report is signed and delivered to its requester. -/
def execAttestReportDone (reachable : Bool) (s : State) : Host.Outcome State Fault Refusal :=
  match s.sec.attServing with
  | none => .next s
  | some a =>
    let b := s.attReport a
    let s1 := s.setSec { s.sec with attServing := none }
    if a.req.source = 0 then
      if reachable ∧ !s.hostGone a.req.tagA then
        .next ((s1.hostWrite a.req.tagC b).hifDone a.req.tagA a.req.tagB (attDone 0 b.length))
      else .next (s1.hifDone a.req.tagA a.req.tagB { status := stHostUnreachable })
    else .next (s1.attReply a.req.source a.req.tagA a.req.tagB 0 b)

/-! ## The configuration space, and losing the host (R78, R95) -/

/-- Vendor ID, Device ID and class code (Table HIF-1). -/
def pcieVendor : Nat := 0x1F4E
def pcieDevice : Nat := 0x4816
def pcieClass : Nat := 0x028000

/-- Revision ID (Table HIF-1). -/
def State.pcieRevision (s : State) : Nat := s.fg SEC_PART_ID SEC_PART_ID_STEP

/-- The MSI-X table takes its reset values. -/
def State.msixReset (s : State) : List Nat → State
  | [] => s.wg HIF_MSIX_PBA 0
  | v :: t =>
    State.msixReset (((s.wg HIF_MSIX_ADDR (HIF_MSIX_ADDR.resetOf [v]) [v]).wg HIF_MSIX_DATA
      (HIF_MSIX_DATA.resetOf [v]) [v]).wg HIF_MSIX_CTRL (HIF_MSIX_CTRL.resetOf [v]) [v]) t

/-- Every ACTIVE queue of a list is SUSPENDED. -/
def State.suspend (s : State) : List Nat → State
  | [] => s
  | n :: t => State.suspend (if s.qState n = 1 then s.setQState n 2 else s) t

/-- The configuration space as set. -/
def State.setPcie (s : State) (p : Pcie) : State := { s with hif := { s.hif with pcie := p } }

/-- A host write of the configuration space (R78): field 3 the power state (0 D0, 3 D3hot, others not supported), 4 the
command register (bit 2 Bus Master Enable), 6 MSI-X message control (bit 15 Enable, bit 14 Function Mask), 7 the payload
bound as 128·2^v. -/
def Pcie.write (p : Pcie) (field v : Nat) : Pcie :=
  if field = 3 then if v = 0 ∨ v = 3 then { p with power := v } else p
  else if field = 4 then { p with busMaster := bitN v 2 }
  else if field = 6 then { p with msixEn := bitN v 15, funcMask := bitN v 14 }
  else if v ≤ 2 then { p with maxPayload := 128 * 2 ^ v } else p

/-- A configuration write takes effect: ACTIVE queues are SUSPENDED when it leaves D0 or clears Bus Master Enable (R95), and
messages it lets through leave (R94). -/
def State.pcieWrite (s : State) (field v : Nat) : State :=
  let s1 := s.setPcie (s.hif.pcie.write field v)
  if (field = 3 ∧ v = 3) ∨ (field = 4 ∧ !bitN v 2) then s1.suspend (List.range 64) else s1.msixFlush (List.range 64)

/-- HOST_LOSS (R95, R402): the cause is 0 link loss, 1 hot reset, 2 function-level reset, 5 a low pulse of `v` ns on PERST_N,
which is ignored when shorter than 500 ns (R437); these four suspend every ACTIVE queue and reset the configuration space and
the MSI-X table. The causes 3, 4, 6 and 7 are the host's write `v` of the configuration space, among them the change to D3hot and the clearing of Bus Master Enable (log 148). -/
def execHostLoss (cause v : Nat) (s : State) : Host.Outcome State Fault Refusal :=
  .next (if cause = 0 ∨ cause = 1 ∨ cause = 2 ∨ (cause = 5 ∧ 500 ≤ v) then
      ((s.suspend (List.range 64)).setPcie {}).msixReset (List.range 64)
    else if cause = 5 then s
    else s.pcieWrite cause v)

end Sys2Proof.Machine
end

