-- ==== Sys2Proof/Machine/KickSet.lean ====
section
/-! DEFINITION. A staging set's states and how a submission ends (R345, R348, R352). -/

namespace Sys2Proof.Machine

/-- Result codes (Table KCK-2). -/
def kcEmpty : Nat := 1
def kcBusy : Nat := 2
def kcFull : Nat := 3
def kcItem : Nat := 4
def kcRange : Nat := 5
def kcDomain : Nat := 6
def kcStation : Nat := 7
def kcKey : Nat := 8
def kcEpoch : Nat := 9
def kcGate : Nat := 0xA
def kcOverlap : Nat := 0xB
def kcFabric : Nat := 0xC
def kcSoon : Nat := 0xD
def kcFar : Nat := 0xE
def kcPartial : Nat := 0xF

/-- Set a staging set. -/
def State.setKset (s : State) (k : Nat) (x : KckSet) : State :=
  { s with kck := { s.kck with sets := SMap.set s.kck.sets k x {} } }

/-- KCK_SETs.STATE: 0 EMPTY, 1 OPEN, 2 PENDING. -/
def State.kState (s : State) (k : Nat) : Nat :=
  if s.kck.order.contains k then 2 else if (s.kset k).items.isEmpty && (s.kset k).images.isEmpty then 0 else 1

/-- A set is no longer PENDING: its submission's records go. -/
def State.kUnpend (s : State) (k : Nat) : State :=
  let x := s.kset k
  let q := s.kck
  ({ s with kck := { q with
      order := q.order.filter fun j => j ≠ k, passed := SMap.del q.passed k, ready := SMap.del q.ready k,
      confirmed := SMap.del q.confirmed k } }).setKset k { items := x.items, images := x.images }

/-- RESULT of a refusal: the code, the device that refused and the item, 0xFFFF for none. -/
def kResult (code dev item : Nat) : Nat := code + dev % 16 * 2 ^ 8 + min item 0xFFFF * 2 ^ 16

/-- A KICKOFF is refused: its command completes, and the set is OPEN again with its items kept. -/
def State.kRefuse (s : State) (k code dev item : Nat) : State :=
  let x := s.kset k
  (s.kUnpend k).hifDone x.queue x.cseq { status := stRefused, result := kResult code dev item }

/-- A set has been applied: its command completes, and the set is EMPTY. -/
def State.kApplied (s : State) (k : Nat) : State :=
  let x := s.kset k
  ((s.kUnpend k).setKset k {}).hifDone x.queue x.cseq { status := stOk, result := 0 }

/-- Add a device to a set's list. -/
def addDev (m : SMap (List Nat)) (k d : Nat) : SMap (List Nat) := SMap.ins m k (sortIns d ((SMap.get m k []).filter fun e => e ≠ d))

/-! ## Which device an item is for -/

/-- A station item, STA_ADD to STA_REMOVE. -/
def itSta (b : Bytes) : Bool := decide (3 ≤ itType b) && decide (itType b ≤ 7)

/-- The devices an item is for: the staging device for register, memory and gate items; the device named for station items;
for a migration also the present home and the links of a context held here. -/
def State.itDevs (s : State) (coord : Nat) (b : Bytes) : List Nat :=
  if itType b = 6 then
    let n := itHandle b % 1024
    itDev b :: bits (itHandle b) 13 10 :: (if s.ctxFor (itHandle b) then s.linkDevs n else [])
  else if itSta b then [itDev b]
  else [coord]

/-- Indices of the items that pass a test. -/
def idxOf (p : Bytes → Bool) : List Bytes → Nat → List Nat
  | [], _ => []
  | b :: t, i => if p b then i :: idxOf p t (i + 1) else idxOf p t (i + 1)

/-- A device's reply to the items of a fabric-wide set (R352): the first refusal refuses the whole set. `data` is the
reply's RESULT. -/
def State.kickReply (s : State) (k dev st : Nat) (data : Bytes) : State :=
  if s.kState k ≠ 2 then s
  else if st = esOk then { s with kck := { s.kck with passed := addDev s.kck.passed k dev } }
  else if st = esRefused then
    let idx := idxOf (fun b => (s.itDevs s.self b).contains dev) (s.kset k).items 0
    s.kRefuse k (leAt data 0 1) dev (getAt idx (leAt data 2 2) 0xFFFF)
  else s.kRefuse k kcFabric dev 0xFFFF

/-- A device's confirmation of the commit. -/
def State.kickConfirm (s : State) (k dev st : Nat) : State :=
  if s.kState k = 2 ∧ st = esOk then { s with kck := { s.kck with confirmed := addDev s.kck.confirmed k dev } } else s

end Sys2Proof.Machine
end

