-- ==== Sys2Proof/Machine/FabNet.lean ====
section
/-! DEFINITION. The fabric's links, its huddle, routing and time alignment (R354-R361, R368, R369), and how an issued
operation ends at its source (R364, R365). -/

namespace Sys2Proof.Machine

/-! ## How an operation ends -/

/-- A posted engine operation that waited for a remote one is answered: on OK the frame handed over has been copied, and
its pails return (R148). -/
def State.remoteAnswer (s : State) (id st : Nat) : State :=
  match s.openOp id with
  | some o =>
    let s1 := match o.frame with | some f => if st = esOk then s.freeFrame f else s | none => s
    s1.answerOp id o st 0 (st != esOk)
  | none => s

/-- An attestation request ends: CODE and LEN, and the report at the request's address + 64 (R367). `data` is the peer's
status byte and the report. -/
def State.attEnd (s : State) (st : Nat) (data : Bytes) : State :=
  match s.fab.att with
  | some (_, a) =>
    let s1 := { s with fab := { s.fab with att := none } }
    let rep := data.drop 1
    if st = esUnreachable then s1.wg FAB_ATT_STATUS (BitVec.ofNat 64 32)
    else
      let code := leAt data 0 1 % 16
      let s2 := if code = 0 then (s1.write (a + 64) rep).1 else s1
      s2.wg FAB_ATT_STATUS (BitVec.ofNat 64 (code + (if code = 0 then rep.length else 0) * 65536))
  | none => s

/-- An operation to a device ends with a status, and with data that may have met an uncorrectable word. -/
def State.opDone (s : State) (o : FabOp) (st : Nat) (data : Bytes) (ue : Bool) : State :=
  let s1 :=
    match o.msg with
    | .store .. => if st ≠ esOk then s.bump FAB_STORE_FAIL else s
    | .mpdu .. => if st ≠ esOk then s.bump WMAC_RX_NO_STA else s
    | .leaseReq handle tid =>
      if st ≠ esOk then { s with wmac := { s.wmac with asked := SMap.del s.wmac.asked (handle % 1024 * 8 + tid) } } else s
    | _ => s
  match o.tok with
  | .none_ => s1
  | .op id => s1.remoteAnswer id st
  | .ctx c => s1.loadBack c st (leNat data) ue
  | .store c _ => s1.storeDone c
  | .att => s1.attEnd st data
  | .kick k dev =>
    match o.msg with
    | .kickCommit _ => s1.kickConfirm k dev st
    | _ => s1.kickReply k dev st data

/-- Several operations end UNREACHABLE, each counted (R364). -/
def State.opsLost (s : State) : List FabOp → State
  | [] => s
  | o :: t => State.opsLost ((s.bump FAB_UNREACH).opDone o esUnreachable [] false) t

/-- A device has left the huddle: its operations end, sent or waiting; its counters start anew at the next joining. -/
def State.deviceLeft (s : State) (d : Nat) : State :=
  let waiting := s.fab.wait.filter fun x => x.1 == d
  let l := s.opsTo d ++ waiting.map fun x => { seq := 0, msg := x.2.1, tok := x.2.2, at_ := 0, sent := 0 }
  let s1 := { s with fab := { s.fab with wait := s.fab.wait.filter fun x => x.1 ≠ d, drain := SMap.del s.fab.drain d } }
  (s1.setOps d []).opsLost l

/-- Several devices have left. -/
def State.devicesLeft (s : State) : List Nat → State
  | [] => s
  | d :: t => State.devicesLeft (s.deviceLeft d) t

/-- A device becomes a member together with this one: both OP_SEQ counters start at 0 (R363). -/
def State.deviceJoined (s : State) (d : Nat) : State :=
  let given := SMap.keep s.fab.given fun k => k / 2 ^ 32 != d
  { s with fab := { s.fab with opSeq := SMap.del s.fab.opSeq d, expect := SMap.del s.fab.expect d, given } }

/-- Several devices join. -/
def State.devicesJoined (s : State) : List Nat → State
  | [] => s
  | d :: t => State.devicesJoined (s.deviceJoined d) t

/-! ## Links -/

/-- A link: 0-5 Falpo, 6 the bond port. -/
def State.flink (s : State) (l : Nat) : FabLink := if l = 6 then s.bnd.port else SMap.get s.fab.links l {}

/-- Set a link; FAB_LINKl_STATUS and BND_STATUS.LINK show its STATE, and DOWN_SEEN that STATE has left up. -/
def State.setFlink (s : State) (l : Nat) (x : FabLink) : State :=
  if l = 6 then ({ s with bnd := { s.bnd with port := x } }).fs BND_STATUS BND_STATUS_LINK (b2n (x.st == 2))
  else
    let was := (s.flink l).st
    let s1 := ({ s with fab := { s.fab with links := SMap.set s.fab.links l x {} } }).fs FAB_LINK_STATUS FAB_LINK_STATUS_STATE x.st [l]
    if was = 2 ∧ x.st ≠ 2 then s1.fs FAB_LINK_STATUS FAB_LINK_STATUS_DOWN_SEEN 1 [l] else s1

/-- PEER_ID of a link. -/
def State.peerOf (s : State) (l : Nat) : Nat := s.fg FAB_LINK_STATUS FAB_LINK_STATUS_PEER_ID [l]

/-- This device is excluded from the huddle (R358). -/
def State.clashes (s : State) : Bool := (List.range 6).any fun l => (s.flink l).clash && (s.flink l).st != 0

/-- This device's up links that are not held, with their peers. -/
def State.ownLinks (s : State) : List (Nat × Nat) :=
  if s.clashes then []
  else ((List.range 6).filter fun l => (s.flink l).st == 2 && (s.flink l).hello).map fun l => (l, s.peerOf l)

/-! ## The huddle (R359) -/

/-- A member's link-state record. -/
def State.linkRec (s : State) (d : Nat) : LinkRec := SMap.get s.fab.recs d {}

/-- The links that a device reports. -/
def State.linksOf (s : State) (d : Nat) : List (Nat × Nat) := if d = s.self then s.ownLinks else (s.linkRec d).links

/-- The devices reachable from a set in `n` steps. -/
def State.reach (s : State) : Nat → List Nat → List Nat
  | 0, l => l
  | n + 1, l => State.reach s n ((List.range 16).filter fun d => l.contains d || l.any fun u => (s.linksOf u).any fun e => e.2 == d)

/-- The members of the huddle. -/
def State.memberList (s : State) : List Nat := if s.clashes then [] else s.reach 16 [s.self]

/-- The levels of the members: each step of the list holds the devices at that distance from the leader. -/
def State.levelSets (s : State) (ms : List Nat) : Nat → List Nat → List Nat → List (List Nat)
  | 0, _, _ => []
  | n + 1, seen, cur =>
    let nxt := ms.filter fun d => !seen.contains d && cur.any fun u => (s.linksOf u).any fun e => e.2 == d
    if nxt.isEmpty then [] else nxt :: State.levelSets s ms n (seen ++ nxt) nxt

/-- The level of a device in a list of level sets. -/
def levelIn (d : Nat) : List (List Nat) → Nat → Nat
  | [], n => n
  | l :: t, n => if l.contains d then n else levelIn d t (n + 1)

/-- A link from `u` to `v` points up (R360). -/
def pointsUp (lv : Nat → Nat) (u v : Nat) : Bool := decide (lv v < lv u) || (lv v == lv u && decide (v < u))

/-- The devices from which a destination is reached by k down moves, and by k moves of a legal route; a device that is
avoided passes nothing on. The pair is the list for k moves. -/
def State.routeStep (s : State) (lv : Nat → Nat) (ms avoid : List Nat) (p : List Nat × List Nat) : List Nat × List Nat :=
  let ok := ms.filter fun u => u = s.self ∨ !avoid.contains u
  let dn := ok.filter fun u => (s.linksOf u).any fun e => !pointsUp lv u e.2 && p.1.contains e.2
  let go := ok.filter fun u => dn.contains u || (s.linksOf u).any fun e => pointsUp lv u e.2 && p.2.contains e.2
  (dn, go)

/-- The lowest first link of a legal route whose rest takes the moves of a pair of lists. -/
def State.firstLink (s : State) (lv : Nat → Nat) (p : List Nat × List Nat) : Option Nat :=
  (s.ownLinks.find? fun e =>
    if pointsUp lv s.self e.2 then p.2.contains e.2 else p.1.contains e.2).map Prod.fst

/-- The shortest legal route: its first link and its hops. -/
def State.findRoute (s : State) (lv : Nat → Nat) (ms avoid : List Nat) : Nat → Nat → List Nat × List Nat → Option (Nat × Nat)
  | 0, _, _ => none
  | n + 1, k, p =>
    match s.firstLink lv p with
    | some l => some (l, k)
    | none => State.findRoute s lv ms avoid n (k + 1) (s.routeStep lv ms avoid p)

/-- The members marked slow. -/
def State.slowList (s : State) : List Nat := (List.range 16).filter fun d => bitN (s.fg FAB_SLOW FAB_SLOW_SLOW) d

/-- The route to a member: first link, hops, and whether it avoids a slow device (R360, R369). -/
def State.chooseRoute (s : State) (lv : Nat → Nat) (ms : List Nat) (d : Nat) : Option (Nat × Nat × Bool) :=
  let plain := s.findRoute lv ms [] 16 1 ([d], [d])
  let slow := s.slowList.filter fun u => u ≠ d ∧ u ≠ s.self
  let free := !s.flag FAB_CTL FAB_CTL_AVOID_EN || slow.isEmpty || s.slowList.contains d || s.slowList.contains s.self
  match plain, (if free then none else s.findRoute lv ms slow 16 1 ([d], [d])) with
  | some (l, h), some (l', h') => if h' ≤ 3 then some (l', h', l' != l || h' != h) else some (l, h, false)
  | some (l, h), none => some (l, h, false)
  | none, _ => none

/-- The links of a route in use are still up: its first one, and enough of the others to reach the destination in its hops. -/
def State.routeStands (s : State) (d : Nat) : Bool :=
  s.ownLinks.any fun e => e.1 == s.route d && (s.reach (s.fg FAB_ROUTE FAB_ROUTE_HOPS [d] - 1) [e.2]).contains d

/-- Set one destination's route. Routes follow from the converged link set; until it has converged, a route that uses no link
that went down stays in use (R359). A route that changes is counted and drained (R363). -/
def State.setRoute (s : State) (lv : Nat → Nat) (ms : List Nat) (conv : Bool) (d : Nat) : State :=
  let old := s.route d
  let (l, h, av) :=
    if !ms.contains d then (7, 0, false)
    else if d = s.self then (6, 0, false)
    else if conv then match s.chooseRoute lv ms d with | some r => r | none => (7, 0, false)
    else if s.routeStands d then (old, s.fg FAB_ROUTE FAB_ROUTE_HOPS [d], s.flag FAB_ROUTE FAB_ROUTE_AVOIDED [d])
    else (7, 0, false)
  let s1 := ((s.fs FAB_ROUTE FAB_ROUTE_LINK l [d]).fs FAB_ROUTE FAB_ROUTE_HOPS h [d]).fs FAB_ROUTE FAB_ROUTE_AVOIDED (b2n av) [d]
  if old = l ∨ 6 ≤ l ∧ !ms.contains d then s1
  else
    let s2 := if l < 6 then { s1 with fab := { s1.fab with drain := SMap.ins s1.fab.drain d s1.now } } else s1
    if old < 6 then s2.bump FAB_ROUTE_CHANGE else s2

/-- Set the routes of a list of destinations. -/
def State.setRoutes (s : State) (lv : Nat → Nat) (ms : List Nat) (conv : Bool) : List Nat → State
  | [] => s
  | d :: t => State.setRoutes (s.setRoute lv ms conv d) lv ms conv t

/-- Show which links point up. -/
def State.setDirs (s : State) (lv : Nat → Nat) : List Nat → State
  | [] => s
  | l :: t =>
    let up := s.ownLinks.any fun e => e.1 == l && pointsUp lv s.self e.2
    State.setDirs (s.fs FAB_LINK_STATUS FAB_LINK_STATUS_UP_DIR (b2n up) [l]) lv t

/-- FAB_LOCK is lost, and alignment starts anew. -/
def State.unlock (s : State) : State :=
  ({ s with fab := { s.fab with lockRun := 0 } }).fs TMB_STATUS TMB_STATUS_FAB_LOCK 0

/-- The number whose bits name the devices of a list. -/
def devMask (l : List Nat) : Nat := (l.map fun d => 2 ^ d).sum

/-- Every member reports this GEN, and both ends of every link report it. -/
def State.convergedNow (s : State) (ms : List Nat) : Bool :=
  let gen := s.fg FAB_HUDDLE FAB_HUDDLE_GEN
  ms.all fun d =>
    (d == s.self || (SMap.find s.fab.recs d).any fun r => r.gen == gen) &&
      (s.linksOf d).all fun e =>
        decide (((s.linksOf d).filter fun f => f.2 == e.2).length = ((s.linksOf e.2).filter fun f => f.2 == d).length)

/-- The huddle is computed anew from the links and records. `changed` says that an up link has changed. FAB_LOCK is lost when
the parent or the leader changes, and a step is allowed anew when this device has joined another leader's huddle (R55, R368). -/
def State.huddle (s : State) (changed : Bool) : State :=
  let ms := s.memberList
  let old := s.fg FAB_HUDDLE FAB_HUDDLE_MEMBERS
  let leader := ms.headD 0
  let lv := fun d => levelIn d ([leader] :: s.levelSets ms 16 [leader] [leader]) 0
  let bumpGen := changed || old != devMask ms
  let g := (s.fg FAB_HUDDLE FAB_HUDDLE_GEN + b2n bumpGen) % 2 ^ 32
  let s1 := (((s.fs FAB_HUDDLE FAB_HUDDLE_MEMBERS (devMask ms)).fs FAB_HUDDLE FAB_HUDDLE_LEADER leader).fs FAB_HUDDLE
    FAB_HUDDLE_GEN g).fs FAB_HUDDLE FAB_HUDDLE_CLASH (b2n s.clashes)
  let s2 := s1.devicesJoined (ms.filter fun d => d ≠ s.self ∧ !bitN old d)
  let conv := s2.convergedNow ms
  let s3 := (s2.setRoutes lv ms conv (List.range 16)).setDirs lv (List.range 6)
  let long := (List.range 16).any fun d => decide (3 < s3.fg FAB_ROUTE FAB_ROUTE_HOPS [d])
  let s4 := ((s3.fs FAB_HUDDLE FAB_HUDDLE_LONG (b2n long)).fs FAB_HUDDLE FAB_HUDDLE_LEVEL (lv s.self)).fs FAB_HUDDLE
    FAB_HUDDLE_CONVERGED (b2n conv)
  let parent := (s4.ownLinks.find? fun e => pointsUp lv s.self e.2).map Prod.snd
  let newLeader := leader != s.fg FAB_HUDDLE FAB_HUDDLE_LEADER
  let s5 := if parent = s.fab.parent ∧ !newLeader then s4
    else ({ s4 with fab := { s4.fab with parent, stepped := s4.fab.stepped && !newLeader } }).unlock
  let s6 := { s5 with bnd := { s5.bnd with third := s5.bnd.third || ms.any fun d => d != s.self && d != s.twin } }
  s6.devicesLeft ((List.range 16).filter fun d => d ≠ s.self ∧ bitN old d ∧ !ms.contains d)

/-! ## Training and HELLO (R354, R358, R372) -/

/-- A link is enabled: a Falpo link by LINK_EN, the bond port by BND_CTL.EN. -/
def State.linkEnabled (s : State) (l : Nat) : Bool :=
  s.domOn .fabric && if l = 6 then s.flag BND_CTL BND_CTL_EN else bitN (s.fg FAB_CTL FAB_CTL_LINK_EN) l

/-- A link goes down and, while it is enabled, trains. -/
def State.linkDown (s : State) (l : Nat) : State :=
  let was := (s.flink l).st
  let s1 := s.setFlink l { st := b2n (s.linkEnabled l) }
  if l < 6 ∧ was = 2 then s1.huddle true else s1

/-- The links whose enable has changed start to train or go down. -/
def State.linkEnables (s : State) : List Nat → State
  | [] => s
  | l :: t =>
    let st := (s.flink l).st
    State.linkEnables
      (if s.linkEnabled l then (if st = 0 then s.setFlink l { st := 1 } else s) else if st = 0 then s else s.linkDown l) t

/-- A write of FAB_CTL: a field out of range discards it whole. -/
def State.fabCtlWrite (s : State) (v : Word) : State :=
  let rs := FAB_CTL_RESEND.of v
  if rs = 0 ∨ FAB_CTL_LOST_TMO.of v < rs then s.logDiscard (FAB_CTL.addr [])
  else
    let s1 := (s.plain FAB_CTL [] v).linkEnables (List.range 6)
    if FAB_CTL_AVOID_EN.of v = s.fg FAB_CTL FAB_CTL_AVOID_EN then s1 else s1.huddle false

/-- FAB_CTL_WRITE (R354). -/
def execFabCtlWrite (who : Init) (v : Word) (s : State) : Host.Outcome State Fault Refusal :=
  .next (s.csrWrite FAB_CTL [] who v fun t => t.fabCtlWrite v)

/-- FAB_LINK_UP (R354): an enabled link finishes training and sends its HELLO. -/
def execFabLinkUp (l : Nat) (s : State) : Host.Outcome State Fault Refusal :=
  .next (if l ≤ 6 ∧ s.linkEnabled l ∧ (s.flink l).st = 1 then
    ((s.cross 37 l).setFlink l { st := 2, ackAt := s.now }).fabWire (flitHdr 0x0A s.self 0 0 0 0)
      (l :: s.fg PWR_PACE_STATUS PWR_PACE_STATUS_FLOOR :: s.sec.fuses.deviceId.map BitVec.toNat)
    else s)

/-- This device's DEVICE_ID as a number. -/
def State.deviceNum (s : State) : Nat := beNat s.sec.fuses.deviceId

/-- A HELLO on a Falpo link: a link to this device itself or to its FABID is held. -/
def State.hello (s : State) (l fabid plink : Nat) (id : Bytes) : State :=
  let x := s.flink l
  let s1 := (s.fs FAB_LINK_STATUS FAB_LINK_STATUS_PEER_ID fabid [l]).fs FAB_LINK_STATUS FAB_LINK_STATUS_PEER_LINK plink [l]
  if id = s.sec.fuses.deviceId then ((s1.setFlink l { x with st := 3, peer := id, hello := true }).logEv 0x30 0x04 0 l)
  else if fabid = s.self then
    let lose := decide (beNat id < s.deviceNum)
    let s2 := (s1.setFlink l { x with st := 3, peer := id, hello := true, clash := lose }).logEv 0x30 0x04 0 l
    if lose then (s2.logEv 0x30 0x04 0 fabid).huddle true else s2
  else (s1.setFlink l { x with peer := id, hello := true }).huddle true

/-- HELLO_RECEIVE (R354, R358, R372): the peer's FABID, link index and DEVICE_ID arrive on a link that is up. On the bond
port a peer that is not the twin holds the port. -/
def execHelloReceive (l fabid plink : Nat) (id : Bytes) (s : State) : Host.Outcome State Fault Refusal :=
  if 6 < l ∨ (s.flink l).st ≠ 2 ∨ !s.domOn .fabric then .next s
  else
    let s0 := s.cross 37 l
    if l = 6 then
      if fabid = s.twin then .next (s0.setFlink 6 { s0.bnd.port with peer := id, hello := true })
      else .next ((s0.setFlink 6 { s0.bnd.port with st := 3, peer := id, hello := true }).logEv 0x31 0x04 0 fabid)
    else .next (s0.hello l (fabid % 16) (plink % 8) (slice id 0 16))

/-! ## Flits and retries (R355-R357) -/

/-- What a receiver's link counts for the correctable flits of a block. -/
def State.linkCount (s : State) (r : Reg) (l n : Nat) : State := if l = 6 ∨ n = 0 then s else s.bump r [l] n

/-- The slots after ACK are sent again; a slot sent again 8 times without acknowledgement takes the link down, and it trains
again (R356). -/
def State.linkResend (s : State) (l : Nat) : State :=
  let x := s.flink l
  if x.resends < 8 then (s.setFlink l { x with resends := x.resends + 1, ackAt := s.now }).linkCount FAB_RETRY l 1
  else ((s.linkCount FAB_LINK_FAIL l 1).logEv (if l = 6 then 0x31 else 0x30) 0x04 0 l).linkDown l

/-- FLIT_BLOCK_RECEIVE (R356): a block of 21 checked words arrives on an up link. `seq` is the number of its slot 0, `ack`
and `nak` the sender's acknowledgement, `c0` and `c1` the credits it returns, `ce` its correctable flits, and `bad` its
first uncorrectable slot (`head` says that the control word itself is uncorrectable, and the block is discarded whole);
`hops` of its flits would start an eighth hop and are discarded (R360). A bad flit makes the next control word a NAK; a NAK
received has the slots after its ACK sent again, and takes the link down when one has been sent 8 times. -/
def execFlitBlockReceive (l seq ack : Nat) (nak : Bool) (c0 c1 ce : Nat) (bad : Option Nat) (head : Bool) (hops : Nat) (s : State) :
    Host.Outcome State Fault Refusal :=
  let x := s.flink l
  if 6 < l ∨ x.st ≠ 2 ∨ !s.domOn .fabric then .next s
  else
    let s0 := s.cross 37 l
    if head then .next ((s0.linkCount FAB_FLIT_UE l 1).logLim (0x3000 + l) 0x30 0x06 0 l)
    else
      let good := match bad with | some i => min i 20 | none => 20
      let moved := decide (ack ≠ x.ack)
      let y := { x with
        expect := if seq = x.expect then (seq + good) % 65536 else x.expect, ack := ack % 65536,
        ackAt := if moved then s.now else x.ackAt, resends := if moved then 0 else x.resends,
        cred0 := min 128 (x.cred0 + c0), cred1 := min 128 (x.cred1 + c1),
        nak := bad.isSome || (x.nak && decide (seq ≠ x.expect)) }
      let s0' := if hops = 0 ∨ l = 6 then s0 else s0.bump FAB_HOP_LIMIT [] hops
      let s1 := (s0'.setFlink l y).linkCount FAB_FLIT_CE l ce
      let s2 := if bad.isSome then (s1.linkCount FAB_FLIT_UE l 1).logLim (0x3000 + l) 0x30 0x06 0 l else s1
      .next (if nak then s2.linkResend l else s2)

/-- LINK_RESEND_TIMEOUT (R356): ACK has not advanced for 2 µs: the slots after it are sent again, and after 8 resends
the link fails and trains again. -/
def execLinkResendTimeout (l : Nat) (s : State) : Host.Outcome State Fault Refusal :=
  let x := s.flink l
  if 6 < l ∨ x.st ≠ 2 ∨ !s.domOn .fabric ∨ s.now < x.ackAt + 2000 then .next s
  else .next (s.linkResend l)

/-! ## Link-state records and slow members (R359, R369) -/

/-- The median of a list of numbers, the mean of the two middle ones for an even count. -/
def medianNat (l : List Nat) : Nat :=
  let m := sortNat l
  let n := m.length
  if n = 0 then 0
  else if n % 2 = 1 then getAt m (n / 2) 0 else (getAt m (n / 2 - 1) 0 + getAt m (n / 2) 0) / 2

/-- This device's floor pace. -/
def State.floorPace (s : State) : Nat := s.fg PWR_PACE_STATUS PWR_PACE_STATUS_FLOOR

/-- Set or clear a member's slow mark; the change advances GEN (Table FAB-6). -/
def State.markSlow (s : State) (d : Nat) (v : Bool) : State :=
  let old := s.fg FAB_SLOW FAB_SLOW_SLOW
  let s1 := s.fs FAB_SLOW FAB_SLOW_SLOW (old - b2n (bitN old d) * 2 ^ d + b2n v * 2 ^ d)
  ((s1.paceOutcome d (if v then 4 else 5)).logEv 0x30 0x07 0 d).huddle true

/-- The floor pace that a member reports. -/
def State.floorOf (s : State) (d : Nat) : Nat := if d = s.self then s.floorPace else (s.linkRec d).floor

/-- One report of a floor pace, a peer's or this device's own, against 60 % of the median over all members (R369); a replay takes the slow
marks from its stream (R416). -/
def State.slowReport (s : State) (d : Nat) : State :=
  let r := s.linkRec d
  let med := medianNat (s.memberList.map s.floorOf)
  let low := decide (10 * s.floorOf d < 6 * med)
  let marked := s.slowList.contains d
  let r1 := if low then { r with lowSince := some (r.lowSince.getD s.now), highSince := none }
            else { r with highSince := some (r.highSince.getD s.now), lowSince := none }
  let s1 := { s with fab := { s.fab with recs := SMap.ins s.fab.recs d r1 } }
  if s.replaying then s1
  else if !marked && r1.lowSince.any (fun t => decide (t + 1000000 ≤ s.now)) then s1.markSlow d true
  else if marked && r1.highSince.any (fun t => decide (t + 10000000 ≤ s.now)) then s1.markSlow d false
  else s1

/-- The alias in this device's record (R380): 1 + the twin's FABID while it answers for the twin's handles, or 0. -/
def State.ownAlias (s : State) : Nat :=
  if s.flag BND_STATUS BND_STATUS_TAKEN then 1 + s.fg BND_STATUS BND_STATUS_TWIN else 0

/-- LINK_STATE_FLOOD (R359): every 64 µs, and at once on a change, the device floods its record, which is its own report too. -/
def execLinkStateFlood (s : State) : Host.Outcome State Fault Refusal :=
  .next (if s.domOn .fabric ∧ !s.clashes ∧ !s.ownLinks.isEmpty then
    ({ s with fab := { s.fab with floodAt := s.now } }.fabWire (flitHdr 0x0A s.self 0 0 0 0)
      [s.floorPace, s.fg FAB_HUDDLE FAB_HUDDLE_GEN, devMask (s.ownLinks.map Prod.snd), s.ownAlias,
        s.fg TMB_STATUS TMB_STATUS_FAB_LOCK]).slowReport s.self
    else s)

/-- The leases that this device holds of stations whose home field names a device. -/
def State.heldFrom (s : State) (d : Nat) : List (Nat × Nat × Nat × Nat) :=
  (s.wmac.leases.filter fun e => bits e.2.handle 13 10 == d).map fun e => (e.2.handle, e.2.tid, e.2.sn, e.2.len)

/-- A holder reports its unclosed leases of an aliased device to the member whose record newly carries the alias (R380). -/
def State.aliasReport (s : State) (src : Nat) (old new : Option Nat) : State :=
  match new with
  | some d => if old = new then s else s.fabTell src (.leaseReport (s.heldFrom d))
  | none => s

/-- LINK_STATE_RECORD_RECEIVE (R359): a record of another device arrives: its up links with their peers, its floor pace,
its GEN, the alias it carries (R380), and whether its FAB_LOCK is set (R368). -/
def execLinkStateRecordReceive (src : Nat) (links : List (Nat × Nat)) (floor gen : Nat) (alias_ : Option Nat) (locked : Bool)
    (s : State) : Host.Outcome State Fault Refusal :=
  if 16 ≤ src ∨ src = s.self ∨ !s.domOn .fabric ∨ s.clashes then .next s
  else
    let old := s.linkRec src
    let r : LinkRec := { links, floor, gen, alias_, at_ := s.now, lowSince := old.lowSince, highSince := old.highSince, locked }
    let s1 := { s with fab := { s.fab with recs := SMap.ins s.fab.recs src r } }
    let newer := decide (s1.fg FAB_HUDDLE FAB_HUDDLE_GEN < gen)
    let s2 := if newer then s1.fs FAB_HUDDLE FAB_HUDDLE_GEN gen else s1
    let s3 := s2.huddle (old.links != links && !newer)
    let s4 := if s3.fab.parent = some src ∧ !locked ∧ src ≠ s3.fg FAB_HUDDLE FAB_HUDDLE_LEADER then s3.unlock else s3
    let s5 := s4.aliasReport src old.alias_ alias_
    .next (if s5.member src then s5.slowReport src else s5)

/-! ## Resending and losing operations (R363, R364) -/

/-- E2E_RESEND (R363): the operations to a device not completed within RESEND µs are sent again in OP_SEQ order. -/
def execE2eResend (d : Nat) (s : State) : Host.Outcome State Fault Refusal :=
  let due (o : FabOp) : Bool := decide (o.sent + s.resendNs ≤ s.now)
  let l := s.opsTo d
  .next (if s.domOn .fabric then
    ((l.filter due).foldl (fun (t : State) o => t.fabWire (s.opHdr d o.msg o.seq) [])
      (s.setOps d (l.map fun o => if due o then { o with sent := s.now } else o))).bump FAB_E2E_RESEND [] (l.filter due).length
    else s)

/-- LOST_TIMEOUT (R364): the operations to a device with no completion within LOST_TMO end UNREACHABLE. -/
def execLostTimeout (d : Nat) (s : State) : Host.Outcome State Fault Refusal :=
  let lost (o : FabOp) : Bool := decide (o.at_ + s.fg FAB_CTL FAB_CTL_LOST_TMO * 1000 ≤ s.now)
  let l := s.opsTo d
  .next (if s.domOn .fabric then
    ((s.setOps d (l.filter fun o => !lost o)).opsLost (l.filter lost)).fabPump d 1024 else s)

/-- REMOTE_COMPLETION_RECEIVE (R363, R364): a completion of an operation to a device arrives with its status and data;
`ue` says that the data met an uncorrectable word at the target. -/
def execRemoteCompletionReceive (d seq st : Nat) (data : Bytes) (ue : Bool) (s : State) : Host.Outcome State Fault Refusal :=
  if !s.domOn .fabric || !s.admits 5 (s.route d) then .next s
  else
    let s0 := s.input 5 (s.route d) (flitHdr 0x80 d s.self st seq data.length ++ data)
    match (s0.opsTo d).find? fun o => o.seq == seq with
    | some o => .next (((s0.setOps d ((s0.opsTo d).filter fun k => k.seq ≠ seq)).opDone o st data ue).fabPump d 1024)
    | none => .next s0

/-! ## Attestation of a peer (R367) -/

/-- A write of FAB_ATT: discarded while BUSY, from a device program, which cannot request a report (R75), or when its range
is not in memory. Reserved bits are ignored (R12). -/
def State.fabAttWrite (s : State) (who : Init) (v : Word) : State :=
  let a := FAB_ATT_ADDR.of v * 64
  if who.isCtx ∨ s.flag FAB_ATT_STATUS FAB_ATT_STATUS_BUSY ∨ !rangeInMem a 824 then
    s.logDiscard (FAB_ATT.addr [])
  else
    let d := FAB_ATT_DEV.of v
    let s1 := ({ s with fab := { s.fab with att := some (d, a) } }).wg FAB_ATT_STATUS 16
    let (s2, st) := s1.fabSend d (.attest (s1.bytes a 64)) .att
    if st = 0 then s2 else s2.attEnd esUnreachable []

/-- FAB_ATT_WRITE (R367). -/
def execFabAttWrite (who : Init) (v : Word) (s : State) : Host.Outcome State Fault Refusal :=
  .next (s.csrWrite FAB_ATT [] who v fun t => t.fabAttWrite who v)

/-! ## Time alignment (R368) -/

/-- TIME_EXCHANGE (R368): every 125 µs a member that is not the leader sends a TIME pair to its parent. -/
def execTimeExchange (s : State) : Host.Outcome State Fault Refusal :=
  match s.fab.parent with
  | some p =>
    .next (if s.domOn .fabric ∧ s.fabSteers then s.fabWire (flitHdr 8 s.self p 0 0 0) [s.now] else s)
  | none => .next s

/-- The servo at one offset θ of the parent's timebase from this one, with the gains of R54; a device steps once at its join
when |θ| exceeds 100 µs (R55), and a step that ALLOW_BACK forbids is replaced by slewing. -/
def State.fabServo (s : State) (th : Int) : State :=
  if !s.fab.stepped && (decide (100000 < th) || (decide (th < -100000) && s.flag TMB_CTRL TMB_CTRL_ALLOW_BACK)) then
    let s1 := s.stepTime th
    { s1 with tmb := { s1.tmb with integ := 0 }, fab := { s1.fab with stepped := true } }
  else
    let i := clampAdj (s.tmb.integ + th * 2 ^ 32 / 16000000000)
    { s.fs TMB_RATE TMB_RATE_ADJ (unsgn 32 (clampAdj (i + th * 2 ^ 32 / 2000000000))) with
      tmb := { s.tmb with integ := i }, fab := { s.fab with stepped := true } }

/-- TIME_PAIR_RECEIVE (R368): the exchange with the parent completes with its four stamps. -/
def execTimePairReceive (t1 t2 t3 t4 : Nat) (s : State) : Host.Outcome State Fault Refusal :=
  match s.fab.parent with
  | some p =>
    if !s.domOn .fabric ∨ !s.fabSteers then .next s
    else
      let th : Int := (((t2 : Int) - t1) - ((t4 : Int) - t3)) / 2
      let lim : Int := 8 / max 1 (s.fg FAB_HUDDLE FAB_HUDDLE_LEVEL)
      let good := decide (-lim ≤ th) && decide (th ≤ lim) &&
        (p == s.fg FAB_HUDDLE FAB_HUDDLE_LEADER || (s.linkRec p).locked)
      let s1 := s.fabServo th
      if good then
        let n := s.fab.lockRun + 1
        let s2 := { s1 with fab := { s1.fab with lockRun := min n 8 } }
        .next (if 8 ≤ n then s2.fs TMB_STATUS TMB_STATUS_FAB_LOCK 1 else s2)
      else .next s1.unlock
  | none => .next s

end Sys2Proof.Machine
end

