-- ==== Sys2Proof/Machine/Bnd.lean ====
section
/-! DEFINITION. The twin bond (chapter 18): heartbeats and loss, the mirror and its acknowledgements, takeover, catch-up,
orderly detach and give-back. -/

namespace Sys2Proof.Machine

/-- Replace the bond's own state. -/
def State.setBnd (s : State) (b : Bnd) : State := { s with bnd := b }

/-! ## The mirror bank -/

/-- A word of a mirror context. -/
def State.mw (s : State) (n m : Nat) : Nat := (s.rg BND_MCTX [n, m]).toNat

/-- The mirror contexts in use. -/
def State.mirrorList (s : State) : List Nat :=
  s.csr.filterMap fun e =>
    if 0x3180000 ≤ e.1 ∧ e.1 < 0x31C0000 ∧ e.1 % 0x100 = 0 then some ((e.1 - 0x3180000) / 0x100) else none

/-- Clear the words of a mirror context. -/
def State.clearMirror (s : State) (n : Nat) : Nat → State
  | 0 => s
  | m + 1 => State.clearMirror (s.wg BND_MCTX 0 [n, m]) n m

/-- Clear several mirror contexts. -/
def State.clearMirrors (s : State) : List Nat → State
  | [] => s
  | n :: t => State.clearMirrors (s.clearMirror n 32) t

/-- The mirror is discarded, and with it what waits for the twin. -/
def State.discardMirror (s : State) : State :=
  let s1 := s.clearMirrors s.mirrorList
  s1.setBnd { s1.bnd with out := [], ackPn := [], ackSeq := [], mLeases := [], mSta := [], mQcfg := [], misses := 0 }

/-- Frames that wait for the twin proceed (R377). -/
def State.freeHeld (s : State) : List (Nat × Nat × Frame) → State
  | [] => s
  | (_, t, f) :: r =>
    State.freeHeld ((if t + 300 < s.now then s.bump BND_MIRROR_HOLD else s).skmEnter 3 f) r

/-- STATE changes: leaving ATTACHED frees the held frames and ends a request of BND_ATT; the gating of R376 is decided
anew. -/
def State.setBndState (s : State) (st : Nat) : State :=
  let s1 := s.fs BND_STATUS BND_STATUS_STATE st
  let s2 :=
    if s.bndState = bndAttached ∧ st ≠ bndAttached then
      let s2 := (s1.setBnd { s1.bnd with held := [] }).freeHeld s1.bnd.held
      if s2.bnd.att.isSome then (s2.setBnd { s2.bnd with att := none }).wg BND_ATT_STATUS 32 else s2
    else s1
  s2.leaseRetry

/-- STATE becomes DETACHED, and the mirror is discarded. -/
def State.bndDetach (s : State) : State :=
  let s1 := (s.discardMirror).setBndState bndDetached
  s1.setBnd { s1.bnd with detachAt := none, leaving := false, giveAt := none }

/-! ## Heartbeats and loss (R378) -/

/-- The valid keys of this device's half. -/
def State.ownKeys (s : State) : List Nat :=
  (s.csr.filterMap fun e =>
    if 0x2410020 ≤ e.1 ∧ e.1 < 0x2450020 ∧ e.1 % 0x40 = 0x20 then some ((e.1 - 0x2410020) / 0x40) else none).filter
    fun k => s.ownKey k && s.flag CPH_KEY_CTL CPH_KEY_CTL_VALID [k]

/-- Send the USED of keys (Table BND-2). -/
def State.mirrorUsed (s : State) : List Nat → State
  | [] => s
  | k :: t => State.mirrorUsed (s.mirror (.used k (s.fg CPH_KEY_USED CPH_KEY_USED_USED [k]))) t

/-- The bond port is up with the twin at its far end. -/
def State.bondUp (s : State) : Bool := s.domOn .fabric && s.bnd.port.st == 2 && s.bnd.port.hello

/-- BOND_HEARTBEAT (R378): every 50 µs a heartbeat is sent, and with it the USED of this device's keys. -/
def execBondHeartbeat (s : State) : Host.Outcome State Fault Refusal :=
  .next (if s.bondUp then (s.setBnd { s.bnd with hbSent := s.now }).mirrorUsed s.ownKeys else s)

/-- BOND_HEARTBEAT_RECEIVE (R378): a heartbeat of the twin ends the run of misses. -/
def execBondHeartbeatReceive (s : State) : Host.Outcome State Fault Refusal :=
  .next (if s.bondUp ∧ s.admits 6 0 then
    let s1 := (s.input 6 0 []).contest 20 0 513
    s1.setBnd { s1.bnd with hbSeen := s1.now, misses := 0 } else s)

/-- The twin is visible: a link-state record of it arrived within the last 200 µs. -/
def State.twinVisible (s : State) : Bool :=
  match SMap.find s.fab.recs s.twin with
  | some r => decide (s.now ≤ r.at_ + 200000)
  | none => false

/-- Quorum (R378). -/
def State.quorum (s : State) : Bool :=
  ((List.range 16).any fun d => d != s.self && d != s.twin && s.member d) || (!s.bnd.third && s.self % 2 == 0)

/-! ## Takeover (R380) -/

/-- G of a station's TID in the mirror: the BUFSZ of its downlink session, or 64. -/
def State.mirrorG (s : State) (n t : Nat) : Nat :=
  let w := bits (s.mw n (8 + t / 2)) (32 * (t % 2) + 31) (32 * (t % 2))
  if bitN w 22 then bits w 21 12 + 1 else 64

/-- SEQ words with each TID's value raised by its G. -/
def State.leapSeq (s : State) (n half : Nat) : Nat :=
  ((List.range 4).map fun i =>
    (bits (s.mw n (6 + half)) (16 * i + 11) (16 * i) + s.mirrorG n (4 * half + i)) % 4096 * 2 ^ (16 * i)).sum

/-- LINKS with VALID := 0 in each byte that names the twin. -/
def State.dropTwinLinks (s : State) (v : Nat) : Nat :=
  ((List.range 3).map fun x =>
    let b := bits v (8 * x + 7) (8 * x)
    (if b % 16 = s.twin then b - b / 16 % 2 * 16 else b) * 2 ^ (8 * x)).sum + bits v 63 24 * 2 ^ 24

/-- The word that a mirrored context has once it is a home context here; `leap` says that the acknowledged values are
raised by LEAP and G. -/
def State.takenWord (s : State) (n m : Nat) (leap : Bool) : Nat :=
  if !leap then s.mw n m
  else if m = 2 then s.dropTwinLinks (s.mw n 2)
  else if m = 4 then (s.mw n 4 + s.fg BND_CFG BND_CFG_LEAP) % 2 ^ 48
  else if m = 6 ∨ m = 7 then s.leapSeq n (m - 6)
  else s.mw n m

/-- Write the words of a taken context into this device's own bank. -/
def State.takeWords (s : State) (n : Nat) (leap : Bool) : List Nat → State
  | [] => s
  | m :: t => State.takeWords (s.setCw n m (s.takenWord n m leap)) n leap t

/-- A mirrored context may become this device's at its index: the index is free here or holds a link context of the same
station. -/
def State.takeable (s : State) (n : Nat) : Bool :=
  bits (s.mw n 0) 17 16 == 1 && (s.ctxRole n == 0 || s.ctxHandle n == bits (s.mw n 0) 15 0)

/-- The mirrored AIR_STA and AIR_QCFG of a station that this device held no context of. -/
def State.takeAir (s : State) (n : Nat) : State :=
  let s1 := match SMap.find s.bnd.mSta n with | some v => s.wg AIR_STA v [n] | none => s
  (s1.bnd.mQcfg.filter fun e => e.1 / 16 = n).foldl
    (fun (t : State) e => t.wg (if e.1 % 2 = 0 then AIR_QCFG0 else AIR_QCFG1) e.2 [e.1 / 2]) s1

/-- One mirrored context becomes a home context on this device. -/
def State.takeCtx (s : State) (n : Nat) (leap : Bool) : State :=
  if s.takeable n then
    let s1 := if s.ctxRole n = 0 then s.takeAir n else s
    let s2 := s1.takeWords n leap (List.range 32)
    s2.setBnd { s2.bnd with taken := sortIns n (s2.bnd.taken.filter fun k => k ≠ n) }
  else s

/-- Several mirrored contexts become home contexts. -/
def State.takeCtxs (s : State) (leap : Bool) : List Nat → State
  | [] => s
  | n :: t => State.takeCtxs (s.takeCtx n leap) leap t

/-- USED rises to a value: R319 and R320 apply to it. -/
def State.usedRises (s : State) (k u : Nat) : State :=
  let s1 := s.fs CPH_KEY_USED CPH_KEY_USED_USED u [k]
  let s2 := if s1.fg CPH_KEY_LIMIT CPH_KEY_LIMIT_LIMIT [k] ≤ u then s1.fs CPH_KEY_CTL CPH_KEY_CTL_SPENT 1 [k] else s1
  if s2.fg CPH_KEY_WARN CPH_KEY_WARN_WARN [k] ≤ u ∧ !s2.flag CPH_KEY_CTL CPH_KEY_CTL_REKEY_SEEN [k] then
    ((s2.fs CPH_KEY_CTL CPH_KEY_CTL_REKEY_SEEN 1 [k]).logEv 0x24 0x0C 0 (k + u * 65536)).bump CPH_REKEY
  else s2

/-- The valid keys of the twin's half. -/
def State.twinKeys (s : State) : List Nat :=
  (s.csr.filterMap fun e =>
    if 0x2410020 ≤ e.1 ∧ e.1 < 0x2450020 ∧ e.1 % 0x40 = 0x20 then some ((e.1 - 0x2410020) / 0x40) else none).filter
    fun k => !s.ownKey k && s.flag CPH_KEY_CTL CPH_KEY_CTL_VALID [k]

/-- The twin's keys leap at a takeover. -/
def State.leapKeys (s : State) : List Nat → State
  | [] => s
  | k :: t =>
    State.leapKeys (s.usedRises k (min (s.fg CPH_KEY_USED CPH_KEY_USED_USED [k] + 2097152)
      (s.fg CPH_KEY_LIMIT CPH_KEY_LIMIT_LIMIT [k]))) t

/-- A holder's unclosed leases of taken stations are known to this device. -/
def State.addReport (s : State) (dev : Nat) (l : List (Nat × Nat × Nat × Nat)) : State :=
  let new := (l.filter fun x => s.bnd.taken.contains (x.1 % 1024)).map fun x =>
    ({ n := x.1 % 1024, tid := x.2.1, dev, sn := x.2.2.1, len := x.2.2.2, at_ := s.now } : HomeLease)
  { s with wmac := { s.wmac with granted := new.foldl (fun g x =>
      g.filter (fun y => !(y.n == x.n && y.tid == x.tid && snBefore x.sn y.sn)) ++ x ::
        g.filter (fun y => y.n == x.n && y.tid == x.tid && snBefore x.sn y.sn)) s.wmac.granted } }

/-- The SNs that a taken station's sessions leap over are never assigned (R380, R195). -/
def State.leapHoles (s : State) (n : Nat) : State :=
  let new := ((List.range 8).filter fun t => bitN (s.mw n (8 + t / 2)) (32 * (t % 2) + 22)).map fun t =>
    (n * 8 + t, bits (s.mw n (6 + t / 4)) (16 * (t % 4) + 11) (16 * (t % 4)), s.mirrorG n t)
  { s with wmac := { s.wmac with holes := s.wmac.holes.filter (fun h => h.1 / 8 ≠ n) ++ new } }

/-- WS of a TID is told: the start of its lowest unclosed lease, or SEQ; the gap rule of R195 applies. -/
def State.wsSettle (s : State) (n t : Nat) : State := s.wsMoved n t 4096

/-- Every member has reported, or the time is over: WS of the taken stations follows from the reports, and their requests are
deferred no more (R380). -/
def State.grantsResume (s : State) : State :=
  let s1 := s.setBnd { s.bnd with resumeAt := none, owing := [] }
  (s1.bnd.taken.foldl (fun (t : State) n => (List.range 8).foldl (fun (u : State) k => u.wsSettle n k) t) s1).leaseRetry

/-- Takeover at the deciding miss. -/
def State.takeover (s : State) : State :=
  let s1 := ((s.fs BND_STATUS BND_STATUS_STATE bndDetached).fs BND_STATUS BND_STATUS_TAKEN 1).wg BND_TKO (BitVec.ofNat 64 s.now)
  let s2 := (s1.bump BND_TAKEOVERS).logEv 0x31 0x04 0 s.twin
  let s3 := ((s2.takeCtxs true s2.mirrorList).leapKeys s2.twinKeys)
  let s3 := (s2.mirrorList.filter s3.bnd.taken.contains).foldl (fun (t : State) n => t.leapHoles n) s3
  let s4 := s3.addReport s3.self (s3.heldFrom s3.twin)
  let owing := (List.range 16).filter fun d => d != s4.self && d != s4.twin && s4.member d
  let s5 := s4.setBnd { s4.bnd with owing, resumeAt := if owing.isEmpty then none else some (s4.bnd.hbSeen + 2000000) }
  let s6 := (s5.setBnd { s5.bnd with held := [] }).freeHeld s5.bnd.held
  let s7 := if s6.bnd.att.isSome then (s6.setBnd { s6.bnd with att := none }).wg BND_ATT_STATUS 32 else s6
  let s8 := s7.discardMirror
  if owing.isEmpty then s8.grantsResume else s8.leaseRetry

/-- TAKEOVER_LEASE_REPORT (R380): a member reports its unclosed leases from the failed twin. -/
def State.leaseReport (s : State) (dev : Nat) (l : List (Nat × Nat × Nat × Nat)) : State :=
  if s.flag BND_STATUS BND_STATUS_TAKEN then
    let s1 := s.addReport dev l
    let owing := s1.bnd.owing.filter fun d => d ≠ dev
    if s1.bnd.resumeAt.isSome && owing.isEmpty then s1.grantsResume else (s1.setBnd { s1.bnd with owing }).leaseRetry
  else s

/-- TAKEOVER_LEASE_REPORT (R380). -/
def execTakeoverLeaseReport (dev : Nat) (l : List (Nat × Nat × Nat × Nat)) (s : State) : Host.Outcome State Fault Refusal :=
  .next (if s.domOn .fabric then s.leaseReport dev l else s)

/-- TAKEOVER_GRANT_RESUME (R380): 2 ms after the last heartbeat, grants for the taken stations resume. -/
def execTakeoverGrantResume (s : State) : Host.Outcome State Fault Refusal :=
  match s.bnd.resumeAt with
  | some t => .next (if t ≤ s.now then s.grantsResume else s)
  | none => .next s

/-! ## The deciding miss -/

/-- The state that follows the MISS-th consecutive miss: the first row of R378 that applies. -/
def State.bondLoss (s : State) : State :=
  let s1 := s.fs BND_STATUS BND_STATUS_LOSS_SEEN 1
  if s.bndState ≠ bndAttached then s1.bndDetach
  else if s.twinVisible then (s1.bump BND_SPLITS).setBndState bndSplit
  else if !s.flag BND_CTL BND_CTL_TKO_EN then s1.bndDetach
  else if s.quorum then s1.takeover
  else s1.setBndState bndFenced

/-- Heartbeats are expected. -/
def State.expectsBeat (s : State) : Bool :=
  s.domOn .fabric && (s.bndState == bndCatchup || s.bndState == bndAttached || s.bndState == bndDetaching)

/-- HEARTBEAT_MISS (R378): an interval of 50 µs is over; without a heartbeat in it a miss is counted, and the MISS-th in a
row decides. -/
def execHeartbeatMiss (s : State) : Host.Outcome State Fault Refusal :=
  let b := s.bnd
  if !s.expectsBeat ∨ s.now < b.hbEdge + 50000 then .next s
  else if b.hbEdge < b.hbSeen then .next (s.setBnd { b with hbEdge := b.hbEdge + 50000 })
  else
    let s1 := (s.contest 20 0 512).bump BND_HB_MISS
    let s2 := s1.setBnd { s1.bnd with hbEdge := b.hbEdge + 50000, misses := b.misses + 1 }
    .next (if s.fg BND_CFG BND_CFG_MISS ≤ b.misses + 1 then s2.bondLoss else s2)

/-! ## Mirror writes and acknowledgements (R374-R377) -/

/-- Store key material of the twin at the same index. -/
def State.putMat (s : State) (k : Nat) (mat : Bytes) : Nat → State
  | 0 => s
  | w + 1 => State.putMat (s.wg CPH_KEY_MAT (BitVec.ofNat 64 (leAt mat (8 * w) 8)) [k, w]) k mat w

/-- Apply a change of the twin to the mirror. -/
def State.applyMir (s : State) : Mir → State
  | .word n m v =>
    if m = 0 ∧ bits v 17 16 ≠ 1 then s.clearMirror n 32
    else s.wg BND_MCTX (BitVec.ofNat 64 v) [n, m]
  | .lease l => s.setBnd { s.bnd with mLeases := s.bnd.mLeases ++ [l] }
  | .unlease n tid sn =>
    s.setBnd { s.bnd with mLeases := s.bnd.mLeases.filter fun l => !(l.n == n && l.tid == tid && l.sn == sn) }
  | .sta n v => s.setBnd { s.bnd with mSta := SMap.ins s.bnd.mSta n (BitVec.ofNat 64 v) }
  | .qcfg q w v => s.setBnd { s.bnd with mQcfg := SMap.ins s.bnd.mQcfg (2 * q + w) (BitVec.ofNat 64 v) }
  | .key k ctl limit warn mat =>
    let s1 := (((s.wg CPH_KEY_CTL (BitVec.ofNat 64 ctl) [k]).wg CPH_KEY_LIMIT (BitVec.ofNat 64 limit) [k]).wg CPH_KEY_WARN
      (BitVec.ofNat 64 warn) [k]).wg CPH_KEY_USED 0 [k]
    (s1.putMat k mat 4).setCph { s1.cph with expanding := s1.cph.expanding ++ [k] }
  | .keyOff k => (s.zeroKey k).fs CPH_KEY_CTL CPH_KEY_CTL_VALID 0 [k]
  | .used k v => s.fs CPH_KEY_USED CPH_KEY_USED_USED v [k]

/-- MIRROR_WRITE_RECEIVE (R374): a change of the twin is applied to the mirror bank, and acknowledged. -/
def execMirrorWriteReceive (m : Mir) (s : State) : Host.Outcome State Fault Refusal :=
  .next (if s.bondUp ∧ (s.bndState = bndAttached ∨ s.bndState = bndCatchup) ∧ s.domOn .memory ∧ s.admits 6 0 then
    let s1 := (s.input 6 0 []).applyMir m
    s1.setBnd { s1.bnd with applied := s1.bnd.applied + 1 } else s)

/-- What the acknowledgement of a change says the twin holds. -/
def State.ackOne (s : State) : Mir → State
  | .word n m v =>
    if m = 4 then s.setBnd { s.bnd with ackPn := SMap.ins s.bnd.ackPn n v }
    else if m = 6 ∨ m = 7 then
      s.setBnd { s.bnd with ackSeq := (List.range 4).foldl (fun a i =>
        SMap.ins a (n * 8 + 4 * (m - 6) + i) (bits v (16 * i + 11) (16 * i))) s.bnd.ackSeq }
    else s
  | _ => s

/-- Several changes are acknowledged. -/
def State.ackAll (s : State) : List (Nat × Mir) → State
  | [] => s
  | (_, m) :: t => State.ackAll (s.ackOne m) t

/-- MIRROR_ACK_RECEIVE (R376, R377): the twin has applied every change up to a number: the gating is decided anew, and the
frames that waited for them proceed. -/
def execMirrorAckReceive (upTo : Nat) (s : State) : Host.Outcome State Fault Refusal :=
  if !s.bondUp ∨ !s.admits 6 0 then .next s
  else
    let got := s.bnd.out.filter fun e => e.1 ≤ upTo
    let s1 := ((s.input 6 0 []).setBnd { s.bnd with out := s.bnd.out.filter fun e => upTo < e.1 }).ackAll got
    let go := s1.bnd.held.filter fun h => !s1.bnd.out.any fun e => e.1 == h.1
    let s2 := (s1.setBnd { s1.bnd with held := s1.bnd.held.filter fun h => s1.bnd.out.any fun e => e.1 == h.1 }).freeHeld go
    .next s2.leaseRetry

/-! ## Attach and catch-up (R382) -/

/-- Withdraw the valid keys of the twin's half. -/
def State.dropKeys (s : State) : List Nat → State
  | [] => s
  | k :: t => State.dropKeys ((s.zeroKey k).fs CPH_KEY_CTL CPH_KEY_CTL_VALID 0 [k]) t

/-- The entries of the twin's half that hold any key bytes: a withdrawal zeroes them too. -/
def State.twinMats (s : State) : List Nat :=
  ((s.csr.filterMap fun e =>
    if 0x2410000 ≤ e.1 ∧ e.1 < 0x2450000 ∧ e.1 % 0x40 < 0x20 then some ((e.1 - 0x2410000) / 0x40) else none).filter
    fun k => !s.ownKey k).eraseDups

/-- The home contexts of this device. -/
def State.homeList (s : State) : List Nat := s.ctxList.filter fun n => s.ctxRole n = 1

/-- The full mirrored state as changes (Table BND-2). -/
def State.snapshot (s : State) : List Mir :=
  (s.homeList.flatMap fun n => (List.range 32).map fun m => Mir.word n m (s.cw n m)) ++
    (s.wmac.granted.map Mir.lease) ++
    (s.homeList.map fun n => Mir.sta n (s.rg AIR_STA [n]).toNat) ++
    (s.homeList.flatMap fun n => (List.range 8).flatMap fun t =>
      [Mir.qcfg (8 * n + t) 0 (s.rg AIR_QCFG0 [8 * n + t]).toNat, Mir.qcfg (8 * n + t) 1 (s.rg AIR_QCFG1 [8 * n + t]).toNat]) ++
    (s.ownKeys.map fun k => Mir.key k (s.rg CPH_KEY_CTL [k]).toNat (s.rg CPH_KEY_LIMIT [k]).toNat (s.rg CPH_KEY_WARN [k]).toNat
      ([0, 1, 2, 3].flatMap fun w => leBytes 8 (s.rg CPH_KEY_MAT [k, w]).toNat))

/-- Send changes one after another. -/
def State.mirrorAll (s : State) : List Mir → State
  | [] => s
  | m :: t => State.mirrorAll (s.mirror m) t

/-- The values held at the start of CATCHUP, which R376 gates against until the snapshot is acknowledged. -/
def State.ackHeld (s : State) : List Nat → State
  | [] => s
  | n :: t => State.ackHeld (((s.ackOne (.word n 4 (s.cw n 4))).ackOne (.word n 6 (s.cw n 6))).ackOne (.word n 7 (s.cw n 7))) t

/-- CATCHUP_START (R382, R379, R375): the bond is up; each device copies its full mirrored state to the other. -/
def execCatchupStart (s : State) : Host.Outcome State Fault Refusal :=
  if !s.bondUp ∨ !s.flag BND_CTL BND_CTL_EN ∨ !(s.bndState = bndDetached ∨ s.bndState = bndSplit) then .next s
  else
    let ks := s.twinKeys
    let s1 := ((s.dropKeys ks).dropKeys s.twinMats).discardMirror
    let s2 := if ks.isEmpty then s1 else s1.logEv 0x31 0x04 0 ks.length
    let s3 := (s2.fs BND_STATUS BND_STATUS_STATE bndCatchup).ackHeld s2.homeList
    let s4 := s3.setBnd { s3.bnd with hbEdge := s3.now, hbSeen := s3.now, misses := 0 }
    let s5 := s4.mirrorAll s4.snapshot
    .next ((s5.setBnd { s5.bnd with snapEnd := s5.bnd.next }).leaseRetry)

/-- CATCHUP_DONE (R382): both copies are acknowledged, and STATE becomes ATTACHED. -/
def execCatchupDone (s : State) : Host.Outcome State Fault Refusal :=
  .next (if s.bondUp ∧ s.bndState = bndCatchup ∧ s.bnd.out.all (fun e => s.bnd.snapEnd ≤ e.1) then s.setBndState bndAttached
    else s)

/-! ## Writes of BND_CTL and BND_CFG (R379, R383-R385) -/

/-- A refused write sets REJ. -/
def State.bndRej (s : State) : State := s.fs BND_STATUS BND_STATUS_REJ 1

/-- EN := 0: the port goes down, the mirror is discarded and the gating is lifted. -/
def State.bndOff (s : State) : State :=
  ((s.fs BND_CTL BND_CTL_EN 0).linkEnables [6]).bndDetach

/-- A write of BND_CTL. -/
def State.bndCtlWrite (s : State) (v : Word) : State :=
  let en := BND_CTL_EN.of v == 1
  let det := BND_CTL_DETACH.of v == 1
  let give := BND_CTL_GIVEBACK.of v == 1
  let st := s.bndState
  if (!en && (st == bndAttached || st == bndDetaching)) || (det && st != bndAttached) ||
      (give && !(st == bndAttached && s.flag BND_STATUS BND_STATUS_TAKEN)) then s.bndRej
  else
    let s1 := s.fs BND_CTL BND_CTL_TKO_EN (BND_CTL_TKO_EN.of v)
    let s2 := if en then (s1.fs BND_CTL BND_CTL_EN 1).linkEnables [6] else s1.bndOff
    let s3 :=
      if det then
        let s3 := s2.setBndState bndDetaching
        s3.setBnd { s3.bnd with detachAt := some (s3.now + 1000000), leaving := true }
      else s2
    if give && !det then s3.setBnd { s3.bnd with giveAt := some (s3.now + 1000000) } else s3

/-- A write of BND_CFG: discarded and logged, with REJ, when out of range or while STATE is not DETACHED. -/
def State.bndCfgWrite (s : State) (v : Word) : State :=
  let miss := BND_CFG_MISS.of v
  if BND_CFG_LEAP.of v < 4096 ∨ miss < 2 ∨ s.bndState ≠ bndDetached then (s.logDiscard (BND_CFG.addr [])).bndRej
  else s.plain BND_CFG [] v

/-- BND_ENABLE (R382): a write of BND_CTL with EN 1. -/
def execBndEnable (who : Init) (v : Word) (s : State) : Host.Outcome State Fault Refusal :=
  .next (s.csrWrite BND_CTL [] who (setFld v 0 0 1) fun t => t.bndCtlWrite (setFld v 0 0 1))

/-- BND_DISABLE (R379, R384): a write of BND_CTL with EN 0. -/
def execBndDisable (who : Init) (v : Word) (s : State) : Host.Outcome State Fault Refusal :=
  .next (s.csrWrite BND_CTL [] who (setFld v 0 0 0) fun t => t.bndCtlWrite (setFld v 0 0 0))

/-- DETACH (R384): a write of BND_CTL with EN 1 and DETACH 1. -/
def execDetach (who : Init) (v : Word) (s : State) : Host.Outcome State Fault Refusal :=
  let w := setFld (setFld v 0 0 1) 2 2 1
  .next (s.csrWrite BND_CTL [] who w fun t => t.bndCtlWrite w)

/-- GIVEBACK (R383): a write of BND_CTL with EN 1 and GIVEBACK 1. -/
def execGiveback (who : Init) (v : Word) (s : State) : Host.Outcome State Fault Refusal :=
  let w := setFld (setFld (setFld v 0 0 1) 2 2 0) 3 3 1
  .next (s.csrWrite BND_CTL [] who w fun t => t.bndCtlWrite w)

/-! ## Hand-over (R383, R384) -/

/-- Send held MPDUs over the bond in order. -/
def State.wireHeld (s : State) : List RxMpdu → State
  | [] => s
  | m :: t =>
    let (s1, body, _) := s.frameBytes m.frame
    let s2 := s1.freeRx m
    State.wireHeld (s2.setBnd { s2.bnd with
      wire := s2.bnd.wire ++ [.mpdu { m with job := none, stored := false, frame := { len := m.frame.len } } body] }) t

/-- A station's home leaves this device over the bond: its words and leases exactly, then its reorder contents; the
context stays as a link context where a link stands here, and else is freed. -/
def State.handBond (s : State) (n : Nat) : State :=
  let msg := FabMsg.moved (s.ctxHandle n) ((List.range 32).map (s.cw n)) (s.leaseTuples n)
  let s1 := (s.setBnd { s.bnd with wire := s.bnd.wire ++ [msg] }).wireHeld
    ((List.range 8).flatMap fun t => (s.reorderOf n t).held.foldr (heldIns (s.sessWs n 12 t)) [])
  let s2 := { s1 with wmac := { s1.wmac with
    granted := s1.wmac.granted.filter fun l => l.n ≠ n
    deferred := s1.wmac.deferred.filter fun r => r.handle % 1024 ≠ n
    reorder := SMap.keep s1.wmac.reorder fun k => k / 8 != n } }
  if (s2.linkDevs n).contains s2.self then (s2.setCwBits n 0 17 16 2).zeroWords n ((List.range 32).filter homeWord)
  else (s2.forgetSta n).clearCtx n 32

/-- Several stations. -/
def State.handBonds (s : State) : List Nat → State
  | [] => s
  | n :: t => State.handBonds (s.handBond n) t

/-- DETACH_INSTANT (R384): at T the detaching device grants no more leases and its home state, with that of the stations it had
taken, moves to the twin, which answers for its handles from then on. -/
def execDetachInstant (s : State) : Host.Outcome State Fault Refusal :=
  match s.bnd.detachAt with
  | some t =>
    .next (if s.domOn .fabric ∧ s.bndState = bndDetaching ∧ t ≤ s.now then
      if s.bnd.leaving then
        let s1 := s.handBonds s.homeList
        (s1.setBnd { s1.bnd with taken := [], owing := [], resumeAt := none }).fs BND_STATUS BND_STATUS_TAKEN 0
      else s.fs BND_STATUS BND_STATUS_TAKEN 1
      else s)
  | none => .next s

/-- DETACH_AGREE_RECEIVE (R384): the twin of a detaching device enters DETACHING with the agreed T. -/
def execDetachAgreeReceive (t : Nat) (s : State) : Host.Outcome State Fault Refusal :=
  .next (if s.bondUp ∧ s.bndState = bndAttached ∧ s.admits 6 0 then
    let s1 := (s.input 6 0 []).setBndState bndDetaching
    s1.setBnd { s1.bnd with detachAt := some t, leaving := false } else s)

/-- Place moved MPDUs in their reorder buffers. -/
def State.placeAll (s : State) : List (RxMpdu × Bytes) → State
  | [] => s
  | (m, b) :: t => State.placeAll (s.forwardArrive m b) t

/-- DETACH_STATE_ARRIVE (R383, R384): a station's words, leases and reorder contents arrive over the bond, and its context
becomes a home context with those values; a station whose handle names the twin is taken. -/
def execDetachStateArrive (handle : Nat) (words : List Nat) (leases : List (Nat × Nat × Nat × Nat)) (mpdus : List (RxMpdu × Bytes))
    (s : State) : Host.Outcome State Fault Refusal :=
  let n := handle % 1024
  if !s.bondUp ∨ !s.domOn .memory ∨ !s.admits 6 0 ∨ !(s.bndState = bndDetaching ∨ s.bndState = bndAttached) ∨
      !(s.ctxRole n = 0 ∨ s.ctxHandle n = handle % 65536) then .next s
  else
    let s1 := (s.input 6 0 []).putWords n words 0
    let s2 := s1.setCw n 0 (bits (getAt words 0 0) 63 18 * 2 ^ 18 + 2 ^ 16 + handle % 65536)
    let new := leases.map fun (tid, dev, sn, len) => ({ n, tid, dev, sn, len, at_ := s.now } : HomeLease)
    let s3 := { s2 with wmac := { s2.wmac with granted := s2.wmac.granted.filter (fun (l : HomeLease) => l.n ≠ n) ++ new } }
    let s4 :=
      if bits handle 13 10 = s.self then s3
      else
        let s4 := s3.setBnd { s3.bnd with taken := sortIns n (s3.bnd.taken.filter fun k => k ≠ n) }
        s4.fs BND_STATUS BND_STATUS_TAKEN 1
    .next ((s4.placeAll mpdus).leaseRetry)

/-- This device holds no frame and no unclosed lease of any station. -/
def State.airEmpty (s : State) : Bool :=
  s.wmac.leases.isEmpty && (s.air.qs.all fun q => q.2.frames.isEmpty) && (s.wmac.retx.all fun q => q.2.isEmpty) &&
    (s.wmac.exch.all fun e => e.2.isNone)

/-- DETACH_COMPLETE (R384): the detaching device holds no frame and no lease, and both enter DETACHED. -/
def execDetachComplete (s : State) : Host.Outcome State Fault Refusal :=
  match s.bnd.detachAt with
  | some t =>
    .next (if s.domOn .fabric ∧ s.bndState = bndDetaching ∧ t ≤ s.now ∧ (!s.bnd.leaving ∨ s.airEmpty) then
      (s.bndDetach).logEv 0x31 0x04 0 s.twin else s)
  | none => .next s

/-- GIVEBACK_INSTANT (R383): at T every taken station moves back to the twin; `ok` says that the twin passed the check of
R196 for every station. -/
def execGivebackInstant (ok : Bool) (s : State) : Host.Outcome State Fault Refusal :=
  match s.bnd.giveAt with
  | some t =>
    if !s.domOn .fabric ∨ s.now < t then .next s
    else
      let s1 := s.setBnd { s.bnd with giveAt := none }
      if !ok ∨ s.bndState ≠ bndAttached then .next ((s1.bndRej).logEv 0x31 0x02 0 s.twin)
      else
        let s2 := s1.handBonds (s1.bnd.taken.filter fun n => s1.ctxRole n = 1)
        .next ((s2.setBnd { s2.bnd with taken := [], owing := [], resumeAt := none }).fs BND_STATUS BND_STATUS_TAKEN 0)
  | none => .next s

/-! ## Attestation of the twin (R372) -/

/-- A write of BND_ATT: discarded while BUSY, from a device program (R75), or when its range is not in memory; UNREACH when
the bond is not ATTACHED. Reserved bits are ignored (R12). -/
def State.bndAttWrite (s : State) (who : Init) (v : Word) : State :=
  let a := BND_ATT_ADDR.of v * 64
  if who.isCtx ∨ s.flag BND_ATT_STATUS BND_ATT_STATUS_BUSY ∨ !rangeInMem a 824 then
    s.logDiscard (BND_ATT.addr [])
  else if s.bndState ≠ bndAttached then s.wg BND_ATT_STATUS 32
  else
    (s.setBnd { s.bnd with att := some a, wire := s.bnd.wire ++ [.attest (s.bytes a 64)] }).wg BND_ATT_STATUS 16

/-- BND_ATT_WRITE (R372). -/
def execBndAttWrite (who : Init) (v : Word) (s : State) : Host.Outcome State Fault Refusal :=
  .next (s.csrWrite BND_ATT [] who v fun t => t.bndAttWrite who v)

/-- TWIN_REPORT_RECEIVE (R372): the twin's status and report arrive over the bond. -/
def execTwinReportReceive (code : Nat) (report : Bytes) (s : State) : Host.Outcome State Fault Refusal :=
  match s.bnd.att with
  | some a =>
    if !s.bondUp ∨ !s.admits 6 0 then .next s
    else
      let s1 := (s.input 6 0 report).setBnd { s.bnd with att := none }
      let s2 := if code = 0 then (s1.write (a + 64) report).1 else s1
      .next (s2.wg BND_ATT_STATUS (BitVec.ofNat 64 (code % 16 + (if code = 0 then report.length else 0) * 65536)))
  | none => .next s

end Sys2Proof.Machine
end

