-- ==== Sys2Proof/Machine/RegMap.lean ====
section
/-! DEFINITION. The CSR space as a map: which register stands at an offset, in which domain it lies and what resets it
(R19, R389, R402). -/

namespace Sys2Proof.Machine

/-- The register families of a CSR block (Table ARC-3). -/
def blockRegs (b : Nat) : List Reg :=
  if b = 0x00 then regsSec else if b = 0x01 then regsPwr else if b = 0x02 then regsAdm else if b = 0x03 then regsTmb
  else if b = 0x04 then regsKck else if b = 0x05 then regsHif else if b = 0x06 then regsDrk else if b = 0x07 then regsScb
  else if b = 0x08 then regsPmc else if b = 0x10 then regsAir else if b = 0x11 then regsWmac
  else if b = 0x12 ∨ b = 0x13 ∨ b = 0x14 then regsWb else if b = 0x15 then regsSpe else if b = 0x16 then regsFel
  else if b = 0x18 then regsTlm else if b = 0x20 ∨ b = 0x21 then regsEth else if b = 0x22 then regsSkm
  else if b = 0x23 then regsTmg else if b = 0x24 then regsCph else if b = 0x28 then regsMem else if b = 0x29 then regsDrc
  else if b = 0x30 then regsFab else if b = 0x31 then regsBnd else []

/-- A CSR block index is assigned. -/
def blockAssigned (b : Nat) : Bool := !(blockRegs b).isEmpty

/-- The first family of a list that has a register instance at an offset. -/
def hitIn (a : Nat) : List Reg → Option (Reg × List Nat × Nat)
  | [] => none
  | r :: t =>
    match r.hit a with
    | some (i, b) => some (r, i, b)
    | none => hitIn a t

/-- The register at a BAR0 offset, its indices, and the byte within it. -/
def findReg (a : Nat) : Option (Reg × List Nat × Nat) := hitIn a (blockRegs (a / 0x100000))

/-- The domain that decides whether an access at a BAR0 offset is a down-block access (R17, R394). -/
def offDom (a : Nat) : Dom :=
  match findReg a with
  | some (r, i, _) => r.domOf i
  | none => blockDom (a / 0x100000)

/-- The register at an offset belongs to a domain's reset. -/
def resetsWith (d : Dom) (a : Nat) : Bool :=
  match findReg a with
  | some (r, i, _) => r.src == .domain && r.domOf i == d
  | none => false

/-- The register at an offset keeps its value in a warm reset: its reset source is power-on alone. -/
def survivesWarm (a : Nat) : Bool :=
  match findReg a with
  | some (r, _, _) => r.src == .powerOn
  | none => false

/-- The domains whose blocks an item of a staging set writes (R350). -/
def itDoms (b : Bytes) : List Dom :=
  if itType b = 1 then
    (if itMask b % 2 ^ 32 ≠ 0 then [offDom (itAddr b - 0x8000000000)] else []) ++
      (if itMask b / 2 ^ 32 ≠ 0 then [offDom (itAddr b + 4 - 0x8000000000)] else [])
  else if itType b = 8 ∨ itType b = 9 then [.wired]
  else [.memory]

/-- A pending set writes a block of a domain. -/
def State.kickDom (s : State) (d : Dom) : Bool := s.pendingItems.any fun x => (itDoms x.1).contains d

end Sys2Proof.Machine
end

