-- ==== Sys2Proof/Machine/Eth.lean ====
section
/-! DEFINITION. The Ethernet ports (chapter 11): acceptance and steering, receive rings, pause and its watchdog, the
check-value units, segmentation, and transmit stamps. -/

namespace Sys2Proof.Machine

/-! ## Tags and acceptance (R254, R256, R257) -/

/-- A TPID that the port recognises. -/
def State.isTpid (s : State) (p v : Nat) : Bool :=
  v == 0x8100 || v == 0x88A8 || (v != 0 && v == s.fg ETH_TPID ETH_TPID_EXTRA [p])

/-- The recognised tags of a frame, at most two. -/
def State.tagCount (s : State) (p : Nat) (b : Bytes) : Nat :=
  if s.isTpid p (beAt b 12 2) then (if s.isTpid p (beAt b 16 2) then 2 else 1) else 0

/-- The longest frame with FCS that a sub-port takes or sends, for a frame's tags. -/
def State.maxFrame (s : State) (p sub : Nat) (b : Bytes) : Nat :=
  s.fg ETH_SP_CFG ETH_SP_CFG_MAXLEN [p, sub] + 4 * s.tagCount p b

/-- A MAC control frame. -/
def isMacCtl (b : Bytes) : Bool := beAt b 12 2 == 0x8808

/-- A pause or PFC frame. -/
def isPause (b : Bytes) : Bool := isMacCtl b && (beAt b 14 2 == 1 || beAt b 14 2 == 0x101)

/-- The destination is accepted (R256). -/
def State.destOk (s : State) (p sub : Nat) (b : Bytes) : Bool :=
  let da := beAt b 0 6
  let bcast := da == 0xFFFFFFFFFFFF
  let mcast := bitN (leAt b 0 1) 0
  s.flag ETH_SP_CFG ETH_SP_CFG_PROMISC [p, sub] ||
    (bcast && s.flag ETH_SP_CFG ETH_SP_CFG_BCAST [p, sub]) ||
    (mcast && !bcast && s.flag ETH_SP_CFG ETH_SP_CFG_MCAST_ALL [p, sub]) ||
    ((List.range 16).any fun i =>
      !bcast && s.flag ETH_UCAST ETH_UCAST_VALID [p, i] && bitN (s.fg ETH_UCAST ETH_UCAST_SPMASK [p, i]) sub &&
        s.fg ETH_UCAST ETH_UCAST_ADDR [p, i] == da)

/-- A filter entry decides a frame: it is valid for the sub-port and every enabled test holds (R257). -/
def State.fltHit (s : State) (p sub : Nat) (b : Bytes) (i : Nat) : Bool :=
  let n := s.tagCount p b
  let t := s.fg ETH_FLT1 ETH_FLT1_TESTS [p, i]
  let tags := s.fg ETH_FLT1 ETH_FLT1_TAGS [p, i]
  let tci0 := beAt b 14 2
  let tci1 := beAt b 18 2
  s.flag ETH_FLT1 ETH_FLT1_VALID [p, i] && bitN (s.fg ETH_FLT0 ETH_FLT0_SPMASK [p, i]) sub &&
    (tags == 0 || tags == n + 1) &&
    (!bitN t 0 || beAt b (12 + 4 * n) 2 == s.fg ETH_FLT0 ETH_FLT0_ETYPE [p, i]) &&
    (!bitN t 1 || (decide (1 ≤ n) && tci0 % 4096 == s.fg ETH_FLT0 ETH_FLT0_OVID [p, i])) &&
    (!bitN t 2 || (n == 2 && tci1 % 4096 == s.fg ETH_FLT0 ETH_FLT0_IVID [p, i])) &&
    (!bitN t 3 || (decide (1 ≤ n) && tci0 / 8192 == s.fg ETH_FLT0 ETH_FLT0_PCP [p, i]))

/-- The first filter entry that decides, of a list. -/
def State.firstFlt (s : State) (p sub : Nat) (b : Bytes) : List Nat → Option Nat
  | [] => none
  | i :: t => if s.fltHit p sub b i then some i else State.firstFlt s p sub b t

/-- A sub-port's frame in reception. -/
def State.rxOf (s : State) (p sub : Nat) : Option EthIn := SMap.get (s.port p).rxIn sub none

/-- Set it. -/
def State.setEthRx (s : State) (p sub : Nat) (x : Option EthIn) : State :=
  let e := s.port p
  s.setPort p { e with rxIn := SMap.set e.rxIn sub x none }

/-- A frame goes to a ring: it is written into pails there, or dropped when the ring holds DESC frames, or when PAILS or
the pool runs out while it is written (R260). What lies beyond the longest frame takes no pail (R259). -/
def State.toRing (s : State) (p sub r : Nat) (b : Bytes) : State :=
  let lim := s.maxFrame p sub b
  let held := b.take lim
  if s.fg ETH_RING_CFG ETH_RING_CFG_DESC [p, r] ≤ s.ringFrames p r then s.bump ETH_RX_NOBUF [p, sub]
  else if s.fg ETH_RING_CFG ETH_RING_CFG_PAILS [p, r] < s.ringPails p r + pailsFor held.length then
    s.bump ETH_RX_NOBUF_MID [p, sub]
  else
    match s.storeFrame (512 + p) held with
    | none => s.bump ETH_RX_NOBUF_MID [p, sub]
    | some (s1, hs) =>
      (s1.setEthRx p sub (some { ring := some r, bytes := b, pails := hs, ns := (s.rxStamp p).1, frac := (s.rxStamp p).2, at_ := s.now, lim })).fcCheck p

/-- The fate of a frame once its first 22 bytes are held (R256, R257). -/
def State.frameFate (s : State) (p sub : Nat) (b : Bytes) : State :=
  if b.length < 22 then
    s.setEthRx p sub (some { ring := none, bytes := b, pails := [], ns := (s.rxStamp p).1, frac := (s.rxStamp p).2, at_ := s.now })
  else if isPause b then s
  else if isMacCtl b then s.bump ETH_RX_FILTERED [p, sub]
  else if !s.destOk p sub b then s.bump ETH_RX_FILTERED [p, sub]
  else
    match s.firstFlt p sub b (List.range 64) with
    | some i =>
      if s.flag ETH_FLT1 ETH_FLT1_DROP [p, i] then s.bump ETH_RX_FLT_DROP [p, sub]
      else s.toRing p sub (s.fg ETH_FLT1 ETH_FLT1_RING [p, i]) b
    | none => s.toRing p sub (s.fg ETH_RXDEF ETH_RXDEF_RING [p]) b

/-- ETH_FRAME_FATE (R256): a frame arrives on an enabled sub-port whose link is up; `b` holds all its bytes with FCS. -/
def execEthFrameFate (p sub : Nat) (b : Bytes) (s : State) : Host.Outcome State Fault Refusal :=
  if s.spEnabled p sub && s.spLink p sub && (s.rxOf p sub).isNone && !s.deaf then
    .next (((s.cross 34 (p * 4 + sub)).input p sub b).frameFate p sub b)
  else .next s

/-! ## The end of a frame (R254, R255, R259, R265) -/

/-- The ones'-complement sum of bytes taken as 16-bit words in network order. -/
def onesSum : Bytes → Nat
  | [] => 0
  | [a] => a.toNat * 256
  | a :: b :: t => a.toNat * 256 + b.toNat + onesSum t

/-- Fold the carries of a sum back in. -/
def foldSum : Nat → Nat → Nat
  | 0, v => v
  | n + 1, v => if v < 65536 then v else foldSum n (v % 65536 + v / 65536)

/-- The receive check value over frame bytes START to the end, without FCS (R265). -/
def State.rxCheck (s : State) (p : Nat) (b : Bytes) : Nat :=
  let d := b.drop (s.fg ETH_RXCV ETH_RXCV_START [p])
  let k := s.fg ETH_RXCV ETH_RXCV_KIND [p]
  if k = 1 then foldSum 8 (onesSum d)
  else if k = 2 then (crc32c d).toNat
  else if k = 3 then (crc16 d).toNat
  else 0

/-- Give a stored frame's pails the fills of a shorter length, from a start offset. -/
def State.refill (s : State) : List Nat → Nat → Nat → State
  | [], _, _ => s
  | h :: t, start, n =>
    let here := min n (512 - start)
    let nxt := if n ≤ 512 - start then 0 else getAt t 0 0
    State.refill (s.setLink h nxt start here) t 0 (n - here)

/-- A frame takes its place at a ring's tail; of those that complete in one tick, the lower sub-port goes first (R259). -/
def ringIns (f : Frame) : List Frame → List Frame
  | [] => [f]
  | g :: t => if g.inAt = f.inAt ∧ f.source < g.source ∧ !g.taken then f :: g :: t else g :: ringIns f t

/-- A received frame whose FCS passed takes its ring place, without its FCS. -/
def State.ringPlace (s : State) (p sub r : Nat) (i : EthIn) : State :=
  let n := i.bytes.length - 4
  let keep := i.pails.take (pailsFor n)
  let s1 := (s.freePails (i.pails.drop (pailsFor n))).refill keep 64 n
  let f : Frame := { pail := getAt keep 0 0, len := n, source := p * 4096 + sub, flags := 3, stampNs := i.ns,
                     stampFrac := i.frac, ring := 1 + p * 16 + r, rxcv := s.rxCheck p (i.bytes.take n), inAt := s.now }
  let e := s1.port p
  ((s1.setPort p { e with rings := SMap.set e.rings r (ringIns f (SMap.get e.rings r [])) [] }).bump ETH_RX_FRAMES
    [p, sub]).fcCheck p

/-- A frame in reception is dropped and counted. -/
def State.rxDrop (s : State) (p sub : Nat) (i : EthIn) (c : Reg) : State :=
  (((s.setEthRx p sub none).freePails i.pails).bump c [p, sub]).fcCheck p

/-- The FCS of a frame passes. -/
def fcsOk (b : Bytes) : Bool :=
  decide (4 ≤ b.length) && (crc32 (b.take (b.length - 4))).toNat == leAt b (b.length - 4) 4

/-- A frame in reception has passed the longest frame its sub-port takes (R254). -/
def State.overLim (s : State) (p : Nat) (i : EthIn) : Bool :=
  i.ring.isSome && decide (i.lim < i.bytes.length) &&
    decide (i.at_ + ceilDiv ((i.lim - 21) * 8) (s.lineRate p) ≤ s.now)

/-- A frame in reception that has passed its limit is dropped at once (R254). -/
def State.oversizeDrop (s : State) (p sub : Nat) : State :=
  match s.rxOf p sub with
  | some i => if s.overLim p i then s.rxDrop p sub i ETH_RX_OVERSIZE else s
  | none => s

/-- ETH_FRAME_END (R254): the frame in reception ends. -/
def execEthFrameEnd (p sub : Nat) (s : State) : Host.Outcome State Fault Refusal :=
  match s.rxOf p sub with
  | none => .next s
  | some i =>
    if i.bytes.length < 64 then .next (s.rxDrop p sub i ETH_RX_RUNT)
    else if i.lim < i.bytes.length then .next (s.rxDrop p sub i ETH_RX_OVERSIZE)
    else if !fcsOk i.bytes then .next (s.rxDrop p sub i ETH_RX_FCS_BAD)
    else .next ((s.setEthRx p sub none).ringPlace p sub (i.ring.getD 0) i)

/-! ## Pause (R261, R262) -/

/-- The priorities of a sub-port. -/
def prios : List Nat := [0, 1, 2, 3, 4, 5, 6, 7]

/-- PAUSED follows the pause timers. -/
def State.pausedView (s : State) (p sub : Nat) : State :=
  let e := s.port p
  s.fs ETH_SP_STATUS ETH_SP_STATUS_PAUSED
    ((prios.map fun k => if (e.pauseOf sub k).till.isSome then 2 ^ k else 0).sum) [p, sub]

/-- STORM of a priority. -/
def State.storm (s : State) (p sub prio : Nat) : Bool := bitN (s.fg ETH_SP_STATUS ETH_SP_STATUS_STORM [p, sub]) prio

/-- A received pause for one priority: it replaces the timer, quanta 0 resumes, and while STORM stands it is ignored. -/
def State.pauseOne (s : State) (p sub prio quanta : Nat) : State :=
  let e := s.port p
  let x := { e.pauseOf sub prio with lastRx := s.now }
  let ns := ceilDiv (quanta * 512) (s.lineRate p)
  let y :=
    if s.storm p sub prio then x
    else if quanta = 0 then { x with till := none, since := none }
    else { x with till := some (s.now + ns), since := some (x.since.getD s.now) }
  s.setPort p (e.setPause sub prio y)

/-- Pause several priorities, each by its quanta. -/
def State.pauseEach (s : State) (p sub : Nat) : List (Nat × Nat) → State
  | [] => s
  | (prio, q) :: t => State.pauseEach (s.pauseOne p sub prio q) p sub t

/-- The priorities a pause frame names, with their quanta: all of them for PAUSE, those enabled for PFC. -/
def pauseList (b : Bytes) : List (Nat × Nat) :=
  if beAt b 14 2 = 1 then prios.map fun k => (k, beAt b 16 2)
  else (prios.filter fun k => bitN (beAt b 16 2) k).map fun k => (k, beAt b (18 + 2 * k) 2)

/-- PAUSE_FRAME_RECEIVE (R256, R262): a pause or PFC frame ends, `b` being its bytes with FCS. -/
def execPauseFrameReceive (p sub : Nat) (b : Bytes) (s : State) : Host.Outcome State Fault Refusal :=
  if !(s.spEnabled p sub && s.spLink p sub && isPause b) || s.deaf then .next s
  else
    let s1 := s.input p sub b
    if b.length < 64 then .next (s1.bump ETH_RX_RUNT [p, sub])
    else if s1.maxFrame p sub b < b.length then .next (s1.bump ETH_RX_OVERSIZE [p, sub])
    else if !fcsOk b then .next (s1.bump ETH_RX_FCS_BAD [p, sub])
    else
      let s2 := s1.bump ETH_RX_PAUSE [p, sub]
      let m := s2.fcMode p sub
      if (m = 1 ∧ beAt b 14 2 = 1) ∨ (m = 2 ∧ beAt b 14 2 = 0x101) then
        .next (((s2.contest 15 (p * 4 + sub) 513).pauseEach p sub (pauseList b)).pausedView p sub)
      else .next s2

/-- PAUSE_TIMER_EXPIRE (R262): a priority whose timer has run out resumes. -/
def execPauseTimerExpire (p sub prio : Nat) (s : State) : Host.Outcome State Fault Refusal :=
  let e := s.port p
  let x := e.pauseOf sub prio
  match x.till with
  | some t =>
    if t ≤ s.now then
      .next ((s.setPort p (e.setPause sub prio { x with till := none, since := none })).pausedView p sub)
    else .next s
  | none => .next s

/-- PAUSE_REFRESH (R261): while a priority is held off and the quanta last sent are half spent, XOFF is sent again. -/
def execPauseRefresh (p sub prio : Nat) (s : State) : Host.Outcome State Fault Refusal :=
  let e := s.port p
  let x := e.pauseOf sub prio
  match x.sent with
  | some _ =>
    let (q, t) := SMap.get e.pauseSent (sub * 8 + prio) (0, 0)
    if t + ceilDiv (q * 256) (s.lineRate p) ≤ s.now ∧ (e.pauseQ.all fun y => y.1 ≠ sub ∨ y.2.1 ≠ prio) then
      .next ((s.setPort p (e.setPause sub prio { x with sent := some s.now })).sendPause p sub prio
        (s.fg ETH_SP_WD ETH_SP_WD_XOFF_QUANTA [p, sub]))
    else .next s
  | none => .next s

/-- Set a STORM bit. -/
def State.setStorm (s : State) (p sub prio : Nat) (v : Bool) : State :=
  s.fs ETH_SP_STATUS ETH_SP_STATUS_STORM
    (setFld (BitVec.ofNat 64 (s.fg ETH_SP_STATUS ETH_SP_STATUS_STORM [p, sub])) prio prio (b2n v)).toNat [p, sub]

/-- STORM_CLEAR (R262): no pause for the priority has been received for WD_REST µs. -/
def execStormClear (p sub prio : Nat) (s : State) : Host.Outcome State Fault Refusal :=
  let x := (s.port p).pauseOf sub prio
  if s.storm p sub prio && decide (x.lastRx + s.fg ETH_SP_WD ETH_SP_WD_WD_REST [p, sub] * 1000 ≤ s.now) then
    .next (s.setStorm p sub prio false)
  else .next s

/-- Pause and watchdog state of a sub-port is cleared (R253, R254). -/
def State.clearPause (s : State) (p sub : Nat) : State :=
  let e := s.port p
  let s1 := s.setPort p { e with
    pause := e.pause.filter fun x => x.1 / 8 ≠ sub, pauseSent := e.pauseSent.filter (fun x => x.1 / 8 ≠ sub),
    pauseQ := e.pauseQ.filter fun x => x.1 ≠ sub }
  (s1.fs ETH_SP_STATUS ETH_SP_STATUS_PAUSED 0 [p, sub]).fs ETH_SP_STATUS ETH_SP_STATUS_STORM 0 [p, sub]

/-! ## The transmit control word and the check-value units (R263-R266) -/

/-- Fields of TXCTL (Table ETH-2). -/
def ctlSeg (c : Nat) : Bool := bitN c 0
def ctlIp4 (c : Nat) : Bool := bitN c 1
def ctlKind (c : Nat) : Nat := bits c 3 2
def ctlTs (c : Nat) : Bool := bitN c 4
def ctlUdp (c : Nat) : Bool := bitN c 5
def ctlL3 (c : Nat) : Nat := bits c 15 8
def ctlL4 (c : Nat) : Nat := bits c 23 16
def ctlCv (c : Nat) : Nat := bits c 31 24
def ctlMss (c : Nat) : Nat := bits c 45 32
def ctlTag (c : Nat) : Nat := bits c 63 48

/-- Bytes of the check field. -/
def cvWidth (k : Nat) : Nat := if k = 0 then 0 else if k = 2 then 4 else 2

/-- The IP version nibble and the IHL at L3_OFF. -/
def ipVer (b : Bytes) (c : Nat) : Nat := leAt b (ctlL3 c) 1 / 16
def ipIhl (b : Bytes) (c : Nat) : Nat := leAt b (ctlL3 c) 1 % 16

/-- H, the header length that every segment carries (R266). -/
def segHdr (b : Bytes) (c : Nat) : Nat :=
  if ctlUdp c then ctlL4 c + 8 else ctlL4 c + 4 * (leAt b (ctlL4 c + 12) 1 / 16)

/-- k, the number of segments. -/
def segCount (b : Bytes) (c : Nat) : Nat :=
  if ctlSeg c then ceilDiv (b.length - segHdr b c) (max 1 (ctlMss c)) else 1

/-- The SEG limits of R266. -/
def segLimits (b : Bytes) (c lim : Nat) : Bool :=
  ctlKind c == 1 && ctlCv c == ctlL4 c + (if ctlUdp c then 6 else 16) && decide (64 ≤ ctlMss c) &&
    decide (segHdr b c + ctlMss c + 4 ≤ lim) && decide (1 ≤ segCount b c) && decide (segCount b c ≤ 256)

/-- A frame's TXCTL cannot be carried out (R265). -/
def ctlBad (b : Bytes) (c lim : Nat) : Bool :=
  let n := b.length
  bits c 7 6 != 0 || bits c 47 46 != 0 ||
    ((ctlKind c != 0 || ctlSeg c) && (decide (n < ctlCv c + cvWidth (ctlKind c)) || decide (n ≤ ctlL4 c))) ||
    (ctlIp4 c && (ipVer b c != 4 || decide (ipIhl b c < 5) || decide (n < ctlL3 c + ipIhl b c * 4))) ||
    (ctlSeg c &&
      (!(ipVer b c == 4 || ipVer b c == 6) ||
       (ipVer b c == 4 && (decide (ipIhl b c < 5) || decide (ctlL4 c < ctlL3 c + ipIhl b c * 4))) ||
       (ipVer b c == 6 && decide (ctlL4 c < ctlL3 c + 40)) || !segLimits b c lim))

/-- The IPv4 header checksum over IHL × 4 bytes at L3_OFF, written at L3_OFF + 10. -/
def ip4Checksum (b : Bytes) (c : Nat) : Bytes :=
  let z := patch b (ctlL3 c + 10) [0, 0]
  patch b (ctlL3 c + 10) (beBytes 2 (0xFFFF - foldSum 8 (onesSum (slice z (ctlL3 c) (ipIhl b c * 4)))))

/-- The check value of CV_KIND over the bytes from L4_OFF, `extra` being what segmentation adds to the seed (R264). -/
def cvApply (b : Bytes) (c extra : Nat) : Bytes :=
  let k := ctlKind c
  if k = 1 then
    let v := 0xFFFF - foldSum 8 (onesSum (b.drop (ctlL4 c)) + extra)
    patch b (ctlCv c) (beBytes 2 (if ctlUdp c ∧ v = 0 then 0xFFFF else v))
  else if k = 2 then
    patch b (ctlCv c) (leBytes 4 (crc32c ((patch b (ctlCv c) [0, 0, 0, 0]).drop (ctlL4 c))).toNat)
  else if k = 3 then
    patch b (ctlCv c) (beBytes 2 (crc16 ((patch b (ctlCv c) [0, 0]).drop (ctlL4 c))).toNat)
  else b

/-- Segment i of a frame with its header rewritten (R266). -/
def segment (b : Bytes) (c i : Nat) : Bytes :=
  let h := segHdr b c
  let lastSeg := i + 1 == segCount b c
  let x := b.take h ++ (b.drop (h + i * ctlMss c)).take (ctlMss c)
  let l3 := ctlL3 c
  let l4 := ctlL4 c
  let x1 :=
    if ipVer b c = 4 then
      patch (patch x (l3 + 2) (beBytes 2 (x.length - l3))) (l3 + 4) (beBytes 2 (beAt x (l3 + 4) 2 + i))
    else patch x (l3 + 4) (beBytes 2 (x.length - l3 - 40))
  let x2 :=
    if ctlUdp c then patch x1 (l4 + 4) (beBytes 2 (x.length - l4))
    else
      let fl := BitVec.ofNat 8 (leAt x1 (l4 + 13) 1)
      let f1 := if lastSeg then fl else fl &&& 0xF6
      let f2 := if i = 0 then f1 else f1 &&& 0x7F
      patch (patch x1 (l4 + 4) (beBytes 4 (beAt x1 (l4 + 4) 4 + i * ctlMss c))) (l4 + 13) [f2]
  cvApply (if ipVer b c = 4 then ip4Checksum x2 c else x2) c (x.length - l4)

/-- The bytes of frame or segment i that the port sends, before padding and FCS. -/
def portBytes (b : Bytes) (c i : Nat) : Bytes :=
  if ctlSeg c then segment b c i
  else cvApply (if ctlIp4 c then ip4Checksum b c else b) c 0

/-- Pad to 60 bytes and append the FCS, inverted for a frame ended by an error (R254, R338). -/
def wireBytes (b : Bytes) (bad : Bool) : Bytes :=
  let x := b ++ List.replicate (60 - b.length) 0
  let f := crc32 x
  x ++ leBytes 4 (if bad then ~~~f else f).toNat

/-! ## Transmit stamps (R58, R267) -/

/-- A stamp enters the queue at its tail; of those captured in one tick, the lower sub-port goes first. -/
def stampIns (x : Stamp) : List Stamp → List Stamp
  | [] => [x]
  | y :: t => if y.at_ = x.at_ ∧ x.sub < y.sub then x :: y :: t else y :: stampIns x t

/-- A stamp is refused: the flag and the count say so, and a completion that waits for it carries NO_TS and a stamp of 0. -/
def State.stampRefuse (s : State) (p : Nat) (x : Stamp) : State :=
  let s1 := (s.fs ETH_TXTS_STATUS ETH_TXTS_STATUS_OVF_SEEN 1 [p]).bump ETH_TXTS_OVF [p]
  match x.cmd with
  | some (qp, cseq) =>
    let refused (c : HCmd) : HCmd := if c.qp = qp ∧ c.cseq = cseq then c.finish { status := 0, flags := 1 } else c
    { s1 with hif := { s1.hif with cmds := s1.hif.cmds.map refused } }
  | none => s1

/-- A stamp enters the queue, and a completion that waits for it carries it. -/
def State.stampEnter (s : State) (p : Nat) (x : Stamp) : State :=
  let e := s.port p
  let s1 := (s.setPort p { e with stamps := stampIns x e.stamps }).stampView p
  match x.cmd with
  | some (qp, cseq) => s1.hifDone qp cseq { status := 0, stampNs := x.ns, stampFrac := x.frac }
  | none => s1

/-- A captured stamp enters the queue. With 64 entries held, the highest sub-port among the captures of this tick, the new one
included, is refused (R58). -/
def State.stampCapture (s : State) (p : Nat) (x : Stamp) : State :=
  let e := s.port p
  if e.stamps.length < 64 then s.stampEnter p x
  else
    match e.stamps.getLast? with
    | some y =>
      if y.at_ = x.at_ ∧ x.sub < y.sub then
        ((s.setPort p { e with stamps := e.stamps.dropLast }).stampRefuse p y).stampEnter p x
      else s.stampRefuse p x
    | none => s

/-- Capture a stamp for a frame that asks for one, at its start. -/
def State.captureStamp (s : State) (p sub : Nat) (f : Frame) (ctl : Nat) : State :=
  let (ns, frac) := s.txStamp p
  match f.ts with
  | some (qp, cseq, tag) => s.stampCapture p ⟨some (qp, cseq), tag, ns, frac, sub, s.now⟩
  | none => if ctlTs ctl then s.stampCapture p ⟨none, ctlTag ctl, ns, frac, sub, s.now⟩ else s

/-- Remove the oldest program stamp of a list. -/
def popStamp : List Stamp → Option (Stamp × List Stamp)
  | [] => none
  | x :: t =>
    if x.cmd = none then some (x, t)
    else
      match popStamp t with
      | some (y, r) => some (y, x :: r)
      | none => none

/-- A read of ETHn_TXTS_POP by a requester: the value it returns. -/
def State.txtsPop (s : State) (p : Nat) (who : Init) : State × Word :=
  let s0 := s.contest 16 p who.contender
  let e := s0.port p
  match popStamp e.stamps with
  | some (x, rest) =>
    let v := BitVec.ofNat 64 (x.tag % 65536 + x.frac * 2 ^ 16 + x.sub * 2 ^ 32 + 2 ^ 34)
    ((s0.setPort p { e with stamps := rest, popNs := SMap.set e.popNs who.key x.ns 0 }).stampView p, v)
  | none => (s0.setPort p { e with popNs := SMap.set e.popNs who.key 0 0 }, 0)

/-- TXTS_POP (R267): a read of ETHn_TXTS_POP takes the oldest program stamp off the queue. -/
def execTxtsPop (p : Nat) (who : Init) (s : State) : Host.Outcome State Fault Refusal :=
  if s.domOn .wired then
    let (s1, v) := s.txtsPop p who
    .next { s1 with rdata := SMap.ins s1.rdata who.key v }
  else
    let s1 := s.downAccess (0x8000000000 + ETH_TXTS_POP.addr [p]) .wired who false
    .next { s1 with rdata := SMap.ins s1.rdata who.key 0x0BAD0FF00BAD0FF0 }

end Sys2Proof.Machine
end

