-- ==== Sys2Proof/Machine/Tmg.lean ====
section
/-! DEFINITION. The traffic manager (chapter 13): metering and admission, ageing, shapers and the calendar wheel, time
gates, and the selection and sending of frames at a sub-port; with them the port steps that reach into its queues. -/

namespace Sys2Proof.Machine

/-- A byte in the units tokens are kept in, 2^-16 byte. -/
def tokUnit : Nat := 65536

/-- A TMG queue. -/
def State.tq (s : State) (q : Nat) : TmgQ := SMap.get s.tmg.qs q {}

/-- Set a TMG queue; an empty queue owes and saves no turn (R303). -/
def State.setTq (s : State) (q : Nat) (x : TmgQ) : State :=
  let y := if x.frames.isEmpty then { x with deficit := 0 } else x
  { s with tmg := { s.tmg with qs := SMap.set s.tmg.qs q y {} } }

/-- A sub-port of TMG. -/
def State.sp (s : State) (k : Nat) : TmgSp := SMap.get s.tmg.sps k {}

/-- Set it. -/
def State.setSp (s : State) (k : Nat) (x : TmgSp) : State :=
  { s with tmg := { s.tmg with sps := SMap.set s.tmg.sps k x {} } }

/-- A policer's tokens. -/
def State.pol (s : State) (i : Nat) : TmgPol := SMap.get s.tmg.pols i {}

/-- Set them. -/
def State.setPol (s : State) (i : Nat) (x : TmgPol) : State :=
  { s with tmg := { s.tmg with pols := SMap.set s.tmg.pols i x {} } }

/-! ## Policing (R299-R301) -/

/-- The tokens, in units of 2^-16 byte, that a rate in kb/s adds in a time under a cap, with the part of a unit left over,
so that no credit is lost to rounding (R301, R303). -/
def accrue (rate dt rem : Nat) (cap tok : Int) : Int × Nat :=
  let n := rate * dt * tokUnit + rem
  let t := tok + (n / 8000000 : Nat)
  if cap ≤ t then (cap, 0) else (t, n % 8000000)

/-- A policer's tokens accrued to now at the present rates and clamped to the present buckets. -/
def State.polNow (s : State) (i : Nat) : TmgPol :=
  let p := s.pol i
  let dt := s.now - p.since
  let (c, cr) := accrue (s.fg TMG_POL0 TMG_POL0_CIR [i]) dt p.tcRem (s.fg TMG_POL0 TMG_POL0_CBS [i] * tokUnit : Nat) p.tc
  let (q, qr) := accrue (s.fg TMG_POL1 TMG_POL1_PIR [i]) dt p.tpRem (s.fg TMG_POL1 TMG_POL1_PBS [i] * tokUnit : Nat) p.tp
  { tc := c.toNat, tp := q.toNat, since := s.now, tcRem := cr, tpRem := qr }

/-- Colours. -/
def green : Nat := 0
def yellow : Nat := 1
def red : Nat := 2

/-- The colour and the tokens left by metering a frame of `n` bytes (the pseudocode of R301). -/
def meterRule (mode pc n : Nat) (p : TmgPol) : Nat × TmgPol :=
  let b := n * tokUnit
  let c := if mode % 2 = 0 then green else pc
  if mode < 2 then
    if c = red ∨ p.tp < b then (red, p)
    else if c = yellow ∨ p.tc < b then (yellow, { p with tp := p.tp - b })
    else (green, { p with tp := p.tp - b, tc := p.tc - b })
  else if c = green ∧ b ≤ p.tc then (green, { p with tc := p.tc - b })
  else if c ≠ red ∧ b ≤ p.tp then (yellow, { p with tp := p.tp - b })
  else (red, p)

/-- A queue's frames are metered by a policer, whose order then governs their admission (R297). -/
def State.policed (s : State) (q : Nat) : Bool :=
  s.flag TMG_Q_CFG TMG_Q_CFG_POL_EN [q] && s.flag TMG_POL1 TMG_POL1_EN [s.fg TMG_Q_CFG TMG_Q_CFG_POLICER [q]]

/-- Meter a frame for a queue: the colour, and whether its policer's actions drop it (R297 steps 2 and 3). -/
def State.meter (s : State) (who q pc len : Nat) : State × Nat × Bool :=
  if !s.flag TMG_Q_CFG TMG_Q_CFG_POL_EN [q] then (s, green, false)
  else
    let i := s.fg TMG_Q_CFG TMG_Q_CFG_POLICER [q]
    if !s.flag TMG_POL1 TMG_POL1_EN [i] then (s, green, false)
    else
      let s0 := s.contest 6 i who
      let (c, p) := meterRule (s0.fg TMG_POL0 TMG_POL0_MODE [i]) pc (len + s0.fg TMG_POL1 TMG_POL1_ADJ [i]) (s0.polNow i)
      let s1 := (s0.setPol i p).bump TMG_POLCNT [i, c]
      (s1, c, (c == yellow && s1.flag TMG_POL0 TMG_POL0_ACT_Y [i]) || (c == red && !s1.flag TMG_POL0 TMG_POL0_ACT_R [i]))

/-- Fields of a policer register are in range, and RFC 2698 keeps PIR and PBS at least CIR and CBS (R300). -/
def polOk (w0 w1 : Word) : Bool :=
  TMG_POL0_CBS.of w0 != 0 && TMG_POL1_PBS.of w1 != 0 &&
    (decide (2 ≤ TMG_POL0_MODE.of w0) ||
      (decide (TMG_POL0_CIR.of w0 ≤ TMG_POL1_PIR.of w1) && decide (TMG_POL0_CBS.of w0 ≤ TMG_POL1_PBS.of w1)))

/-- A write of TMG_POLi_0 (word 0) or TMG_POLi_1 (word 1) (R300). -/
def State.polWrite (s : State) (i word : Nat) (v : Word) : State :=
  let w0 := if word = 0 then rwMerge TMG_POL0 (s.rg TMG_POL0 [i]) v else s.rg TMG_POL0 [i]
  let w1 := if word = 0 then s.rg TMG_POL1 [i] else rwMerge TMG_POL1 (s.rg TMG_POL1 [i]) v
  if !polOk w0 w1 then s.logDiscard (if word = 0 then TMG_POL0.addr [i] else TMG_POL1.addr [i])
  else
    let rise := !s.flag TMG_POL1 TMG_POL1_EN [i] && TMG_POL1_EN.of w1 == 1
    let old := s.polNow i
    let s1 := (s.wg TMG_POL0 w0 [i]).wg TMG_POL1 w1 [i]
    let cbs := TMG_POL0_CBS.of w0 * tokUnit
    let pbs := TMG_POL1_PBS.of w1 * tokUnit
    s1.setPol i (if rise then { tc := cbs, tp := pbs, since := s.now }
      else { old with tc := min old.tc cbs, tp := min old.tp pbs })

/-- POLICER_WRITE (R300). -/
def execPolicerWrite (i word : Nat) (who : Init) (v : Word) (s : State) : Host.Outcome State Fault Refusal :=
  .next (s.csrWrite (if word = 0 then TMG_POL0 else TMG_POL1) [i] who v fun t => t.polWrite i word v)

/-! ## Admission and ageing (R297, R298) -/

/-- Admit a frame to a queue (R297): the status and value of enq.tmg, and whether the frame stays the event's. `b` is
the operand of R296. -/
def State.tmgAdmit (s : State) (who b : Nat) (f : Frame) (txctl : Nat) : State × Nat × Nat × Bool :=
  let q := bits b 9 0
  if !s.domOn .wired then (s, esDomainDown, 0, true)
  else
    let s0 := if s.policed q then s else s.contest 5 q who
    let (s1, c, polDrop) := s0.meter who q (bits b 11 10) f.len
    let strict := s1.flag TMG_CTL TMG_CTL_STRICT
    if polDrop || (strict && c != green) then
      ((s1.dropFrame f).bump (if polDrop then TMG_POL_DROP else TMG_STRICT_DROP), esOk, c + 4, false)
    else
      let x := s1.tq q
      let n := x.frames.length
      let policed := s1.flag TMG_Q_CFG TMG_Q_CFG_POL_EN [q]
      if s1.fg TMG_Q_CFG TMG_Q_CFG_LIMIT [q] ≤ n ∨
          (s1.fg TMG_Q_CFG TMG_Q_CFG_YLIMIT [q] ≤ n ∧ (c ≠ green ∨ (strict ∧ !policed))) then
        (s1.bump TMG_ENQ_FULL, esFull, c, true)
      else
        (s1.setTq q { x with frames := x.frames ++ [⟨f, s1.now, txctl, 0⟩] }, esOk, c, false)

/-- TMG_ENQUEUE (R297): a posted enq.tmg reaches its queue. -/
def execTmgEnqueue (op : Nat) (s : State) : Host.Outcome State Fault Refusal :=
  match s.readyOp op with
  | some o =>
    match o.kind, o.frame with
    | .enqTmg b ctl, some f =>
      let (s1, st, v, keep) := (s.cross 31 (min 8 (bits b 9 0 / 64))).tmgAdmit (o.ctx % 512) b f (leNat ctl)
      .next (s1.answerOp op o st v keep)
    | _, _ => .next s
  | none => .next s

/-- A queue's head frame is older than MAXAGE. -/
def State.tooOld (s : State) (q : Nat) (e : TmgFrame) : Bool :=
  decide (e.stamp + s.fg TMG_Q_CFG TMG_Q_CFG_MAXAGE [q] * 1000000 < s.now)

/-- Set a sub-port's frame in transmission. -/
def State.setTx (s : State) (p sub : Nat) (x : Option EthOut) : State :=
  let e := s.port p
  s.setPort p { e with tx := SMap.set e.tx sub x none }

/-- A sub-port's frame in transmission. -/
def State.txOf (s : State) (p sub : Nat) : Option EthOut := SMap.get (s.port p).tx sub none

/-- The remaining segments of a queue's head frame are not sent: a segment of it on the wire becomes its last, which
returns the pails when it has left, and without one the frame is dropped (R298). -/
def State.dropAged (s : State) (q : Nat) (e : TmgFrame) : State :=
  let k := q / 64
  match s.txOf (k / 4) (k % 4) with
  | some o =>
    if q < 512 ∧ o.queue = q ∧ o.last = false ∧ e.seg ≠ 0 then s.setTx (k / 4) (k % 4) (some { o with last := true })
    else s.dropFrame e.frame
  | none => s.dropFrame e.frame

/-- Drop head frames that are too old, at most `n`. -/
def State.ageQueue (s : State) (q : Nat) : Nat → State
  | 0 => s
  | n + 1 =>
    match (s.tq q).frames with
    | e :: t =>
      if s.tooOld q e then
        State.ageQueue (((s.setTq q { s.tq q with frames := t }).dropAged q e).bump TMG_AGED) q n
      else s
    | [] => s

/-- Age the queues of a list. -/
def State.ageQueues (s : State) : List Nat → State
  | [] => s
  | q :: t => State.ageQueues (s.ageQueue q (s.tq q).frames.length) t

/-- TMG_AGE_SCAN (R298): once in every millisecond each head is checked. -/
def execTmgAgeScan (s : State) : Host.Outcome State Fault Refusal :=
  .next (if s.domOn .wired then s.ageQueues (s.tmg.qs.map Prod.fst) else s)

/-! ## Shapers and the calendar wheel (R303-R305) -/

/-- Tokens accrued from an instant to now under a cap, and the part of a unit left over; held at BURST while the shaper is
off. -/
def tokNow (en : Bool) (rate burst dt rem : Nat) (tok : Int) : Int × Nat :=
  if en then accrue rate dt rem (burst * tokUnit : Nat) tok else ((burst * tokUnit : Nat), 0)

/-- A queue's tokens now, with the part of a unit. -/
def State.qTokRem (s : State) (q : Nat) : Int × Nat :=
  tokNow (s.flag TMG_Q_SHAPE TMG_Q_SHAPE_SH_EN [q]) (s.fg TMG_Q_SHAPE TMG_Q_SHAPE_RATE [q])
    (s.fg TMG_Q_SHAPE TMG_Q_SHAPE_BURST [q]) (s.now - (s.tq q).since) (s.tq q).rem (s.tq q).tok

/-- A queue's tokens now. -/
def State.qTok (s : State) (q : Nat) : Int := (s.qTokRem q).1

/-- A sub-port's tokens now, with the part of a unit. -/
def State.spTokRem (s : State) (k : Nat) : Int × Nat :=
  tokNow (s.flag TMG_SP_SHAPE TMG_SP_SHAPE_SH_EN [k]) (s.fg TMG_SP_SHAPE TMG_SP_SHAPE_RATE [k])
    (s.fg TMG_SP_SHAPE TMG_SP_SHAPE_BURST [k]) (s.now - (s.sp k).since) (s.sp k).rem (s.sp k).tok

/-- A sub-port's tokens now. -/
def State.spTok (s : State) (k : Nat) : Int := (s.spTokRem k).1

/-- The instant t + ceil(−T × 8,000,000 ÷ RATE) at which a debt is paid, if there is one (R303). -/
def dueAt (t rate : Nat) (tok : Int) : Option Nat :=
  if tok < 0 then some (t + ceilDiv ((-tok).toNat * 8000000) (max 1 rate * tokUnit)) else none

/-- A shaper register's RATE, BURST (and QUANTUM for a queue) are in range. -/
def shapeOk (w : Word) (queue : Bool) : Bool :=
  fld w 31 0 != 0 && fld w 55 32 != 0 && (!queue || fld w 63 58 != 0)

/-- A write of TMG_Qq_SHAPE (R305). -/
def State.qShapeWrite (s : State) (q : Nat) (v : Word) : State :=
  let w := rwMerge TMG_Q_SHAPE (s.rg TMG_Q_SHAPE [q]) v
  if !shapeOk w true then s.logDiscard (TMG_Q_SHAPE.addr [q])
  else if 512 ≤ q then s.wg TMG_Q_SHAPE w [q]
  else
    let was := s.flag TMG_Q_SHAPE TMG_Q_SHAPE_SH_EN [q]
    let on := TMG_Q_SHAPE_SH_EN.of w == 1
    let cap : Int := (TMG_Q_SHAPE_BURST.of w * tokUnit : Nat)
    let tok := if was && on then min (s.qTok q) cap else cap
    let till := if was && on then dueAt s.now (TMG_Q_SHAPE_RATE.of w) tok else none
    let rem := if was && on && decide (s.qTok q < cap) then (s.qTokRem q).2 else 0
    (s.wg TMG_Q_SHAPE w [q]).setTq q { s.tq q with tok, since := s.now, till, rem }

/-- A write of TMG_SPk_SHAPE (R305). -/
def State.spShapeWrite (s : State) (k : Nat) (v : Word) : State :=
  let w := rwMerge TMG_SP_SHAPE (s.rg TMG_SP_SHAPE [k]) v
  if !shapeOk w false then s
  else
    let was := s.flag TMG_SP_SHAPE TMG_SP_SHAPE_SH_EN [k]
    let on := TMG_SP_SHAPE_SH_EN.of w == 1
    let cap : Int := (TMG_SP_SHAPE_BURST.of w * tokUnit : Nat)
    let tok := if was && on then min (s.spTok k) cap else cap
    let till := if was && on then dueAt s.now (TMG_SP_SHAPE_RATE.of w) tok else none
    let rem := if was && on && decide (s.spTok k < cap) then (s.spTokRem k).2 else 0
    (s.wg TMG_SP_SHAPE w [k]).setSp k { s.sp k with tok, since := s.now, till, rem }

/-- SHAPER_WRITE (R305): of a queue's shaper, or of a sub-port's. -/
def execShaperWrite (queue : Bool) (i : Nat) (who : Init) (v : Word) (s : State) : Host.Outcome State Fault Refusal :=
  .next (if queue then s.csrWrite TMG_Q_SHAPE [i] who v fun t => t.qShapeWrite i v
    else s.csrWrite TMG_SP_SHAPE [i] who v fun t => t.spShapeWrite i v)

/-- Serve the sub-ports whose wheel instant has come; an item served more than 16 ns late is counted. -/
def State.wheelSps (s : State) : List Nat → State
  | [] => s
  | k :: t =>
    match (s.sp k).till with
    | some d =>
      let s1 := if d ≤ s.now then s.setSp k { s.sp k with till := none } else s
      State.wheelSps (if d + 16 < s.now then s1.bump TMG_WHEEL_LATE else s1) t
    | none => State.wheelSps s t

/-- Serve the queues whose wheel instant has come. -/
def State.wheelQs (s : State) : List Nat → State
  | [] => s
  | q :: t =>
    match (s.tq q).till with
    | some d =>
      let s1 := if d ≤ s.now then s.setTq q { s.tq q with till := none } else s
      State.wheelQs (if d + 16 < s.now then s1.bump TMG_WHEEL_LATE else s1) t
    | none => State.wheelQs s t

/-- CALENDAR_WHEEL_SLOT (R304): sub-ports and queues due become eligible, sub-ports before queues. -/
def execCalendarWheelSlot (s : State) : Host.Outcome State Fault Refusal :=
  .next ((s.wheelSps (List.range 8)).wheelQs (s.tmg.qs.map Prod.fst))

/-! ## Time gates (R308-R310) -/

/-- The index of a bank of a sub-port in the register file. -/
def gclIdx (k b : Nat) : List Nat := [k, b]

/-- The entry in force at an offset into a cycle, from entry `e` on with `n` entries left: its gates, and the offset at
which it ends. The last entry stays in force to the cycle's end. -/
def State.gclEntry (s : State) (k b o : Nat) : Nat → Nat → Nat → Nat × Nat
  | 0, _, acc => (0xFF, acc)
  | n + 1, e, acc =>
    let g := s.fg TMG_GCL_E TMG_GCL_E_GATES [k, b, e]
    let stop := acc + s.fg TMG_GCL_E TMG_GCL_E_INTERVAL [k, b, e]
    let cyc := s.fg TMG_GCL_HDR1 TMG_GCL_HDR1_CYCLE (gclIdx k b)
    if n = 0 then (g, cyc)
    else if o < stop then (g, min stop cyc)
    else State.gclEntry s k b o n (e + 1) stop

/-- The gates of a bank at an instant, and the instant at which the entry in force ends. -/
def State.bankAt (s : State) (k b t : Nat) : Nat × Nat :=
  let base := s.fg TMG_GCL_HDR0 TMG_GCL_HDR0_BASE (gclIdx k b)
  let cyc := max 1 (s.fg TMG_GCL_HDR1 TMG_GCL_HDR1_CYCLE (gclIdx k b))
  let o := (((t : Int) - base) % (cyc : Int)).toNat
  let (g, stop) := s.gclEntry k b o (s.fg TMG_GCL_HDR1 TMG_GCL_HDR1_LEN (gclIdx k b)) 0 0
  (g, t + (stop - o))

/-- The gates of a sub-port at an instant not before now, and the next instant at which they may change; none while they
never change. A switch already applied counts from its start. -/
def State.gatesAt (s : State) (k t : Nat) : Nat × Option Nat :=
  let en := s.flag TMG_SP_GATE TMG_SP_GATE_GATE_EN [k]
  let act := s.fg TMG_SP_GATE TMG_SP_GATE_ACTIVE_BANK [k]
  match (s.sp k).switch with
  | some (b, st) =>
    if st ≤ t then let (g, u) := s.bankAt k b t; (g, some u)
    else if en then let (g, u) := s.bankAt k act t; (g, some (min u st))
    else (0xFF, some st)
  | none => if en then let (g, u) := s.bankAt k act t; (g, some u) else (0xFF, none)

/-- The instant at which an open class next closes; none when it never does within the fuel, which spans two whole
cycles of either bank. -/
def State.closesAt (s : State) (k c : Nat) : Nat → Nat → Option Nat
  | 0, _ => none
  | n + 1, t =>
    let (g, u) := s.gatesAt k t
    if !bitN g c then some t
    else
      match u with
      | some v => State.closesAt s k c n v
      | none => none

/-- The (gates, length) runs of one cycle of a bank from an offset on. -/
def State.cycleRuns (s : State) (k b : Nat) : Nat → Nat → List (Nat × Nat)
  | 0, _ => []
  | n + 1, o =>
    let cyc := max 1 (s.fg TMG_GCL_HDR1 TMG_GCL_HDR1_CYCLE (gclIdx k b))
    if cyc ≤ o then []
    else
      let (g, stop) := s.gclEntry k b o (s.fg TMG_GCL_HDR1 TMG_GCL_HDR1_LEN (gclIdx k b)) 0 0
      (g, stop - o) :: State.cycleRuns s k b n (max stop (o + 1))

/-- The longest run of a class's open time over runs, the present run so far being `run`. -/
def longestRun (c : Nat) : List (Nat × Nat) → Nat → Nat → Nat
  | [], run, best => max run best
  | (g, n) :: t, run, best => if bitN g c then longestRun c t (run + n) best else longestRun c t 0 (max run best)

/-- Cost of a frame or segment of some bytes on the wire (R303). -/
def frameCost (len : Nat) : Nat := max len 60 + 24

/-- A sub-port k's port and sub-port numbers. -/
def spPort (k : Nat) : Nat := k / 4
def spSub (k : Nat) : Nat := k % 4

/-- GUARD: the maximum-frame time rounded up, ns (R309). -/
def State.guardTime (s : State) (k : Nat) : Nat :=
  ceilDiv ((s.fg ETH_SP_CFG ETH_SP_CFG_MAXLEN [spPort k, spSub k] + 28) * 8) (s.lineRate (spPort k))

/-- W of a frame, rounded up to whole ns. -/
def State.wireTime (s : State) (k len : Nat) : Nat := ceilDiv (frameCost len * 8) (s.lineRate (spPort k))

/-- A head frame of a class may start now under the gates (R309). -/
def State.gateAdmits (s : State) (k c len : Nat) : Bool :=
  let (g, _) := s.gatesAt k s.now
  bitN g c &&
    match s.closesAt k c 1100 s.now with
    | none => true
    | some u =>
      decide (s.now + (if s.flag TMG_SP_GATE TMG_SP_GATE_GB_MODE [k] then s.guardTime k else s.wireTime k len) ≤ u)

/-- No interval of the operational list could ever admit a frame of a class that has some open time (R309). -/
def State.neverFits (s : State) (k c len : Nat) : Bool :=
  if !s.flag TMG_SP_GATE TMG_SP_GATE_GATE_EN [k] then false
  else
    let b := s.fg TMG_SP_GATE TMG_SP_GATE_ACTIVE_BANK [k]
    let runs := s.cycleRuns k b 300 0
    if runs.all (fun r => bitN r.1 c) then false
    else
      let best := longestRun c (runs ++ runs) 0 0
      let rate := s.lineRate (spPort k)
      if best = 0 then false
      else if s.flag TMG_SP_GATE TMG_SP_GATE_GB_MODE [k] then
        decide (best * rate ≤ (s.fg ETH_SP_CFG ETH_SP_CFG_MAXLEN [spPort k, spSub k] + 28) * 8)
      else decide (best * rate < frameCost len * 8)

/-- OPEN follows the gates (R308). -/
def State.openView (s : State) (k : Nat) : State := s.fs TMG_SP_GATE TMG_SP_GATE_OPEN (s.gatesAt k s.now).1 [k]

/-- GATE_ENTRY (R308): the entry in force at this instant sets the open classes. -/
def execGateEntry (k : Nat) (s : State) : Host.Outcome State Fault Refusal :=
  .next (if s.domOn .wired then s.openView k else s)

/-- GATE_SWITCH_START (R310): at S the pending bank becomes active. -/
def execGateSwitchStart (k : Nat) (s : State) : Host.Outcome State Fault Refusal :=
  match (s.sp k).switch with
  | some (b, st) =>
    if st ≤ s.now then
      let s1 := s.setSp k { s.sp k with switch := none }
      let s2 := (s1.fs TMG_SP_GATE TMG_SP_GATE_ACTIVE_BANK b [k]).fs TMG_SP_GATE TMG_SP_GATE_GATE_EN 1 [k]
      .next ((s2.fs TMG_SP_GATE TMG_SP_GATE_PENDING 0 [k]).openView k)
    else .next s
  | none => .next s

/-- STRICT_AUTO_CLEAR (R302): the free pails have stayed at or above twice PAIL_FLOOR for 1 ms. -/
def execStrictAutoClear (s : State) : Host.Outcome State Fault Refusal :=
  let floor := s.fg TMG_CTL TMG_CTL_PAIL_FLOOR
  match s.tmg.recover with
  | some t =>
    if s.flag TMG_CTL TMG_CTL_STRICT_AUTO && decide (t + 1000000 ≤ s.now) && decide (2 * floor ≤ s.freePailCount) then
      .next (s.setStrict (s.fg TMG_CTL TMG_CTL_STRICT_HOST) 0)
    else .next s
  | none => .next s

/-! ## Selection at a sub-port (R306, R311) -/

/-- The traffic class of a queue. -/
def State.qClass (s : State) (q : Nat) : Nat := s.fg TMG_Q_CFG TMG_Q_CFG_TC [q]

/-- The bytes of a queued frame's next segment, before padding and FCS. -/
def State.nextBytes (s : State) (e : TmgFrame) : Bytes :=
  let b := s.peek e.frame
  if ctlSeg e.txctl then segment b e.txctl e.seg else portBytes b e.txctl 0

/-- The length of a queued frame's next segment. -/
def State.nextLen (s : State) (e : TmgFrame) : Nat :=
  if ctlSeg e.txctl then
    let b := s.peek e.frame
    let h := segHdr b e.txctl
    h + min (ctlMss e.txctl) (e.frame.len - h - e.seg * ctlMss e.txctl)
  else e.frame.len

/-- A class of a sub-port is paused by the link partner and its watchdog has not tripped. -/
def State.classPaused (s : State) (k c : Nat) : Bool :=
  ((s.port (spPort k)).pauseOf (spSub k) c).till.isSome && !s.storm (spPort k) (spSub k) c

/-- The head of a queue could start but for pause. -/
def State.headReady (s : State) (k q : Nat) : Bool :=
  match (s.tq q).frames with
  | e :: _ => (s.tq q).till.isNone && s.gateAdmits k (s.qClass q) (s.nextLen e)
  | [] => false

/-- A queue is ELIGIBLE (R311). -/
def State.qEligible (s : State) (k q : Nat) : Bool := s.headReady k q && !s.classPaused k (s.qClass q)

/-- The queues of a sub-port. -/
def spQueues (k : Nat) : List Nat := (List.range 64).map fun j => 64 * k + j

/-- The eligible queues of a class of a sub-port, each with its head's cost and its quantum. -/
def State.wiredCands (s : State) (k c : Nat) : List (Nat × Nat × Nat) :=
  (spQueues k).filterMap fun q =>
    if s.qClass q = c ∧ s.qEligible k q then
      match (s.tq q).frames with
      | e :: _ => some (q, frameCost (s.nextLen e), s.fg TMG_Q_SHAPE TMG_Q_SHAPE_QUANTUM [q] * 256)
      | [] => none
    else none

/-- The highest class with an eligible queue. -/
def State.topClass (s : State) (k : Nat) : Nat → Option Nat
  | 0 => none
  | c + 1 => if (s.wiredCands k c).isEmpty then State.topClass s k c else some c

/-- Deficit round-robin (R306): from the place reached, each queue in its turn adds its quantum and is chosen when its
deficit covers its head's cost. -/
def dwrr (all : List (Nat × Nat × Nat)) : Nat → List (Nat × Nat × Nat) → SMap Nat → Option (Nat × Nat × SMap Nat)
  | 0, _, _ => none
  | n + 1, [], d => match all with | [] => none | _ => dwrr all n all d
  | n + 1, (q, cost, quantum) :: t, d =>
    let x := SMap.get d q 0 + quantum
    if cost ≤ x then some (q, cost, SMap.ins d q (x - cost)) else dwrr all n t (SMap.ins d q x)

/-- The queue a class sends from next, with the deficits that the choice leaves. -/
def State.chooseQueue (s : State) (k c : Nat) : Option (Nat × Nat × SMap Nat) :=
  let cands := s.wiredCands k c
  let d : SMap Nat := cands.foldl (fun m x => SMap.ins m x.1 (s.tq x.1).deficit) []
  let cur := SMap.get (s.sp k).turn c 0
  match cands.find? fun x => x.1 + 1 == cur && decide (x.2.1 ≤ SMap.get d x.1 0) with
  | some (q, cost, _) => some (q, cost, SMap.ins d q (SMap.get d q 0 - cost))
  | none =>
    let rot := (cands.filter fun x => decide (cur ≤ x.1)) ++ cands.filter fun x => decide (x.1 < cur)
    dwrr rot 4000 rot d

/-- Store the deficits a choice leaves. -/
def State.setDeficits (s : State) : SMap Nat → State
  | [] => s
  | (q, d) :: t => State.setDeficits (s.setTq q { s.tq q with deficit := d }) t

/-- Drop the head of a queue, and each that becomes eligible behind it, while its class's watchdog has tripped with
WD_ACTION = 0 (R262). -/
def State.stormDrop (s : State) (k q : Nat) : Nat → State
  | 0 => s
  | n + 1 =>
    match (s.tq q).frames with
    | e :: t =>
      if s.storm (spPort k) (spSub k) (s.qClass q) && !s.flag ETH_SP_WD ETH_SP_WD_WD_ACTION [spPort k, spSub k] &&
          s.headReady k q then
        State.stormDrop (((s.setTq q { s.tq q with frames := t }).dropFrame e.frame).bump ETH_WD_DROP [spPort k, spSub k]) k q n
      else s
    | [] => s

/-- The same for the queues of a list. -/
def State.stormDrops (s : State) (k : Nat) : List Nat → State
  | [] => s
  | q :: t => State.stormDrops (s.stormDrop k q (s.tq q).frames.length) k t

/-- A frame could start but for a pause that takes effect in this instant (R262). -/
def State.pauseMeets (s : State) (k : Nat) : Bool :=
  (spQueues k).any fun q => s.headReady k q && s.classPaused k (s.qClass q) &&
    decide (((s.port (spPort k)).pauseOf (spSub k) (s.qClass q)).lastRx = s.now)

/-- Drop head frames that no open interval can admit, at most `n` of a queue (R309). -/
def State.noFit (s : State) (k q : Nat) : Nat → State
  | 0 => s
  | n + 1 =>
    match (s.tq q).frames with
    | e :: t =>
      if s.neverFits k (s.qClass q) (s.nextLen e) then
        State.noFit (((s.setTq q { s.tq q with frames := t }).dropFrame e.frame).bump TMG_GATE_NOFIT) k q n
      else s
    | [] => s

/-- The same for the queues of a list. -/
def State.noFits (s : State) (k : Nat) : List Nat → State
  | [] => s
  | q :: t => State.noFits (s.noFit k q (s.tq q).frames.length) k t

/-- Charge a started frame's cost to its queue and its sub-port (R303). -/
def State.charge (s : State) (k q cost : Nat) : State :=
  let c : Int := (cost * tokUnit : Nat)
  let s1 :=
    if s.flag TMG_Q_SHAPE TMG_Q_SHAPE_SH_EN [q] then
      let (t, rem) := s.qTokRem q
      let tok := t - c
      s.setTq q { s.tq q with tok, since := s.now, rem, till := dueAt s.now (s.fg TMG_Q_SHAPE TMG_Q_SHAPE_RATE [q]) tok }
    else s
  if s1.flag TMG_SP_SHAPE TMG_SP_SHAPE_SH_EN [k] then
    let (t, rem) := s1.spTokRem k
    let tok := t - c
    s1.setSp k { s1.sp k with tok, since := s1.now, rem, till := dueAt s1.now (s1.fg TMG_SP_SHAPE TMG_SP_SHAPE_RATE [k]) tok }
  else s1

/-- Start the head frame or segment of a queue (R306, R266): it is charged, stamped and committed. -/
def State.startTx (s : State) (k q : Nat) (e : TmgFrame) (rest : List TmgFrame) : State :=
  let p := spPort k
  let sub := spSub k
  let (s0, b, bad) := s.frameBytes e.frame
  let isBad := bad.isSome
  let lastSeg := isBad || e.seg + 1 == segCount b e.txctl
  let x := portBytes b e.txctl e.seg
  let s1 := if isBad then s0.bump MEM_UE_FRAME else s0
  let s2 := s1.setTq q { s1.tq q with frames := if lastSeg then rest else { e with seg := e.seg + 1 } :: rest }
  let s3 := s2.charge k q (frameCost x.length)
  let s4 := s3.setTx p sub (some { queue := q, frame := e.frame, last := lastSeg, bytes := wireBytes x isBad, at_ := s.now })
  if e.seg = 0 then s4.captureStamp p sub e.frame e.txctl else s4

/-- The frame chosen starts, or is dropped at the port when its control word or its length is refused (R254, R265). -/
def State.sendHead (s : State) (k q : Nat) (d : SMap Nat) (c : Nat) : State :=
  let p := spPort k
  let sub := spSub k
  match (s.tq q).frames with
  | [] => s
  | e :: rest =>
    let b := s.peek e.frame
    let lim := s.maxFrame p sub b
    if ctlBad b e.txctl lim then
      ((((s.setTq q { s.tq q with frames := rest }).dropFrame e.frame).bump ETH_TX_CTL_BAD [p, sub])).logLim
        (0x300 + k) (0x20 + p) 0x03 0 (sub * 16 + 12)
    else if !ctlSeg e.txctl && decide (lim < e.frame.len + 4) then
      ((s.setTq q { s.tq q with frames := rest }).dropFrame e.frame).bump ETH_TX_OVERSIZE [p, sub]
    else
      let s1 := s.setDeficits d
      let s2 := s1.setSp k { s1.sp k with turn := SMap.ins (s1.sp k).turn c (q + 1) }
      s2.startTx k q e rest

/-- FRAME_TX_START (R306): a free, enabled sub-port whose tokens allow it selects and starts a frame or segment. -/
def execFrameTxStart (p sub : Nat) (s : State) : Host.Outcome State Fault Refusal :=
  let k := p * 4 + sub
  if s.spEnabled p sub && s.spLink p sub && (s.txOf p sub).isNone && (s.sp k).till.isNone then
    let s0 := (((s.cross 31 k).ageQueues (spQueues k)).noFits k (spQueues k)).stormDrops k (spQueues k)
    let s1 := if s0.pauseMeets k || (s0.topClass k 8).isSome then s0.contest 15 k 512 else s0
    match s1.topClass k 8 with
    | none => .next s1
    | some c =>
      match s1.chooseQueue k c with
      | some (q, _, d) => .next (s1.sendHead k q d c)
      | none => .next s1
  else .next s

/-- FRAME_TX_END (R266): the frame or segment has left; a frame's pails return with its last segment. -/
def execFrameTxEnd (p sub : Nat) (s : State) : Host.Outcome State Fault Refusal :=
  match s.txOf p sub with
  | none => .next s
  | some o =>
    let s1 := (s.cross 34 (p * 4 + sub)).setTx p sub none
    let e := s1.port p
    let s2 := ((s1.setPort p { e with wire := SMap.ins e.wire sub o.bytes }).bump ETH_TX_FRAMES [p, sub]).egress p o.bytes
    .next ((if o.last then s2.freeFrame o.frame else s2).flushPause p sub)

/-! ## Port steps that reach the queues (R253, R262) -/

/-- The frame or segment in transmission ends after `sent` bytes with an error code and an inverted FCS (Table PAC-4). -/
def State.txCut (s : State) (p sub sent : Nat) (o : EthOut) : State :=
  let b := o.bytes.take (min sent (o.bytes.length - 4))
  let s1 := s.setTx p sub none
  let e := s1.port p
  s1.setPort p { e with wire := SMap.ins e.wire sub (b ++ leBytes 4 (~~~(crc32 b)).toNat) }

/-- The bytes of a frame in transmission that have left by now, its preamble taking 8 byte times. -/
def State.txGone (s : State) (p : Nat) (o : EthOut) : Nat := (s.now - o.at_) * s.lineRate p / 8 - 8

/-- A frame in transmission is aborted: it ends with an error code, its pails are returned and its remaining segments are not
sent. -/
def State.txAbort (s : State) (p sub : Nat) (c : Reg) : State :=
  match s.txOf p sub with
  | none => s
  | some o =>
    let s1 := s.txCut p sub (s.txGone p o) o
    let x := s1.tq o.queue
    let s2 := if o.last then s1 else s1.setTq o.queue { x with frames := x.frames.drop 1 }
    (s2.freeFrame o.frame).bump c [p, sub]

/-- Frames in flight on a sub-port are aborted. -/
def State.abortFlight (s : State) (p sub : Nat) : State :=
  let s1 := s.txAbort p sub ETH_TX_ABORT
  match s1.rxOf p sub with
  | some i => s1.rxDrop p sub i ETH_RX_ABORT
  | none => s1

/-- The effects of clearing SPEN bits (R253). -/
def State.spDisable (s : State) (p : Nat) (gone : Nat) : List Nat → State
  | [] => s
  | sub :: t => State.spDisable (if bitN gone sub then (s.abortFlight p sub).clearPause p sub else s) p gone t

/-- A write of ETHn_MODE (R252, R253). -/
def State.ethModeWrite (s : State) (p : Nat) (v : Word) : State :=
  let old := s.rg ETH_MODE [p]
  let w := rwMerge ETH_MODE old v
  let spen := ETH_MODE_SPEN.of old
  let changes := ETH_MODE_MODE.of w != ETH_MODE_MODE.of old || ETH_MODE_MEDIA.of w != ETH_MODE_MEDIA.of old
  if changes && spen != 0 then s.logDiscard (ETH_MODE.addr [p])
  else if ETH_MODE_MODE.of w = 3 then s
  else
    let gone := spen &&& (15 - ETH_MODE_SPEN.of w)
    ((s.spDisable p gone [0, 1, 2, 3]).wg ETH_MODE w [p]).fcCheck p

/-- ETH_MODE_WRITE (R253). -/
def execEthModeWrite (p : Nat) (who : Init) (v : Word) (s : State) : Host.Outcome State Fault Refusal :=
  .next (s.csrWrite ETH_MODE [p] who v fun t => t.ethModeWrite p v)

/-- SUBPORT_DISABLE (R253): a write of ETHn_MODE that clears one SPEN bit and keeps the rest. -/
def execSubportDisable (p sub : Nat) (who : Init) (s : State) : Host.Outcome State Fault Refusal :=
  let v := setFld (s.rg ETH_MODE [p]) (4 + sub % 4) (4 + sub % 4) 0
  .next (s.csrWrite ETH_MODE [p] who v fun t => t.ethModeWrite p v)

/-- ETH_LINK_CHANGE (R252, R253): a link partner set to a PHY answers, or is lost. LINK rises only where the partner is set to
the sub-port's own PHY, since it advertises no other and falls back to none; a fall sets DOWN_SEEN and aborts the frames in
flight. -/
def execEthLinkChange (p sub : Nat) (partner : Option EthPhy) (s : State) : Host.Outcome State Fault Refusal :=
  if !s.domOn .wired then .next s
  else if partner.isSome then
    if s.spEnabled p sub && !s.spLink p sub && partner == some (s.spPhy p sub) then
      .next ((s.fs ETH_SP_STATUS ETH_SP_STATUS_LINK 1 [p, sub]).logEv (0x20 + p) 0x04 0 (sub * 2 + 1))
    else .next s
  else if s.spLink p sub then
    let s1 := (s.fs ETH_SP_STATUS ETH_SP_STATUS_LINK 0 [p, sub]).fs ETH_SP_STATUS ETH_SP_STATUS_DOWN_SEEN 1 [p, sub]
    let s2 := s1.abortFlight p sub
    let e := s2.port p
    .next ((s2.setPort p { e with pauseQ := e.pauseQ.filter fun x => x.1 ≠ sub }).logEv (0x20 + p) 0x04 0 (sub * 2))
  else .next s

/-- WATCHDOG_TRIP (R262): a priority has stayed paused for WD_TIME µs while a frame of it was eligible. -/
def execWatchdogTrip (p sub prio : Nat) (s : State) : Host.Outcome State Fault Refusal :=
  let k := p * 4 + sub
  match ((s.port p).pauseOf sub prio).since with
  | some t =>
    let due := decide (t + s.fg ETH_SP_WD ETH_SP_WD_WD_TIME [p, sub] * 1000 ≤ s.now)
    let waits := (spQueues k).any fun q => s.qClass q == prio && s.headReady k q
    if s.flag ETH_SP_WD ETH_SP_WD_WD_EN [p, sub] && due && waits && !s.storm p sub prio then
      .next ((((s.setStorm p sub prio true).bump ETH_WD_TRIPS [p, sub])).logEv (0x20 + p) 0x04 0 (sub * 16 + prio))
    else .next s
  | none => .next s

/-! ## Host queues (R307, R92) -/

/-- The buffer offered first for a host queue. -/
def State.rxBuf (s : State) (h : Nat) : Option HCmd :=
  s.hif.cmds.find? fun c => c.op == 2 && c.target == h && c.started && c.done.isNone && !s.hostGone c.qp

/-- HOST_QUEUE_DELIVER (R307, R92): the head frame of a host queue goes to the buffer offered first; `reachable` says
whether host memory took it. -/
def execHostQueueDeliver (h : Nat) (reachable : Bool) (s : State) : Host.Outcome State Fault Refusal :=
  let q := 512 + h % 256
  let s1 := if s.domOn .wired then (s.cross 31 8).ageQueue q (s.tq q).frames.length else s
  match (s1.tq q).frames, s1.rxBuf (h % 256) with
  | e :: rest, some c =>
    let s2 := s1.setTq q { s1.tq q with frames := rest }
    let f := e.frame
    if c.len0 < f.len then
      .next ((s2.dropFrame f).hifDone c.qp c.cseq { status := stOversize, result := f.len })
    else
      let (s3, b, bad) := s2.frameBytes f
      match bad with
      | some a => .next ((s3.dropFrame f).hifDone c.qp c.cseq { status := stDeviceError, result := a })
      | none =>
        if reachable then
          .next (((s3.hostWrite c.addr0 b).dropFrame f).hifDone c.qp c.cseq
            { status := stOk, result := f.len, stampNs := f.stampNs, stampFrac := f.stampFrac })
        else .next ((s3.dropFrame f).hifDone c.qp c.cseq { status := stHostUnreachable })
  | _, _ => .next s1

end Sys2Proof.Machine
end

