-- ==== Sys2Proof/Machine/Skm.lean ====
section
/-! DEFINITION. The skimmer (chapter 12): the parse, classes, decision trees, the Toeplitz hash, indirection, and the
passes that turn frames into events. -/

namespace Sys2Proof.Machine

/-! ## The frame's first bytes (R273, R275) -/

/-- What a pass sees of a frame: its LENGTH, its first 64 bytes (bytes of uncorrectable words as 0) and which of them lie
in such words. -/
structure View where
  len : Nat
  head : Bytes
  bad : List Bool
  deriving DecidableEq, Repr

/-- The view of a frame. -/
def State.view (s : State) (f : Frame) : State × View :=
  let (s1, m) := s.runMarked (s.chain maxChain f.pail) 0 (min 64 f.len)
  (s1, { len := f.len, head := m.map Prod.fst, bad := m.map Prod.snd })

/-- REASON codes (Table SKM-2). -/
def rTrunc : Nat := 0x01
def rIpVer : Nat := 0x02
def rIpHlen : Nat := 0x03
def rIpLen : Nat := 0x04
def rL4Len : Nat := 0x05
def rTun : Nat := 0x06
def rUncorr : Nat := 0x07
def rHorizon : Nat := 0x10
def rTags : Nat := 0x11
def rExt : Nat := 0x12
def rInner : Nat := 0x13

/-- Why a header's checked bytes cannot be read, or 0. A byte of an uncorrectable word decides first, since such a pass is
UNCORR whatever else it parsed (R275). -/
def View.check (v : View) (off len : Nat) : Nat :=
  if ((v.bad.drop off).take len).any id then rUncorr
  else if v.len < off + len then rTrunc
  else if 64 < off + len then rHorizon
  else 0

/-- The parse result of Table SKM-3 as it is built up. -/
structure Pr where
  reason : Nat := 0
  hdrs : Nat := 0
  l3 : Nat := 0xFF
  l4 : Nat := 0xFF
  tun : Nat := 0xFF
  inner : Nat := 0xFF
  etype : Nat := 0
  otag : Nat := 0
  itag : Nat := 0
  proto : Nat := 0xFF
  flags : Nat := 0
  tunId : Nat := 0
  hlen : Nat := 0
  deriving DecidableEq, Repr

/-- A header has been parsed; it ends at `stop`. -/
def Pr.got (x : Pr) (bit stop : Nat) : Pr := { x with hdrs := x.hdrs ||| 2 ^ bit, hlen := stop }

/-- A header without checked bytes has been parsed. -/
def Pr.seen (x : Pr) (bit : Nat) : Pr := { x with hdrs := x.hdrs ||| 2 ^ bit }

/-- Set flag bits. -/
def Pr.flag (x : Pr) (v : Nat) (c : Bool) : Pr := if c then { x with flags := x.flags ||| v } else x

/-- Stop at a header that fails. -/
def Pr.fail (x : Pr) (r : Nat) : Pr := { x with reason := r }

/-- The parse options of a rule set. -/
structure POpts where
  vxlanPort : Nat
  capwapPort : Nat
  tpid3 : Nat
  vxlan : Bool
  capwap : Bool
  deriving DecidableEq, Repr

/-- A TPID the skimmer recognises. -/
def POpts.tpid (o : POpts) (v : Nat) : Bool := v == 0x8100 || v == 0x88A8 || (o.tpid3 != 0 && v == o.tpid3)

/-- Inner Ethernet. -/
def parseInner (o : POpts) (v : View) (x : Pr) (off : Nat) : Pr :=
  let r := v.check off 14
  if r ≠ 0 then x.fail r
  else
    let et := beAt v.head (off + 12) 2
    let y := { x.got 12 (off + 14) with inner := off }
    if o.tpid et || et == 0x0800 || et == 0x86DD then y.fail rInner else y

/-- VXLAN. -/
def parseVxlan (o : POpts) (v : View) (x : Pr) (off : Nat) : Pr :=
  let r := v.check off 8
  if r ≠ 0 then x.fail r
  else if !bitN (leAt v.head off 1) 3 then x.fail rTun
  else parseInner o v { x.got 10 (off + 8) with tun := off, tunId := beAt v.head (off + 4) 3 } (off + 8)

/-- CAPWAP: `upay` is the UDP payload, `data` says that the port is the data port. -/
def parseCapwap (o : POpts) (v : View) (x : Pr) (off upay : Nat) (data : Bool) : Pr :=
  let r := v.check off 1
  if r ≠ 0 then x.fail r
  else
    let p := leAt v.head off 1
    if p / 16 ≠ 0 then x.fail rTun
    else if p % 16 = 1 then { x.got 11 (off + 1) with tun := off }
    else
      let r4 := v.check off 4
      if r4 ≠ 0 then x.fail r4
      else
        let w := beAt v.head off 4
        let hl := bits w 23 19
        if hl < 2 ∨ upay < hl * 4 then x.fail rTun
        else
          let rh := v.check off (hl * 4)
          if rh ≠ 0 then x.fail rh
          else
            let y := { x.got 11 (off + hl * 4) with
              tun := off, tunId := bits w 13 9 + bits w 18 14 * 32 + bits w 8 8 * 1024 }
            if bitN w 7 then y.flag 1 true
            else if bitN w 8 || !data then y
            else parseInner o v y (off + hl * 4)

/-- TCP, UDP, ICMP and what UDP carries; `stop` is the end that the IP length gives. -/
def parseL4 (o : POpts) (v : View) (x : Pr) (off proto stop : Nat) : Pr :=
  let frag := bitN x.flags 0
  let room := stop - off
  if proto = 6 then
    let r := v.check off 20
    if r ≠ 0 then x.fail r
    else
      let d := leAt v.head (off + 12) 1 / 16
      if !frag && (decide (d < 5) || decide (room < d * 4)) then x.fail rL4Len
      else
        let fl := leAt v.head (off + 13) 1
        (({ x.got 7 (off + 4 * d) with l4 := off }).flag 4 (bitN fl 1)).flag 8 (bitN fl 0 || bitN fl 2)
  else if proto = 17 then
    let r := v.check off 8
    if r ≠ 0 then x.fail r
    else
      let n := beAt v.head (off + 4) 2
      if !frag && (decide (n < 8) || decide (room < n)) then x.fail rL4Len
      else
        let y := { x.got 8 (off + 8) with l4 := off }
        let port := beAt v.head (off + 2) 2
        if o.vxlan && port == o.vxlanPort then parseVxlan o v y (off + 8)
        else if o.capwap && (port == o.capwapPort || port == (o.capwapPort + 1) % 65536) then
          parseCapwap o v y (off + 8) (n - 8) (port != o.capwapPort)
        else if port = 319 ∨ port = 320 then y.seen 13
        else y
  else if proto = 1 ∨ proto = 58 then
    let r := v.check off 4
    if r ≠ 0 then x.fail r else { x.got 9 (off + 4) with l4 := off }
  else x

/-- IPv4. -/
def parseIp4 (o : POpts) (v : View) (x : Pr) (off : Nat) : Pr :=
  let r := v.check off 20
  if r ≠ 0 then x.fail r
  else
    let b0 := leAt v.head off 1
    let ihl := b0 % 16
    if b0 / 16 ≠ 4 then x.fail rIpVer
    else if ihl < 5 then x.fail rIpHlen
    else
      let r2 := v.check off (ihl * 4)
      if r2 ≠ 0 then x.fail r2
      else
        let tot := beAt v.head (off + 2) 2
        if tot < ihl * 4 ∨ v.len - off < tot then x.fail rIpLen
        else
          let fw := beAt v.head (off + 6) 2
          let y := { x.got 4 (off + ihl * 4) with l3 := off, proto := leAt v.head (off + 9) 1 }
          let z := ((y.flag 1 (bits fw 12 0 != 0 || bitN fw 13)).flag 2 (decide (5 < ihl))).flag 16
            (decide (leAt v.head (off + 8) 1 ≤ 1))
          if bits fw 12 0 ≠ 0 then z else parseL4 o v z (off + ihl * 4) z.proto (off + tot)

/-- A next header that is an IPv6 extension of Table SKM-1. -/
def isExt6 (nh : Nat) : Bool := nh == 0 || nh == 43 || nh == 44 || nh == 60

/-- IPv6 extensions, at most two more, then what follows them. -/
def parseExt6 (o : POpts) (v : View) (stop : Nat) : Nat → Pr → Nat → Nat → Pr
  | 0, x, off, nh => if isExt6 nh then x.fail rExt else parseL4 o v x off nh stop
  | k + 1, x, off, nh =>
    if isExt6 nh then
      let size :=
        if nh = 44 then 8
        else if off + 2 ≤ v.head.length then 8 * (leAt v.head (off + 1) 1 + 1)
        else 8
      let r := v.check off size
      if r ≠ 0 then x.fail r
      else
        let nxt := leAt v.head off 1
        let y := ({ x.got 6 (off + size) with proto := nxt }).flag 2 true
        if nh = 44 then
          let z := y.flag 1 true
          if beAt v.head (off + 2) 2 / 8 ≠ 0 then z else parseExt6 o v stop k z (off + size) nxt
        else parseExt6 o v stop k y (off + size) nxt
    else parseL4 o v x off nh stop

/-- IPv6. -/
def parseIp6 (o : POpts) (v : View) (x : Pr) (off : Nat) : Pr :=
  let r := v.check off 40
  if r ≠ 0 then x.fail r
  else if leAt v.head off 1 / 16 ≠ 6 then x.fail rIpVer
  else
    let pl := beAt v.head (off + 4) 2
    if pl = 0 ∨ v.len - off - 40 < pl then x.fail rIpLen
    else
      let nh := leAt v.head (off + 6) 1
      let y := ({ x.got 5 (off + 40) with l3 := off, proto := nh }).flag 16 (decide (leAt v.head (off + 7) 1 ≤ 1))
      parseExt6 o v (off + 40 + pl) 2 y (off + 40) nh

/-- What follows the last EtherType. -/
def parseType (o : POpts) (v : View) (x : Pr) (et off : Nat) : Pr :=
  if et < 0x0600 then x
  else
    let y := { x with etype := et }
    if et = 0x0806 then y.seen 3
    else if et = 0x88F7 then y.seen 13
    else if et = 0x888E then y.seen 14
    else if et = 0x0800 then parseIp4 o v y off
    else if et = 0x86DD then parseIp6 o v y off
    else y

/-- A tag's TCI as OTAG and ITAG show it. -/
def tagWord (tci : Nat) : Nat := tci % 4096 + tci / 8192 * 4096 + 32768

/-- Parse a frame (R273-R275). -/
def parse (o : POpts) (v : View) : Pr :=
  let x : Pr := {}
  let r := v.check 0 14
  if r ≠ 0 then x.fail r
  else
    let x0 := ((x.got 0 14).flag 32 (bitN (leAt v.head 0 1) 0)).flag 64 (beAt v.head 0 6 == 0xFFFFFFFFFFFF)
    let t0 := beAt v.head 12 2
    if !o.tpid t0 then parseType o v x0 t0 14
    else
      let r1 := v.check 14 4
      if r1 ≠ 0 then x0.fail r1
      else
        let x1 := { x0.got 1 18 with otag := tagWord (beAt v.head 14 2) }
        let t1 := beAt v.head 16 2
        if !o.tpid t1 then parseType o v x1 t1 18
        else
          let r2 := v.check 18 4
          if r2 ≠ 0 then x1.fail r2
          else
            let x2 := { x1.got 2 22 with itag := tagWord (beAt v.head 18 2) }
            let t2 := beAt v.head 20 2
            if o.tpid t2 then { x2 with etype := t2 }.fail rTags else parseType o v x2 t2 22

/-- CLASS: 0 NORMAL, 1 DEPTH, 2 MALFORMED. -/
def Pr.cls (x : Pr) : Nat := if x.reason = 0 then 0 else if 0x10 ≤ x.reason then 1 else 2

/-! ## The hash (R283, R284) -/

/-- The 68 bytes of SKM_HKEY. -/
def State.hashKey (s : State) : Bytes := ((List.range 17).map fun i => beBytes 4 (s.rg SKM_HKEY [i]).toNat).flatten

/-- The Toeplitz hash of an input whose bits are consumed most significant first, `key` being the key as a number of
`width` bits. -/
def toeplitzBits (key width : Nat) : List Bool → Nat → Nat → Nat
  | [], _, h => h
  | b :: t, i, h =>
    toeplitzBits key width t (i + 1) (if b then h ^^^ (key >>> (width - 32 - i)) % 2 ^ 32 else h)

/-- The bits of a byte, most significant first. -/
def msbBits (b : Byte) : List Bool := [7, 6, 5, 4, 3, 2, 1, 0].map fun i => b.getLsbD i

/-- The hash of up to 64 bytes under a key of 68 bytes. -/
def toeplitz (key input : Bytes) : Nat := toeplitzBits (beNat key) (8 * key.length) (input.flatMap msbBits) 0 0

/-- The hash input of a pass (Table SKM-6). -/
def State.hashInput (s : State) (v : View) (x : Pr) : Bytes :=
  let ip4 := bitN x.hdrs 4
  let ip6 := bitN x.hdrs 5
  let ports := (bitN x.hdrs 7 || bitN x.hdrs 8) && !bitN x.flags 0
  if ip4 then
    slice v.head (x.l3 + 12) 8 ++
      (if ports && s.flag SKM_HASH_CFG SKM_HASH_CFG_IP4_L4 then slice v.head x.l4 4 else [])
  else if ip6 then
    slice v.head (x.l3 + 8) 32 ++
      (if ports && s.flag SKM_HASH_CFG SKM_HASH_CFG_IP6_L4 then slice v.head x.l4 4 else [])
  else if s.flag SKM_HASH_CFG SKM_HASH_CFG_L2 then slice v.head 0 12
  else []

/-! ## Rule sets and trees (R278-R281, R288) -/

/-- The slot of a resident epoch. -/
def State.setSlot (s : State) (e : Nat) : Option Nat :=
  let cur := s.fg SKM_EPOCH SKM_EPOCH_CUR_SLOT
  if e ≠ 0 ∧ s.fg SKM_EPOCH SKM_EPOCH_CUR = e then some cur
  else if e ≠ 0 ∧ s.fg SKM_EPOCH SKM_EPOCH_OLD = e then some (1 - cur)
  else none

/-- The parse options of a slot. -/
def State.pOpts (s : State) (k : Nat) : POpts :=
  { vxlanPort := s.fg SKM_SET_PARSE SKM_SET_PARSE_VXLAN_PORT [k],
    capwapPort := s.fg SKM_SET_PARSE SKM_SET_PARSE_CAPWAP_PORT [k],
    tpid3 := s.fg SKM_SET_PARSE SKM_SET_PARSE_TPID3 [k],
    vxlan := s.flag SKM_SET_PARSE SKM_SET_PARSE_VXLAN_EN [k],
    capwap := s.flag SKM_SET_PARSE SKM_SET_PARSE_CAPWAP_EN [k] }

/-- KEY_LEN of a tree of a slot. -/
def State.treeKeyLen (s : State) (k t : Nat) : Nat := 8 * (s.fg SKM_SET_TREE0 SKM_SET_TREE0_KLEN [k, t] + 1)

/-- S, the bytes a rule takes (R279). -/
def ruleSize (klen : Nat) : Nat := 32 * ceilDiv (2 * klen + 8) 32

/-- How a walk ends (R280). -/
inductive Walk where
  | match_ (rule action : Nat)
  | none_
  | deep
  deriving DecidableEq, Repr

/-- Key bits POS to POS + WIDTH − 1, bit POS the most significant. -/
def keyField (key : Bytes) (pos width : Nat) : Nat :=
  (beNat key >>> (8 * key.length - pos - width)) % 2 ^ width

/-- A rule's bytes match a key. -/
def ruleHits (key r : Bytes) : Bool :=
  let n := key.length
  leAt r (2 * n + 4) 1 == 1 &&
    (List.range n).all fun j => getAt key j 0 &&& getAt r (n + j) 0 == getAt r j 0

/-- Count a bad node, rule or index. -/
def State.treeBad (s : State) : State := s.bump SKM_CNT_TREE_BAD

/-- Compare a leaf's rules in order, `left` levels being left. -/
def State.leafRules (s : State) (base nrules : Nat) (key : Bytes) : List Nat → Nat → State × Walk
  | [], _ => (s, .none_)
  | r :: t, left =>
    if nrules ≤ r then State.leafRules s.treeBad base nrules key t left
    else
      match left with
      | 0 => (s.bump SKM_CNT_TREE_DEEP, .deep)
      | n + 1 =>
        let a := base + r * ruleSize key.length
        let len := 2 * key.length + 8
        if !(inSram a && inSram (a + ruleSize key.length - 1)) then (s.treeBad, .none_)
        else
          let (s1, b, bad) := s.read a len 3
          if bad.isSome then ((s1.bump MEM_UE_FRAME).treeBad, .none_)
          else if ruleHits key b then (s1, .match_ r (leAt b (2 * key.length) 4))
          else State.leafRules s1 base nrules key t n

/-- Walk from a node, `left` levels being left (R278, R280). -/
def State.walkNode (s : State) (nodes base nrules : Nat) (key : Bytes) : Nat → Nat → State × Walk
  | 0, _ => (s.bump SKM_CNT_TREE_DEEP, .deep)
  | left + 1, node =>
    let a := nodes + 32 * node
    if !(inSram a) then (s.treeBad, .none_)
    else
      let (s1, b, bad) := s.read a 32 3
      let w := leAt b 0 8
      let typ := bits w 1 0
      if bad.isSome then ((s1.bump MEM_UE_FRAME).treeBad, .none_)
      else if typ = 0 then (s1, .none_)
      else if typ = 3 then (s1.treeBad, .none_)
      else if typ = 1 then
        let width := bits w 4 2 + 1
        let pos := bits w 16 8
        if 6 < width ∨ 8 * key.length < pos + width then (s1.treeBad, .none_)
        else State.walkNode s1 nodes base nrules key left (bits w 55 32 + keyField key pos width)
      else
        let count := bits w 4 2
        if count = 0 ∨ count = 7 then (s1.treeBad, .none_)
        else s1.leafRules base nrules key ((List.range count).map fun i => leAt b (8 + 2 * i) 2) left

/-- Look a key up in tree t of a slot (R280): at most 12 levels. -/
def State.treeWalk (s : State) (k t : Nat) (key : Bytes) : State × Walk :=
  let nrules := s.fg SKM_SET_TREE1 SKM_SET_TREE1_NRULES [k, t]
  if nrules = 0 then (s, .none_)
  else
    s.walkNode (s.fg SKM_SET_TREE0 SKM_SET_TREE0_NODE_BASE [k, t] * 32)
      (s.fg SKM_SET_TREE1 SKM_SET_TREE1_RULE_BASE [k, t] * 32) nrules key 12 0

/-- The bytes one key segment copies, each with whether it lies in an uncorrectable word (R281). `win` is the pass's
window: descriptor, parse result and head. -/
def segBytes (v : View) (win : Bytes) (x : Pr) (seg : Nat) : List (Byte × Bool) :=
  let base := seg % 8
  let off := bits seg 8 3
  let start := if base = 0 then 0 else if base = 1 then x.l3 else if base = 2 then x.l4 else if base = 3 then x.tun else x.inner
  (List.range (bits seg 12 9)).map fun j =>
    if base = 5 then
      let i := off + j
      if 56 ≤ i ∧ i ≤ 62 then (0, false) else (getAt win i 0, if 64 ≤ i then getAt v.bad (i - 64) false else false)
    else if start = 0xFF ∧ base ≠ 0 then (0, false)
    else if min 64 v.len ≤ start + off + j then (0, false)
    else (getAt v.head (start + off + j) 0, getAt v.bad (start + off + j) false)

/-- The automatic lookup's key of KEY_LEN bytes, marked. -/
def State.autoKey (s : State) (k : Nat) (v : View) (win : Bytes) (x : Pr) (klen : Nat) : List (Byte × Bool) :=
  let segs := [0, 1].flatMap fun h => [0, 1, 2, 3].map fun i => bits (s.rg SKM_SET_KSEG [k, h]).toNat (16 * i + 15) (16 * i)
  let b := (segs.flatMap (segBytes v win x)).take klen
  b ++ List.replicate (klen - b.length) (0, false)

/-! ## The pass (R271, R276, R277, R285) -/

/-- The 32 bytes of the parse result (Table SKM-3). -/
def Pr.pack (x : Pr) (cv action rule lookup : Nat) : Bytes :=
  leBytes 1 x.cls ++ leBytes 1 x.reason ++ leBytes 2 x.hdrs ++ leBytes 1 x.l3 ++ leBytes 1 x.l4 ++ leBytes 1 x.tun ++
    leBytes 1 x.inner ++ leBytes 2 x.etype ++ leBytes 2 x.otag ++ leBytes 2 x.itag ++ leBytes 1 x.proto ++
    leBytes 1 x.flags ++ leBytes 4 x.tunId ++ leBytes 4 cv ++ leBytes 4 action ++ leBytes 2 rule ++ leBytes 1 lookup ++
    leBytes 1 x.hlen

/-- A pass over a frame with its rule set: the frame with its hash and parse result, and the class (R271-R287). -/
def State.pass (s : State) (f : Frame) (k : Nat) : State × Frame × Nat :=
  let (s1, v) := s.view f
  let x := parse (s1.pOpts k) v
  let h := toeplitz s1.hashKey (s1.hashInput v x)
  let auto := s1.flag SKM_SET_CLASS SKM_SET_CLASS_AUTO_EN [k] && x.cls != 2
  let t := s1.fg SKM_SET_CLASS SKM_SET_CLASS_AUTO_TREE [k]
  let f0 := { f with hash := h, parse := x.pack f.rxcv 0 0 0 }
  let win := (Ev.desc { typ := if f.churn = 0 then 1 else 2, frame := some f0 }) ++ v.head
  let key := if auto then s1.autoKey k v win x (s1.treeKeyLen k t) else []
  let keyBad := key.any Prod.snd
  let x1 := if keyBad then { x with reason := rUncorr } else x
  let s2 := if x1.reason = rUncorr then s1.bump MEM_UE_FRAME else s1
  if auto && !keyBad then
    let (s3, w) := s2.treeWalk k t (key.map Prod.fst)
    let (act, rule, look) :=
      match w with | .match_ r a => (a, r, 1) | .none_ => (0, 0, 2) | .deep => (0, 0, 3)
    (s3, { f0 with parse := x1.pack f.rxcv act rule (look + 4 * t) }, x1.cls)
  else (s2, { f0 with parse := x1.pack f.rxcv 0 0 0 }, x1.cls)

/-- A frame dropped by the skimmer: its pails return and its chain is over. -/
def State.skmDrop (s : State) (f : Frame) : State := (s.dropFrame f).chainOver f.epoch f.indir

/-- A FRAME event steered by hash through entry i goes to the entry's context, or is held (R285, R286). -/
def State.steer (s : State) (i : Nat) (e : Ev) : State :=
  let c := s.fg SKM_INDIR SKM_INDIR_CTX [i]
  let ev := { e with pinned := some c, indir := some i, frame := e.frame.map fun f => { f with indir := some i } }
  let k := s.skm
  if k.hashHold then { s with skm := { k with heldEv := SMap.ins k.heldEv 512 (SMap.get k.heldEv 512 [] ++ [(i, ev)]) } }
  else if SMap.get k.moving i false then
    { s with skm := { k with heldEv := SMap.ins k.heldEv i (SMap.get k.heldEv i [] ++ [(i, ev)]) } }
  else ({ s with skm := { k with outstanding := SMap.ins k.outstanding i (SMap.get k.outstanding i 0 + 1) } }).raise ev

/-- Count a pass's class. -/
def State.countClass (s : State) (cls : Nat) : State :=
  if cls = 1 then s.bump SKM_CNT_DEPTH else if cls = 2 then s.bump SKM_CNT_MALFORMED else s

/-- The class action of a slot: 0 DISPATCH, 1 CONTEXT, 2 DROP. -/
def State.classAct (s : State) (k cls : Nat) : Nat :=
  if cls = 1 then s.fg SKM_SET_CLASS SKM_SET_CLASS_DEPTH_ACT [k]
  else if cls = 2 then s.fg SKM_SET_CLASS SKM_SET_CLASS_MAL_ACT [k]
  else 0

/-- A first pass: the frame takes the current epoch, and becomes a FRAME event or is dropped. -/
def State.firstPass (s : State) (f : Frame) : State :=
  let cur := s.fg SKM_EPOCH SKM_EPOCH_CUR
  let k := s.fg SKM_EPOCH SKM_EPOCH_CUR_SLOT
  let s0 := ({ s with skm := { s.skm with curCount := s.skm.curCount + 1 } }).bump SKM_CNT_FIRST_PASSES
  let (s1, g, cls) := s0.pass { f with epoch := cur, churn := 0 } k
  let s2 := s1.countClass cls
  let act := s2.classAct k cls
  let e : Ev := { typ := 1, source := f.source, arg := f.arg, length := f.len, frame := some g }
  if act = 2 then (s2.bump (if cls = 1 then SKM_CNT_DEPTH_DROP else SKM_CNT_MAL_DROP)).skmDrop g
  else if act = 1 then
    s2.raise { e with pinned := some (if cls = 1 then s2.fg SKM_SET_CLASS SKM_SET_CLASS_DEPTH_CTX [k]
      else s2.fg SKM_SET_CLASS SKM_SET_CLASS_MAL_CTX [k]) }
  else s2.steer (g.hash % 512) e

/-- A churn pass: with the set of the frame's epoch, the frame returns to the churning context or is dropped (R287). -/
def State.churnPass (s : State) (f : Frame) : State :=
  let k := (s.setSlot f.epoch).getD (s.fg SKM_EPOCH SKM_EPOCH_CUR_SLOT)
  let (s1, g, cls) := (s.bump SKM_CNT_CHURN_PASSES).pass { f with rxcv := 0 } k
  let s2 := s1.countClass cls
  if s2.classAct k cls = 2 then (s2.bump (if cls = 1 then SKM_CNT_DEPTH_DROP else SKM_CNT_MAL_DROP)).skmDrop g
  else
    s2.raise { typ := 2, pinned := some f.home, source := f.source, arg := f.arg, length := f.len, frame := some g,
               indir := f.indir }

/-- The first frame of a ring that the skimmer has not taken. -/
def State.ringHead (s : State) (p r : Nat) : Option Frame :=
  (SMap.get (s.port p).rings r []).find? fun f => !f.taken

/-- The next ring of a port with a frame, from a start, among the HIGH ones or the others (R259). -/
def State.nextRing (s : State) (p : Nat) (high : Bool) (start : Nat) : Option Nat :=
  ((List.range 16).map fun j => (start + j) % 16).find? fun r =>
    s.flag ETH_RING_CFG ETH_RING_CFG_HIGH [p, r] == high && (s.ringHead p r).isSome

/-- Take the next frame of a port's rings. -/
def State.takeRing (s : State) (p : Nat) : Option (State × Frame) :=
  let e := s.port p
  match ((s.nextRing p true e.rrHigh).map fun r => (r, true)).or ((s.nextRing p false e.rr).map fun r => (r, false)) with
  | none => none
  | some (r, hi) =>
    match s.ringHead p r with
    | none => none
    | some f =>
      let l := (SMap.get e.rings r []).map fun g => if g.pail = f.pail then { g with taken := true } else g
      let e1 := { e with rings := SMap.set e.rings r l [] }
      let e2 := if hi then { e1 with rrHigh := (r + 1) % 16 } else { e1 with rr := (r + 1) % 16 }
      some (s.setPort p e2, f)

/-- Take the next frame of an input. -/
def State.takeInput (s : State) (i : Nat) : Option (State × Frame) :=
  if i = 1 ∨ i = 2 then s.takeRing (i - 1)
  else
    match SMap.get s.skm.inputs i [] with
    | f :: t => some ({ s with skm := { s.skm with inputs := SMap.set s.skm.inputs i t [] } }, f)
    | [] => none

/-- The first input of a list that holds a frame. -/
def State.takeFirst (s : State) : List Nat → Option (State × Frame × Nat)
  | [] => none
  | i :: t => match s.takeInput i with | some (s1, f) => some (s1, f, i) | none => State.takeFirst s t

/-- The inputs in the order the skimmer looks at them: churn first, then round-robin after the last one served. -/
def skmOrder (last : Nat) : List Nat := 0 :: ((List.range 5).map fun j => (last + j) % 5 + 1)

/-- SKIMMER_PASS (R270, R271): the skimmer takes one frame, parses, looks up and hashes it, and dispatches it. -/
def execSkimmerPass (s : State) : Host.Outcome State Fault Refusal :=
  if s.domOn .wired && s.domOn .memory then
    match s.takeFirst (skmOrder s.skm.last) with
    | none => .next s
    | some (s1, f, i) =>
      let s2 := s1.contest 7 0 (512 + i)
      if i = 0 then .next (s2.churnPass f)
      else .next (({ s2 with skm := { s2.skm with last := i } }).firstPass f)
  else .next s

/-! ## Changes of indirection (R286) -/

/-- A change of SKM_INDIRi: events steered through it afterwards are held while earlier ones have not ended. -/
def State.indirWrite (s : State) (i : Nat) (v : Word) : State :=
  let c := SKM_INDIR_CTX.of v
  if 384 ≤ c then s.logDiscard (SKM_INDIR.addr [i])
  else if s.fg SKM_INDIR SKM_INDIR_CTX [i] = c then s
  else
    let busy := SMap.get s.skm.outstanding i 0 != 0 || !(SMap.get s.skm.heldEv i []).isEmpty
    let s1 := s.fs SKM_INDIR SKM_INDIR_CTX c [i]
    { s1 with skm := { s1.skm with moving := SMap.set s1.skm.moving i busy false } }

/-- SKM_INDIR_WRITE (R286). -/
def execSkmIndirWrite (i : Nat) (who : Init) (v : Word) (s : State) : Host.Outcome State Fault Refusal :=
  .next (s.csrWrite SKM_INDIR [i] who v fun t => t.indirWrite i v)

/-- Raise held events of an entry, in order, while they name one context. -/
def State.releaseHeld (s : State) (i c : Nat) : List (Nat × Ev) → State
  | [] => { s with skm := { s.skm with heldEv := SMap.del s.skm.heldEv i, moving := SMap.del s.skm.moving i } }
  | (j, e) :: t =>
    if e.pinned = some c then
      State.releaseHeld (({ s with skm := { s.skm with
        outstanding := SMap.ins s.skm.outstanding i (SMap.get s.skm.outstanding i 0 + 1) } }).raise e) i c t
    else { s with skm := { s.skm with heldEv := SMap.ins s.skm.heldEv i ((j, e) :: t) } }

/-- Steer events again after a hash change. -/
def State.resteer (s : State) : List (Nat × Ev) → State
  | [] => s
  | (i, e) :: t => State.resteer (s.steer i e) t

/-- INDIR_RELEASE (R286): the held dispatches of an entry, or with i = 512 those of a hash change, are released once
every earlier event has ended. -/
def execIndirRelease (i : Nat) (s : State) : Host.Outcome State Fault Refusal :=
  if i = 512 then
    if s.skm.hashHold && s.skm.outstanding.isEmpty then
      let l := SMap.get s.skm.heldEv 512 []
      .next (({ s with skm := { s.skm with hashHold := false, heldEv := SMap.del s.skm.heldEv 512 } }).resteer l)
    else .next s
  else if SMap.get s.skm.moving i false && SMap.get s.skm.outstanding i 0 == 0 then
    match SMap.get s.skm.heldEv i [] with
    | (j, e) :: t => .next (s.releaseHeld i (e.pinned.getD 0) ((j, e) :: t))
    | [] => .next { s with skm := { s.skm with moving := SMap.del s.skm.moving i } }
  else .next s

end Sys2Proof.Machine
end

