-- ==== Sys2Proof/Machine/Power.lean ====
section
/-! DEFINITION. The domains' transitions and the referee's grants (R388-R398, R443). -/

namespace Sys2Proof.Machine

/-! ## Domains -/

/-- Base and retention leave of a domain, mW (Table PWR-1). -/
def domBase (d : Dom) : Nat :=
  getAt [1800, 4000, 13000, 13000, 2600, 6000, 11800, 2000, 800, 8500, 12400, 2000, 11000] d.num 0
def domRet (d : Dom) : Nat := getAt [0, 0, 1000, 1000, 200, 300, 500, 200, 50, 500, 1500, 100, 400] d.num 0

/-- PWR_DOMd_CTL.TARGET. -/
def State.domTarget (s : State) (d : Dom) : Nat := s.fg PWR_DOM_CTL PWR_DOM_CTL_TARGET [d.num]

/-- Set STATE. -/
def State.setDom (s : State) (d : Dom) (v : Nat) : State := s.fs PWR_DOM_STATUS PWR_DOM_STATUS_STATE v [d.num]

/-- The leave a domain holds in the fixed sum. -/
def State.domHeld (s : State) (d : Dom) : Nat := SMap.get s.pwr.domLeave d.num 0

/-- Set it. -/
def State.setDomLeave (s : State) (d : Dom) (v : Nat) : State :=
  { s with pwr := { s.pwr with domLeave := SMap.set s.pwr.domLeave d.num v 0 } }

/-- Where a moving domain is going. -/
def State.moveOf (s : State) (d : Dom) : Option Move := SMap.get s.pwr.moves d.num none

/-- Set it. -/
def State.setMove (s : State) (d : Dom) (m : Option Move) : State :=
  { s with pwr := { s.pwr with moves := SMap.set s.pwr.moves d.num m none } }

/-- The host has placed programs of a domain in a core: its image takes PLAN events of the radio unit, or TELEM events
(Table ARC-8a, ○). -/
def State.placedIn (s : State) (d : Dom) (core : Nat) : Bool :=
  let img := s.coreImage core
  (s.core core).bound != 0 &&
    match d with
    | .rada => img.entryOf 3 != noEntry && bitN img.flags 0
    | .radb => img.entryOf 3 != noEntry && bitN img.flags 1
    | .radc => img.entryOf 3 != noEntry && bitN img.flags 2
    | .telem => img.entryOf 5 != noEntry
    | _ => false

/-- A domain requires another (Table ARC-8a). -/
def State.requires (s : State) (d e : Dom) : Bool :=
  match e with
  | .aon => d != .aon
  | .memory => decide (2 ≤ d.num) && d != .memory
  | .core0 => (List.range 48).any fun k => s.placedIn d k
  | .core1 => (List.range 48).any fun k => s.placedIn d (48 + k)
  | _ => false

/-- Every domain that `d` requires is on. -/
def State.depsOn (s : State) (d : Dom) : Bool := Dom.all.all fun e => !s.requires d e || s.domOn e

/-- Some domain that is not off requires `d`. -/
def State.needed (s : State) (d : Dom) : Bool := Dom.all.any fun e => e != d && s.domState e != 0 && s.requires e d

/-- The refusal of a write of TARGET, by Table PWR-2; 0 when the transition starts. `up` says that the domain passes
through on (R443). -/
def State.domRefusal (s : State) (d : Dom) (target : Nat) : Nat :=
  let up := target == 2 || s.domState d == 0
  if d.num < 2 then 1
  else if s.domState d = 3 then 2
  else if (if up then !s.depsOn d else s.needed d) then 3
  else if target ≠ 2 ∧ (s.kickDom d ∨ (d = .memory ∧ (List.range 8).any fun k => s.kState k != 0)) then 4
  else if d = .fabric ∧ target ≠ 2 ∧ (s.bndState = 1 ∨ s.bndState = 2 ∨ s.bndState = 5) then 5
  else 0

/-- A transition is refused: REJ, REJ_SEEN and an event. -/
def State.domReject (s : State) (d : Dom) (code : Nat) : State :=
  ((s.fs PWR_DOM_STATUS PWR_DOM_STATUS_REJ code [d.num]).fs PWR_DOM_STATUS PWR_DOM_STATUS_REJ_SEEN 1 [d.num]).logEv 1 0x02
    (0x8000000000 + PWR_DOM_CTL.addr [d.num]) d.num

/-! ## What a block does when its domain leaves on (R391) -/

/-- A frame is lost with its domain: its pails return and its chain of passes is over. -/
def State.loseFrame (s : State) (f : Frame) : State := (s.dropFrame f).chainOver f.epoch f.indir

/-- WIRED leaves on: every frame in the skimmer's queues, in the rings and in the TMG queues is lost, frames in flight are
aborted, and one event says how many were dropped (R272, R298). Frames from air keep waiting in MEMORY. -/
def State.wiredDown (s : State) : State :=
  let subs := [0, 1].flatMap fun p => [0, 1, 2, 3].map fun k => (p, k)
  let s0 := subs.foldl (fun (t : State) x => t.abortFlight x.1 x.2) s
  let ins := s0.skm.inputs.filter fun e => e.1 ≠ 3
  let held := s0.skm.heldEv.flatMap fun e => e.2.filterMap fun x => x.2.frame
  let rings := s0.eth.flatMap fun e => e.2.rings.flatMap fun r => r.2
  let queued := s0.tmg.qs.flatMap fun e => e.2.frames.map fun x => x.frame
  let fs := ins.flatMap (fun e => e.2) ++ held ++ rings ++ queued
  let s1 := fs.foldl (fun (t : State) f => t.loseFrame f) s0
  let s2 := { s1 with
    skm := { s1.skm with inputs := s1.skm.inputs.filter (fun e => e.1 = 3), heldEv := [] },
    eth := s1.eth.map (fun e => (e.1, { e.2 with rings := [] })),
    tmg := { s1.tmg with qs := s1.tmg.qs.map fun e => (e.1, { e.2 with frames := [], till := none }) } }
  if fs.isEmpty then s2 else s2.logEv 0x22 0x03 0 fs.length

/-- CIPHER leaves on: the operations it holds return DOMAIN_DOWN. -/
def State.cphDown (s : State) : State :=
  let ids := s.cph.wait ++ s.cph.issue.map (fun b => b.op) ++ s.cph.aes.map fun e => e.2.op
  let s1 := ids.foldl (fun (t : State) id => match t.openOp id with | some o => t.answerOp id o esDomainDown 0 true | none => t) s
  let s2 := s1.setCph { s1.cph with wait := [], issue := [], aes := [], expanding := [], count := 0, quiet := 0, retryAt := none }
  s2.fs CPH_STATUS CPH_STATUS_BURST_HELD 0 |>.cphView

/-- FABRIC leaves on: every link goes down, and the operations to every member end. -/
def State.fabDown (s : State) : State :=
  let s1 := (List.range 7).foldl (fun (t : State) l => t.setFlink l {}) s
  (s1.huddle true).unlock

/-- The PROGRAM leave of a core domain's contexts is returned, and their requests end REFUSED. -/
def State.coresLeave (s : State) (d : Dom) : State :=
  let mine := s.drk.ctxs.map fun e => (e.1, if Dom.ofCore (e.1 / 4) = d then { e.2 with grants := [] } else e.2)
  let s1 := { s with drk := { s.drk with ctxs := mine } }
  let ids := (s1.drk.ops.filter fun o => o.2.kind == .leave && o.2.res.isNone && Dom.ofCore (o.2.ctx / 4) == d).map Prod.fst
  ids.foldl (fun (t : State) id => match t.openOp id with | some o => t.answerOp id o esRefused 0 true | none => t) s1

/-- A context's events end with its core's domain: their pails return, and each is counted as dropped with its domain. -/
def State.ctxLost (s : State) (c : Nat) : State :=
  let x := s.ctx c
  let s1 := (x.fifo ++ x.held).foldl (fun (t : State) e => t.dropEvent e DRK_DROP_DOWN 1 (c / 4) c) s
  let s2 := if x.st = .running ∨ x.st = .waiting then ((s1.dropFrames x.owned).leaveEvent c true).bump DRK_DROP_DOWN else s1
  s2.setCtx c {}

/-- A core domain loses its contents: its contexts, local and shared memory and bound images (R402). -/
def State.coresLost (s : State) (d : Dom) : State :=
  let cs := (s.drk.ctxs.map Prod.fst).filter fun c => Dom.ofCore (c / 4) = d
  let s1 := cs.foldl (fun (t : State) c => t.ctxLost c) s
  let cores := s1.drk.cores.filter fun e => Dom.ofCore e.1 ≠ d
  let used := (cores.flatMap fun e => e.2.bound :: e.2.switching.toList) ++ s1.drk.loads.map fun x => x.num
  { s1 with drk := { s1.drk with
      cores, images := s1.drk.images.keep fun k => used.contains k,
      shared := s1.drk.shared.keep fun k => Dom.ofCore (k % 12 * 8) != d } }

/-- What the blocks of a domain do when it leaves on. -/
def State.blocksDown (s : State) (d : Dom) (off : Bool) : State :=
  match d with
  | .rada => s.radioDown 0
  | .radb => s.radioDown 1
  | .radc => s.radioDown 2
  | .spatial => s.speDown
  | .telem => if off then s.tlmDown else s.tlmStop
  | .wired => s.wiredDown
  | .memory => { s with memst := { s.memst with batch := none, dueAt := [] } }
  | .cipher => s.cphDown
  | .fabric => s.fabDown
  | .core0 => s.coresLeave .core0
  | .core1 => s.coresLeave .core1
  | _ => s

/-! ## Resets of a domain (R389, R402) -/

/-- A radio unit's reset: its own state, and its plan interface with REQ_SEQ from 0 (R165). -/
def State.radioReset (s : State) (x : Nat) : State := (s.setWbx x {}).setAu x { spWait := (s.au x).spWait }

/-- A domain's reset: its registers take their reset values, and its memories and queues are empty. -/
def State.domReset (s : State) (d : Dom) : State :=
  let s1 := { s with csr := s.csr.filter (fun e => !resetsWith d e.1) }
  match d with
  | .core0 => s1.coresLost .core0
  | .core1 => s1.coresLost .core1
  | .rada => s1.radioReset 0
  | .radb => s1.radioReset 1
  | .radc => s1.radioReset 2
  | .spatial => { s1 with spe := {} }
  | .telem => { s1 with tlm := {} }
  | .wired => { s1 with eth := [], skm := { inputs := s1.skm.inputs }, tmg := {} }
  | .memory => { s1.wipe with memst := {}, air := { base := s.now }, wmac := {} }
  | .cipher => { s1 with cph := { slots := s1.cph.slots, raises := s1.cph.raises } }
  | .fabric => { s1 with fab := {}, bnd := {} }
  | _ => s1

/-- The bench bits of a core domain clear when it turns on (R124). -/
def State.unbench (s : State) (d : Dom) : State :=
  (List.range 96).foldl (fun (t : State) n => if Dom.ofCore n = d ∧ t.benched n then t.setBenched n false else t) s

/-! ## Transitions (R390-R392, R443) -/

/-- Steps 1 to 3 of R391: STATE is moving, the blocks quiesce, their grants are returned and their requests withdrawn. -/
def State.goDown (s : State) (d : Dom) (toRet : Bool) : State :=
  let s0 := if d = .memory then s.scbEnd 0x03 0x3 else s
  let s1 := (s0.setDom d 3).blocksDown d (!toRet)
  let mine := fun (l : Leave) => leaveDom l == some d
  ((s1.giveBack mine).withdraw mine).setMove d (some (.down toRet))

/-- A transition to on begins: STATE is moving, and PWR asks for power-up leave; a refusal leaves the domain as it was. -/
def State.goUp (s : State) (d : Dom) (thenRet : Bool) : State :=
  let (s1, ok) := s.askLeave clsPowerUp (domBase d - s.domHeld d) 0 d.num
  if ok then ((s1.setDom d 3).fs PWR_DOM_STATUS PWR_DOM_STATUS_LEAVE_WAIT 1 [d.num]).setMove d (some (.waitLeave thenRet))
  else s1.domReject d 6

/-- A write of PWR_DOMd_CTL (R390, R443). -/
def State.domCtlWrite (s : State) (d : Dom) (who : Init) (v : Word) : State :=
  let t := PWR_DOM_CTL_TARGET.of v
  if t = 3 ∨ t = s.domState d then s
  else
    let s0 := s.contest 10 0 (who.contender + d.num)
    let code := s0.domRefusal d t
    if code ≠ 0 then s0.domReject d code
    else
      let s1 := if t = 2 ∨ s0.domState d = 0 then s0.goUp d (t == 1) else s0.goDown d (t == 1)
      if s1.domState d = 3 then s1.fs PWR_DOM_CTL PWR_DOM_CTL_TARGET t [d.num] else s1

/-- DOMAIN_TARGET_ON (R392): a write of TARGET = on. -/
def execDomainTargetOn (d : Nat) (who : Init) (s : State) : Host.Outcome State Fault Refusal :=
  .next (s.csrWrite PWR_DOM_CTL [d % 13] who 2 fun t => t.domCtlWrite (Dom.ofNum (d % 13)) who 2)

/-- DOMAIN_TARGET_RETENTION (R391, R443): a write of TARGET = retention. -/
def execDomainTargetRetention (d : Nat) (who : Init) (s : State) : Host.Outcome State Fault Refusal :=
  .next (s.csrWrite PWR_DOM_CTL [d % 13] who 1 fun t => t.domCtlWrite (Dom.ofNum (d % 13)) who 1)

/-- DOMAIN_TARGET_OFF (R391): a write of TARGET = off. -/
def execDomainTargetOff (d : Nat) (who : Init) (s : State) : Host.Outcome State Fault Refusal :=
  .next (s.csrWrite PWR_DOM_CTL [d % 13] who 0 fun t => t.domCtlWrite (Dom.ofNum (d % 13)) who 0)

/-- The domain counts as on; where R443 asks for retention, it goes on down at once. -/
def State.nowOn (s : State) (d : Dom) (thenRet : Bool) : State :=
  if thenRet then (s.setDom d 2).goDown d true
  else
    let s1 := (s.setDom d 2).setMove d none
    match d with
    | .fabric => s1.huddle false
    | .memory => { s1 with memst := { s1.memst with
        lastBatch := (List.range 8).map fun c => (c, s1.now) } }
    | _ => s1

/-! ## The referee (R396-R398) -/

/-- A waiting power-up request has been refused: the domain is as it was, with REJ NO_LEAVE. -/
def State.powerRefused (s : State) (d : Dom) : State :=
  let was := if s.domHeld d = 0 then 0 else 1
  let s1 := (s.setDom d was).fs PWR_DOM_STATUS PWR_DOM_STATUS_LEAVE_WAIT 0 [d.num]
  ((s1.fs PWR_DOM_CTL PWR_DOM_CTL_TARGET was [d.num]).setMove d none).domReject d 6

/-- A refused request is told to its requester (Table PWR-9). -/
def State.tellRefused (s : State) (l : Leave) : State :=
  if l.req = 0 then s.powerRefused (Dom.ofNum l.index)
  else if l.req = 1 then if l.cls = clsStanding then s.standingRefused l.index else s.soundRefused l.index l.amount
  else if l.req = 2 then s.planRefused l.index
  else if l.req = 3 then s.speRefused l.index
  else if l.req = 5 then s.burstRefused
  else if l.req = 6 then
    match s.openOp l.tag with
    | some o => s.answerOp l.tag o esRefused 0 true
    | none => s
  else s

/-- Refuse every queued request that can no longer fit (R398). -/
def State.settle_ (s : State) : State :=
  let (s1, bad) := s.refuseNoFit
  bad.foldl (fun (t : State) l => t.tellRefused l) s1

/-- A grant is told to its requester. -/
def State.tellGranted (s : State) (l : Leave) (id : Nat) : State :=
  if l.req = 0 then
    let d := Dom.ofNum l.index
    match s.moveOf d with
    | some (.waitLeave r) =>
      let s1 := (s.fs PWR_DOM_STATUS PWR_DOM_STATUS_LEAVE_WAIT 0 [d.num]).setMove d (some (.switchOn r))
      { s1 with pwr := { s1.pwr with onOrder := s1.pwr.onOrder ++ [d.num] } }
    | _ => s.returnId id
  else if l.req = 1 then if l.cls = clsStanding then (s.standingGranted l.index).settle_ else s.soundGranted l.index l.amount
  else if l.req = 2 then s.planGranted l.index
  else if l.req = 3 then s.speGranted l.index
  else if l.req = 4 then s.batchStart l.index
  else if l.req = 5 then s.burstGranted
  else
    match s.openOp l.tag with
    | some o =>
      let s1 := s.answerOp l.tag o esOk id true
      s1.setCtx o.ctx { s1.ctx o.ctx with grants := (s1.ctx o.ctx).grants ++ [id] }
    | none => s.returnId id

/-- LEAVE_GRANT (R396): the referee grants the waiting request that is next and fits. -/
def execLeaveGrant (s : State) : Host.Outcome State Fault Refusal :=
  match s.nextGrant with
  | some j =>
    match s.pwr.queue[j]? with
    | some l =>
      let (s1, id) := (s.contest 9 0 l.who).grantAt j l
      .next (s1.tellGranted l id)
    | none => .next s
  | none => .next s

/-- A write of PWR_REF_BUDGET. -/
def State.budgetWrite (s : State) (v : Word) : State :=
  let b := PWR_REF_BUDGET_BUDGET.of v
  if b < 20000 ∨ 1000000 < b then s.logDiscard (PWR_REF_BUDGET.addr []) else (s.plain PWR_REF_BUDGET [] v).settle_

/-- PWR_REF_BUDGET_WRITE (R398). -/
def execPwrRefBudgetWrite (who : Init) (v : Word) (s : State) : Host.Outcome State Fault Refusal :=
  .next (s.csrWrite PWR_REF_BUDGET [] who v fun t => t.budgetWrite v)

/-! ## The switches -/

/-- A granted domain switches on: its leave joins the fixed sum, and its domain reset takes effect if it was off. -/
def State.switchOn (s : State) (d : Dom) (thenRet : Bool) : State :=
  let wasOff := s.domHeld d == 0
  let s1 := (s.returnWhere fun l => l.cls == clsPowerUp && l.req == 0 && l.index == d.num).setDomLeave d (domBase d)
  let s2 := if wasOff then (s1.domReset d).unbench d else s1
  let s3 := if d = .memory ∧ wasOff then s2.setMove d (some (.fill thenRet)) else s2.nowOn d thenRet
  s3.settle_

/-- DOMAIN_SWITCH_ON (R392): switch-ons are made one at a time, in grant order. -/
def execDomainSwitchOn (d : Nat) (s : State) : Host.Outcome State Fault Refusal :=
  match s.pwr.onOrder with
  | k :: t =>
    match s.moveOf (Dom.ofNum d) with
    | some (.switchOn r) =>
      if k = d then .next ({ s with pwr := { s.pwr with onOrder := t } }.switchOn (Dom.ofNum d) r) else .next s
    | _ => .next s
  | [] => .next s

/-- The monitors of a domain read 0 (R39). -/
def State.monsZero (s : State) (d : Dom) : State :=
  (List.range 128).foldl (fun (t : State) i => if monDom i = d then t.fs PWR_PACE_MON PWR_PACE_MON_VALUE 0 [i] else t) s

/-- DOMAIN_SWITCH_DOWN (R391): the domain switches, STATE takes its new value, and its leave falls. -/
def execDomainSwitchDown (d : Nat) (s : State) : Host.Outcome State Fault Refusal :=
  let m := Dom.ofNum d
  match s.moveOf m with
  | some (.down r) =>
    let s1 := ((s.setDom m (b2n r)).setMove m none).setDomLeave m (if r then domRet m else 0)
    let s2 := s1.monsZero m
    .next (if r then s2 else if m = .core0 ∨ m = .core1 then s2.coresLost m else s2)
  | _ => .next s

/-- DRAM_INIT_DONE (R331): training and the zero fill end; MEMORY counts as on, and the firmware's start-up is over. -/
def execDramInitDone (s : State) : Host.Outcome State Fault Refusal :=
  match s.moveOf .memory with
  | some (.fill r) =>
    let s1 := (s.fs DRC_STATUS DRC_STATUS_INIT_DONE 1).nowOn .memory r
    let s2 := if s1.sec.boot = .firmware then (s1.setStage 2).setSec { (s1.setStage 2).sec with boot := .ready } else s1
    .next (s2.scbFlush s2.obs.staging.length)
  | _ => .next s

end Sys2Proof.Machine
end

