-- ==== Sys2Proof/Machine/Resets.lean ====
section
/-! DEFINITION. Resets of the whole device (R400-R402), the firmware's start (R60), and the start of a recording or a
replay (R413, R415). -/

namespace Sys2Proof.Machine

/-! ## The scorebook at a warm reset (R413, R415) -/

/-- The START record of this unit: PART, STEP, MODE, the time and MR1. -/
def State.scbStartWords (s : State) : List Word :=
  let low := s.fg SEC_PART_ID SEC_PART_ID_PART * 2 ^ 40 + s.fg SEC_PART_ID SEC_PART_ID_STEP * 2 ^ 36 +
    s.fg SCB_CTL SCB_CTL_MODE * 2 ^ 34
  scbHead 1 7 low :: BitVec.ofNat 64 s.now :: wordsOf (s.mr 1) 6

/-- A TIME record. -/
def State.scbTime (s : State) : State :=
  ({ s with obs := { s.obs with lastTime := s.now } }).scb [scbHead 2 0 s.now]

/-- A recording starts: START, then TIME. -/
def State.scbRecord (s : State) : State :=
  let s1 := ((s.fs SCB_STATUS SCB_STATUS_STATE 2).fs SCB_STATUS SCB_STATUS_CAUSE 0).wg SCB_HEAD 0
  let s2 := { s1 with obs := { s1.obs with
    staging := [], lastTime := s1.now, contend := [], cross := [], rcUps := [], rcReads := [], egress := 0, markDone := false } }
  (s2.scb s2.scbStartWords).scbTime

/-- The stream's START agrees with this unit on PART, STEP and MR1. -/
def State.replayMatches (s : State) : Bool :=
  let b := s.bytes (s.fg SCB_BUF SCB_BUF_BASE * 2 ^ 24) 64
  let w := leAt b 0 8
  bits w 63 60 == 1 && bits w 55 40 == s.fg SEC_PART_ID SEC_PART_ID_PART && bits w 39 36 == s.fg SEC_PART_ID SEC_PART_ID_STEP &&
    slice b 16 48 == slice (s.mr 1) 0 48

/-- The replay takes START, once it is supplied: a START that does not match stops it (cause 0x5); else the timebase, held from
now on, takes the recording's instant (R415, R416). -/
def State.repStart (s : State) : State :=
  if (s.rg SCB_TAIL).toNat < 64 then s
  else if !s.replayMatches then s.repStop 5 0
  else
    let b := s.bytes (s.fg SCB_BUF SCB_BUF_BASE * 2 ^ 24) 64
    let t := leAt b 8 8
    let r : Replay := { full := bits (leAt b 0 8) 35 34 == 2, base := t, start := t / 2, last := t }
    ({ s with tmb := { s.tmb with ns := BitVec.ofNat 64 t, frac := 0, prev := t, steps := [] } }.setRep r).wg SCB_HEAD 64

/-- A replay starts. -/
def State.scbReplay (s : State) : State :=
  (((s.fs SCB_STATUS SCB_STATUS_STATE 3).fs SCB_STATUS SCB_STATUS_CAUSE 0).wg SCB_HEAD 0).wg SCB_SUP_HEAD 0 |>.repStart

/-- An armed scorebook starts at the cause of a warm reset, and ARM clears; a replay keeps the buffers of the state before
(DESIGN CHOICE, assumption 158). -/
def State.scbStart (s before : State) : State :=
  if s.fg SCB_STATUS SCB_STATUS_STATE = 1 then
    let m := s.fg SCB_CTL SCB_CTL_MODE
    let s1 := s.fs SCB_CTL SCB_CTL_ARM 0
    if m = 0 then s1.fs SCB_STATUS SCB_STATUS_STATE 0
    else if m = 3 then
      { s1 with mem := before.mem.filter (fun c => before.inBufs c.1), chk := before.chk.filter (fun c => before.inBufs (c.1 * 32)) }.scbReplay
    else s1.scbRecord
  else s

/-! ## Warm reset (R401, Table PWR-7) -/

/-- Everything that a warm reset does not keep takes its reset value: registers whose reset source is more than power-on,
and every block's own state but the timebase, the AVS loop, SEC, the event log and the scorebook. -/
def State.cleared (s : State) : State :=
  { s with
    csr := s.csr.filter fun e => survivesWarm e.1
    latch := [], rdata := [], mem := [], chk := [], memst := {}
    sec := { s.sec with attPending := [], attServing := none }
    hif := { hostMem := s.hif.hostMem }
    drk := {}
    pwr := { pwrgd := s.pwr.pwrgd }
    eth := [], skm := {}, tmg := {}, cph := {}, air := {}, wmac := {}, wb := [], spe := {}, tlm := {}, fab := {}, bnd := {}
    kck := {} }

/-- The firmware runs from its start: STAGE is FIRMWARE, and MEMORY's power-up is asked. -/
def State.firmwareRuns (s : State) : State :=
  let s1 := (s.setStage 1).setSec { (s.setStage 1).sec with boot := .firmware }
  let s2 := s1.goUp .memory false
  s2.fs PWR_DOM_CTL PWR_DOM_CTL_TARGET 2 [10]

/-- The straps survive: the fabric identity is theirs. FABRIC is off, so FAB_LOCK is lost (R55). -/
def State.restrap (s : State) : State := (s.fs FAB_HUDDLE FAB_HUDDLE_SELF s.self).fs TMB_STATUS TMB_STATUS_FAB_LOCK 0

/-- What the management core does after a warm reset, by where start-up stood. -/
def State.reboot (s : State) : State :=
  match s.sec.boot with
  | .slots _ | .recovery => ((s.setFail 0 0).setFail 1 0).selectSlots
  | .firmware | .ready => s.firmwareRuns
  | _ => s

/-- The monitors of domains that are off after a reset read 0 (R39), and with FABRIC off no leader is followed (R55). -/
def State.offViews (s : State) : State :=
  (List.range 128).foldl (fun (t : State) i => if t.monLive i then t else t.wg PWR_PACE_MON 0 [i])
    (s.fs TMB_STATUS TMB_STATUS_FAB_LOCK 0)

/-- A warm reset (Table PWR-6). -/
def State.warm (s : State) : State :=
  let s1 := ((s.scbEnd 0x03 0x3).cleared.offViews.restrap).setRep {}
  (s1.scbStart s).reboot

/-- The cause of a warm reset is recorded; between the acceptance of an image and the firmware's start the reset waits
(R401). -/
def State.warmCause (s : State) (f : Fld) : State :=
  let s1 := (s.fs PWR_RST_CAUSE f 1).fs PWR_RST_CAUSE PWR_RST_CAUSE_COUNT (min 255 (s.fg PWR_RST_CAUSE PWR_RST_CAUSE_COUNT + 1))
  if s1.sec.boot = .accepted then s1.setSec { s1.sec with pendingWarm := true } else s1.warm

/-- A low pulse of `low` ns on PWRGD or RESET_N acts: at 1 µs or longer; from 0.5 to 1 µs as `whole` says (R437). -/
def pulseActs (low : Nat) (whole : Bool) : Bool := decide (1000 ≤ low) || (decide (500 ≤ low) && whole)

/-- RESET_PIN (R400). -/
def execResetPin (low : Nat) (whole : Bool) (s : State) : Host.Outcome State Fault Refusal :=
  .next (if pulseActs low whole then s.warmCause PWR_RST_CAUSE_PIN else s)

/-- A write of PWR_RESET. -/
def State.resetWrite (s : State) (v : Word) : State :=
  if PWR_RESET_KEY.of v = 0x5A17 then s.warmCause PWR_RST_CAUSE_HOST else s.logDiscard (PWR_RESET.addr [])

/-- PWR_RESET (R400). -/
def execPwrReset (who : Init) (v : Word) (s : State) : Host.Outcome State Fault Refusal :=
  .next (s.csrWrite PWR_RESET [] who v fun t => t.resetWrite v)

/-- WATCHDOG_EXPIRE (R400): the management core's firmware has not serviced its watchdog for 100 ms. -/
def execWatchdogExpire (s : State) : Host.Outcome State Fault Refusal :=
  .next (if s.sec.boot = .firmware ∨ s.sec.boot = .ready then s.warmCause PWR_RST_CAUSE_WDT else s)

/-! ## Power-on reset and start-up (R60, R400, R424, R425) -/

/-- Everything takes its reset value; what lies outside the device stays. -/
def State.powerOn (s : State) (testEn : Bool) : State :=
  let s1 := { s.cleared with
    csr := [], tmb := {}, pace := {}, fel := {}, obs := { msix := s.obs.msix }, tap := { testEn }, pwr := {},
    sec := { boot := if testEn then .stopped else .reset } }
  s1

/-- POWER_ON_RESET (R60, R400): PWRGD rises after a low; with TEST_EN high start-up does not begin (R420). -/
def execPowerOnReset (low : Nat) (whole testEn : Bool) (s : State) : Host.Outcome State Fault Refusal :=
  .next (if pulseActs low whole then s.powerOn testEn else s)

/-- PWRGD_FALL (R425): PWRGD falls ahead of the rails. -/
def execPwrgdFall (s : State) : Host.Outcome State Fault Refusal := .next { s with pwr := { s.pwr with pwrgd := false } }

/-- The ROM has begun, or start-up has stopped, so HOST may be powered. -/
def State.hostMay (s : State) : Bool :=
  !s.tap.testEn && s.domHeld .host == 0 &&
    (s.sec.boot != .reset && s.sec.boot != .strapped && s.sec.boot != .fused && s.sec.boot != .locked)

/-- HOST_POWER_ON (R60, R61): HOST is powered without leave, and its base leave counts. -/
def execHostPowerOn (s : State) : Host.Outcome State Fault Refusal :=
  .next (if s.hostMay then (s.setDomLeave .host 4000).settle_ else s)

/-- FIRMWARE_START (R60): MR1 and MR2 are extended, the alias key is derived and certified, the UDS is locked, and the
firmware starts with the AVS loop enabled; a warm reset that waited for it takes effect. -/
def execFirmwareStart (s : State) : Host.Outcome State Fault Refusal :=
  match s.sec.boot with
  | .accepted =>
    let s1 := s.deriveAlias
    let s2 := s1.avsCfgWrite (setFld (s1.rg PWR_AVS_CFG) PWR_AVS_CFG_ENABLE.hi PWR_AVS_CFG_ENABLE.lo 1)
    let s3 := s2.firmwareRuns
    .next (if s3.sec.pendingWarm then (s3.setSec { s3.sec with pendingWarm := false }).warm else s3)
  | _ => .next s

end Sys2Proof.Machine
end

