-- ==== Sys2Proof/Machine/CsrWrite.lean ====
section
/-! DEFINITION. Writes to registers: the effect of a written value on each register of the CSR space, the merging of partial
writes (R13), and a write on the device's bus (R11, R12, R20, R79, R394). -/

namespace Sys2Proof.Machine

/-! ## Partial writes (R13) -/

/-- The bits of a register that `n` bytes from byte `b` cover. -/
def byteMask (b n : Nat) : Word := BitVec.ofNat 64 ((2 ^ (8 * n) - 1) <<< (8 * b))

/-- A field lies whole within the bits written. -/
def Fld.covered (f : Fld) (m : Word) : Bool := fmask f.hi f.lo &&& m == fmask f.hi f.lo

/-- The whole value that a write of some bytes stands for: a field written whole takes the written bits, an RW field cut by the
write keeps its own, and nothing is cleared or set in the rest. -/
def mergeFlds (old v m : Word) : List Fld → Word
  | [] => 0
  | f :: t =>
    (if f.covered m then v &&& fmask f.hi f.lo else if f.acc = .rw then old &&& fmask f.hi f.lo else 0) |||
      mergeFlds old v m t

/-- A write discards itself that cuts a WO field, or that covers a part of an RW field that spans bit 32: nothing is written,
and no action takes place (R13). -/
def writeCut (m : Word) (l : List Fld) : Bool := l.any fun f =>
  !f.covered m && (f.acc == .wo ||
    f.acc == .rw && decide (f.lo < 32) && decide (31 < f.hi) && fmask f.hi f.lo &&& m != 0)

/-- The word that the fields a partial write leaves are taken from: the register's, or for AIR_TWTe_1 the value that waits for
the end of the entry's service period (R174). -/
def State.mergeBase (s : State) (r : Reg) (i : List Nat) : Word :=
  if r.off = AIR_TWT1.off then (SMap.get s.air.twts (getAt i 0 0) {}).conf.getD (s.rg r i) else s.rg r i

/-- The bits of no field that a register's own check looks at: those of HIF_QPn_CFG (R81). Every other register ignores them
(R12). -/
def reservedSeen (r : Reg) (m v : Word) : Word :=
  if r.off = HIF_QP_CFG.off then v &&& m &&& ~~~ (r.flds.foldl (fun x f => x ||| fmask f.hi f.lo) 0) else 0

/-! ## Registers with checks of their own -/

/-- Store a value that passes the register's check; discard and log one that does not. -/
def State.storeIf (s : State) (r : Reg) (i : List Nat) (v : Word) (ok : Bool) : State :=
  if ok then s.plain r i v else s.logDiscard (r.addr i)

/-- A benched core may be released: its monitor meets 60 % of its cluster's median (R124), or, in a replay, the stream says that
it was released (R416). -/
def State.backNow (s : State) (n : Nat) : Bool :=
  if s.replaying then s.obs.rep.items.any fun x => s.atTick x.1 && x.2 == .pace n 2 else s.paceBack n

/-- A write of DRK_BENCH_REL releases a core (R124). -/
def State.benchRel (s : State) (who : Init) (n : Nat) : State :=
  if who = .host && decide (n < 96) && s.benched n && s.backNow n then
    let s1 := (s.setBenched n false).paceOutcome n 2
    (ctxsOf n).foldl (fun t c => t.reassign c) { s1 with pace := { s1.pace with slow := SMap.del s1.pace.slow n } }
  else s.fs DRK_BENCH_STATUS DRK_BENCH_STATUS_REL_REJ 1

/-- The next value of a core's tag LFSR, x^32 + x^22 + x^2 + x + 1 (R407). -/
def lfsrNext (l : BitVec 32) : BitVec 32 :=
  (l <<< 1) ||| BitVec.ofNat 32 (b2n (((l.getLsbD 31 ^^ l.getLsbD 21) ^^ l.getLsbD 1) ^^ l.getLsbD 0))

/-- Draw the gap to a core's next tag. -/
def Core.drawTag (x : Core) (m : Nat) : Core :=
  let l := lfsrNext x.lfsr
  { x with lfsr := l, tagGap := 2 ^ (m - 1) + l.toNat % 2 ^ m }

/-- A write of PMC_TAG_CFG; EN := 1 seeds every core's LFSR (R407). -/
def State.tagCfgWrite (s : State) (v : Word) : State :=
  let m := PMC_TAG_CFG_MEAN_LOG2.of v
  if m < 6 ∨ 24 < m then s.logDiscard (PMC_TAG_CFG.addr [])
  else
    let was := s.flag PMC_TAG_CFG PMC_TAG_CFG_EN
    let s1 := s.plain PMC_TAG_CFG [] v
    if was || PMC_TAG_CFG_EN.of v == 0 then s1
    else
      (List.range 96).foldl (fun t n =>
        let seed : BitVec 32 := BitVec.ofNat 32 (PMC_TAG_CFG_SEED.of v ^^^ n)
        t.setCore n (Core.drawTag { t.core n with lfsr := seed, tag := none } m)) s1

/-- A write of PMC_TAG_RING (R407). -/
def State.tagRingWrite (s : State) (v : Word) : State :=
  let k := PMC_TAG_RING_SIZE_LOG2.of v
  s.storeIf PMC_TAG_RING [] v
    (!s.flag PMC_TAG_CFG PMC_TAG_CFG_EN && decide (7 ≤ k) && decide (k ≤ 20) &&
      rangeInMem (PMC_TAG_RING_BASE.of v * 4096) (32 * 2 ^ k))

/-- CLEAR sets every programmable counter to 0 (R406). -/
def State.pmcClear (s : State) : State :=
  { s with csr := s.csr.filter fun e =>
      match findReg e.1 with
      | some (r, _, _) => r.off ≠ PMC_CORE_CNT.off && r.off ≠ PMC_BLK_CNT.off
      | none => true }

/-- A write of PMC_CTL (R406). -/
def State.pmcCtlWrite (s : State) (v : Word) : State :=
  let s1 := s.plain PMC_CTL [] v
  if PMC_CTL_CLEAR.of v = 1 then s1.pmcClear else s1

/-- An RC counter stands at an offset of a block (R405). -/
def rcCounter (b off : Nat) : Bool :=
  match findReg (b * 0x100000 + off) with
  | some (r, _, byte) => byte == 0 && maskOf .rc r.flds != 0
  | none => false

/-- A scorebook buffer lies in DRAM data, with a size of 2^24 to 2^32 bytes (R414). -/
def scbBufOk (base size : Nat) : Bool :=
  decide (24 ≤ size) && decide (size ≤ 32) && inDram (base * 2 ^ 24) && decide (base * 2 ^ 24 + 2 ^ size ≤ 0x1C0000000)

/-- The scorebook is armed, recording or replaying. -/
def State.scbBusy (s : State) : Bool :=
  decide (1 ≤ s.fg SCB_STATUS SCB_STATUS_STATE) && decide (s.fg SCB_STATUS SCB_STATUS_STATE ≤ 3)

/-- A write of SCB_CTL (R413, R414): while armed only ARM := 0 is taken. -/
def State.scbCtlWrite (s : State) (v : Word) : State :=
  let st := s.fg SCB_STATUS SCB_STATUS_STATE
  let arm := SCB_CTL_ARM.of v
  if st = 2 ∨ st = 3 ∨ (st = 1 ∧ arm = 1) then s.logDiscard (SCB_CTL.addr [])
  else if st = 1 then (s.plain SCB_CTL [] v).fs SCB_STATUS SCB_STATUS_STATE 0
  else if arm = 1 then ((s.plain SCB_CTL [] v).fs SCB_STATUS SCB_STATUS_STATE 1).fs SCB_STATUS SCB_STATUS_CAUSE 0
  else s.plain SCB_CTL [] v

/-- A write of SCB_STOP: a host stop of a recording or of a replay (R413, Table OBS-7). -/
def State.scbStop (s : State) (v : Word) : State :=
  if SCB_STOP_STOP.of v = 0 then s
  else if s.recording then s.scbEnd 0x01 0x1
  else if s.fg SCB_STATUS SCB_STATUS_STATE = 3 then
    s.repStop 1 (s.rg SCB_HEAD).toNat
  else s

/-- A write of SCB_EVT_ACK; one that leaves ACK above TOTAL is discarded (R409). -/
def State.evtAck (s : State) (v : Word) : State :=
  if (s.rg SCB_EVT_TOTAL).toNat < v.toNat then s else s.wg SCB_EVT_ACK v

/-- A write of HIF_MSIX_CTRL: unmasking a vector with its pending bit set sends the message. -/
def State.msixCtlWrite (s : State) (n : Nat) (v : Word) : State :=
  (s.plain HIF_MSIX_CTRL [n] v).msixFlush [n]

/-- The bank of a gate-list register may be written: it is not active with GATE_EN, and no switch to it is pending (R308). -/
def State.bankFree (s : State) (k b : Nat) : Bool :=
  !(s.flag TMG_SP_GATE TMG_SP_GATE_GATE_EN [k] && s.fg TMG_SP_GATE TMG_SP_GATE_ACTIVE_BANK [k] == b) &&
    match (s.sp k).switch with
    | some (b', _) => b' != b
    | none => true

/-- A gate list's CYCLE and LEN are in range. -/
def hdrOk (v : Word) : Bool :=
  TMG_GCL_HDR1_CYCLE.of v != 0 && decide (1 ≤ TMG_GCL_HDR1_LEN.of v) && decide (TMG_GCL_HDR1_LEN.of v ≤ 256)

/-! ## A written value's effect, block by block -/

/-- Blocks SEC, PWR, TMB, KCK. -/
def State.writeTrust (s : State) (who : Init) (r : Reg) (i : List Nat) (v : Word) : State :=
  let i0 := getAt i 0 0
  if r.off = SEC_RCV_BASE.off then
    if s.sec.boot = .recovery then s.storeIf r i v (decide (SEC_RCV_BASE_PAGE.of v ≤ 16)) else s
  else if r.off = SEC_RCV_GO.off then s.rcvGo v
  else if r.off = SEC_EXT_DATA.off then s.wg r v i
  else if r.off = SEC_EXT_GO.off then s.extGo who v
  else if r.off = PWR_AVS_CFG.off then s.avsCfgWrite v
  else if r.off = PWR_DOM_CTL.off then s.domCtlWrite (Dom.ofNum i0) who v
  else if r.off = PWR_REF_BUDGET.off then s.budgetWrite v
  else if r.off = PWR_REF_CFG.off then s.storeIf r i v (PWR_REF_CFG_AGE.of v != 0)
  else if r.off = PWR_RESET.off then s.resetWrite v
  else if r.off = TMB_RATE.off then s.rateWrite v
  else if r.off = TMB_STEP.off then s.stepBy (sgn 64 v.toNat) (r.addr i)
  else if r.off = KCK_AREA.off then
    let a := KCK_AREA_BASE.of v * 2 ^ 25
    s.storeIf r i v ((List.range 8).all (fun k => s.kState k == 0) && inDram a && inDram (a + 2 ^ 25 - 1))
  else s.plain r i v

/-- Blocks HIF and DRK. -/
def State.writeHost (s : State) (who : Init) (r : Reg) (i : List Nat) (v : Word) : State :=
  let i0 := getAt i 0 0
  if r.off = HIF_BAR2_BASE.off then s.bar2Write v
  else if r.off = HIF_QP_CFG.off then s.qCfgWrite i0 v
  else if r.off = HIF_QP_SQ_BASE.off ∨ r.off = HIF_QP_CQ_BASE.off ∨ r.off = HIF_QP_SEQ_INIT.off then
    if s.flag HIF_QP_CFG HIF_QP_CFG_ENABLE [i0] then s else s.plain r i v
  else if r.off = HIF_QP_SQDB.off then s.sqDoorbell i0 v
  else if r.off = HIF_QP_CQDB.off then s.cqDoorbell i0 v
  else if r.off = HIF_MSIX_CTRL.off then s.msixCtlWrite i0 v
  else if r.off = DRK_BENCH_REL.off then s.benchRel who (DRK_BENCH_REL_CORE.of v)
  else s.plain r i v

/-- Blocks SCB and PMC. A write of a programmable counter takes effect before the increments of its tick, which are added to it
(R406). -/
def State.writeObs (s : State) (r : Reg) (i : List Nat) (v : Word) : State :=
  if r.off = SCB_CTL.off then s.scbCtlWrite v
  else if r.off = SCB_BUF.off then
    s.storeIf r i v (!s.scbBusy && scbBufOk (SCB_BUF_BASE.of v) (SCB_BUF_SIZE_LOG2.of v))
  else if r.off = SCB_SUP_BUF.off then
    s.storeIf r i v (!s.scbBusy && scbBufOk (SCB_SUP_BUF_BASE.of v) (SCB_SUP_BUF_SIZE_LOG2.of v))
  else if r.off = SCB_STOP.off then s.scbStop v
  else if r.off = SCB_EVT_ACK.off then s.evtAck v
  else if r.off = PMC_CTL.off then s.pmcCtlWrite v
  else if r.off = PMC_TAG_CFG.off then s.tagCfgWrite v
  else if r.off = PMC_TAG_RING.off then s.tagRingWrite v
  else if r.off = PMC_CORE_CFG.off then s.storeIf r i v (decide (PMC_CORE_CFG_EVENT.of v ≤ 0x12))
  else if r.off = PMC_CORE_CNT.off ∨ r.off = PMC_BLK_CNT.off then s.plain r i (v + BitVec.ofNat 64 (s.pmcNow (r.addr i)))
  else if r.off = PMC_BLK_SEL.off then s.storeIf r i v (rcCounter (getAt i 0 0) (4 * PMC_BLK_SEL_SEL.of v))
  else s.plain r i v

/-- Blocks AIR and WMAC. -/
def State.writeAir (s : State) (r : Reg) (i : List Nat) (v : Word) : State :=
  let i0 := getAt i 0 0
  if r.off = AIR_CTL.off then s.airCtlWrite v
  else if r.off = AIR_U_CFG.off then
    s.storeIf r i v (decide (1 ≤ AIR_U_CFG_PLAN_DEPTH.of v) && decide (AIR_U_CFG_PLAN_DEPTH.of v ≤ 4) &&
      decide (1 ≤ AIR_U_CFG_CAND_MAX.of v) && decide (AIR_U_CFG_CAND_MAX.of v ≤ 64) && AIR_U_CFG_PLAN_TTL.of v != 0)
  else if r.off = AIR_U_SLOT_BASE.off then
    let a := AIR_U_SLOT_BASE_ADDR.of v * 8192
    s.storeIf r i v (inSram a && inSram (a + 32767) && (List.range 4).all fun k => (s.pslot i0 k).st == 0)
  else if r.off = AIR_U_POST.off then s.planPost i0 v
  else if r.off = AIR_STA.off then s.staWrite i0 v
  else if r.off = AIR_TWT0.off then s.twtWrite i0 0 v
  else if r.off = AIR_TWT1.off then s.twtWrite i0 1 v
  else if r.off = AIR_QCFG0.off then s.qcfgWrite i0 0 v
  else if r.off = AIR_QCFG1.off then s.qcfgWrite i0 1 v
  else if r.off = WMAC_CTL.off then
    s.storeIf r i v (decide (16 ≤ WMAC_CTL_LEASE_LEN.of v) && decide (WMAC_CTL_LEASE_LEN.of v ≤ 512) &&
      WMAC_CTL_HOLD.of v != 0 && WMAC_CTL_REORDER_MAX.of v != 0 && WMAC_CTL_RETRY.of v != 0)
  else if r.off = WMAC_MGMT.off then s.storeIf r i v (decide (WMAC_MGMT_CTX.of v < 384))
  else if r.off = WMAC_EDCA.off then
    s.storeIf r i v (WMAC_EDCA_AIFSN.of v != 0 && decide (WMAC_EDCA_ECWMIN.of v ≤ WMAC_EDCA_ECWMAX.of v))
  else s.plain r i v

/-- Blocks WBA, WBB, WBC, SPE and FEL. -/
def State.writeRadio (s : State) (who : Init) (r : Reg) (i : List Nat) (v : Word) : State :=
  let i0 := getAt i 0 0
  if r.off = WB_CTL.off then s.wbCtlWrite i0 v
  else if r.off = WB_DET.off then s.detWrite i0 v
  else if r.off = WB_TXRAMP.off then s.rampWrite i0 v
  else if r.off = WB_SND_POST.off then s.sndPost who i0 v
  else if r.off = SPE_SUBMIT.off then s.speSubmit who v
  else if r.off = SPE_CFG.off then s.speCfgWrite v
  else if r.off = SPE_FB_BASE.off then s.fbBaseWrite v
  else if r.off = FEL_LINK_CTL.off then s.felCtlWrite i0 v
  else if r.off = FEL_TXLANE.off then s.laneWrite FEL_TXLANE FEL_TXLANE_UNIT FEL_TXLANE_LOGICAL i0 v
  else if r.off = FEL_RXLANE.off then s.laneWrite FEL_RXLANE FEL_RXLANE_UNIT FEL_RXLANE_LOGICAL i0 v
  else s.plain r i v

/-- Block TLM. -/
def State.writeTlm (s : State) (r : Reg) (i : List Nat) (v : Word) : State :=
  let i0 := getAt i 0 0
  if r.off = TLM_CTL.off then s.tlmCtlWrite v
  else if r.off = TLM_PROF.off then s.profWrite i0 v
  else if r.off = TLM_TIQ.off then s.tiqWrite v
  else if r.off = TLM_TXPOST.off then s.txPost v
  else if r.off = TLM_RXFREE.off then s.rxFree v
  else if r.off = TLM_NBR0.off then s.nbr0Write i0 v
  else if r.off = TLM_NBR1.off then s.nbr1Write i0 v
  else s.tlmRegWrite r i v

/-- A sub-port's configuration; a change of FC_MODE clears what its priorities were paused for (R252, R261). -/
def State.spCfgWrite (s : State) (p sub : Nat) (v : Word) : State :=
  let ok := decide (64 ≤ ETH_SP_CFG_MAXLEN.of v) && decide (ETH_SP_CFG_MAXLEN.of v ≤ 9604) &&
    ETH_SP_CFG_FC_MODE.of v != 3 && ETH_SP_CFG_FEC.of v != 3
  let s1 := s.storeIf ETH_SP_CFG [p, sub] v ok
  if ok && s.fcMode p sub != ETH_SP_CFG_FC_MODE.of v then (s1.clearPause p sub).fcCheck p else s1

/-- Blocks ETH0 and ETH1. -/
def State.writeEth (s : State) (r : Reg) (i : List Nat) (v : Word) : State :=
  let p := getAt i 0 0
  if r.off = ETH_MODE.off then s.ethModeWrite p v
  else if r.off = ETH_SP_CFG.off then s.spCfgWrite p (getAt i 1 0) v
  else if r.off = ETH_SP_WD.off then
    s.storeIf r i v (ETH_SP_WD_WD_TIME.of v != 0 && ETH_SP_WD_WD_REST.of v != 0 && ETH_SP_WD_XOFF_QUANTA.of v != 0)
  else if r.off = ETH_RING_CFG.off then
    let xoff := ETH_RING_CFG_XOFF.of v
    (s.storeIf r i v (ETH_RING_CFG_PAILS.of v != 0 && ETH_RING_CFG_DESC.of v != 0 && xoff != 0 &&
      decide (xoff ≤ ETH_RING_CFG_PAILS.of v) && decide (ETH_RING_CFG_XON.of v < xoff))).fcCheck p
  else if r.off = ETH_RING_FC.off then (s.plain r i v).fcCheck p
  else s.plain r i v

/-- Block SKM. `kick` says that a kickoff applies the value: only it may change the next rule set and the hash (R286,
R289). -/
def State.writeSkm (s : State) (r : Reg) (i : List Nat) (v : Word) (kick : Bool) : State :=
  let next := r.off = SKM_NEXT_PARSE.off ∨ r.off = SKM_NEXT_CLASS.off ∨ r.off = SKM_NEXT_KSEG.off ∨
    r.off = SKM_NEXT_TREE0.off ∨ r.off = SKM_NEXT_TREE1.off
  if r.off = SKM_INDIR.off then s.indirWrite (getAt i 0 0) v
  else if next then (if kick then s.wg r v i else s.logDiscard (r.addr i))
  else if r.off = SKM_HASH_CFG.off ∨ r.off = SKM_HKEY.off then
    (if kick then s.plain r i v else s.logDiscard (r.addr i))
  else s.plain r i v

/-- Block TMG. -/
def State.writeTmg (s : State) (r : Reg) (i : List Nat) (v : Word) : State :=
  let i0 := getAt i 0 0
  let i1 := getAt i 1 0
  if r.off = TMG_CTL.off then
    ((s.plain r i v).setStrict (TMG_CTL_STRICT_HOST.of v) (s.fg TMG_CTL TMG_CTL_STRICT_AUTO)).strictCheck
  else if r.off = TMG_SP_SHAPE.off then s.spShapeWrite i0 v
  else if r.off = TMG_Q_SHAPE.off then s.qShapeWrite i0 v
  else if r.off = TMG_Q_CFG.off then
    s.storeIf r i v (decide (1 ≤ TMG_Q_CFG_YLIMIT.of v) && decide (TMG_Q_CFG_YLIMIT.of v ≤ TMG_Q_CFG_LIMIT.of v) &&
      TMG_Q_CFG_MAXAGE.of v != 0)
  else if r.off = TMG_GCL_HDR0.off then s.storeIf r i v (s.bankFree i0 i1)
  else if r.off = TMG_GCL_HDR1.off then
    if s.bankFree i0 i1 && !hdrOk v then s else s.storeIf r i v (s.bankFree i0 i1)
  else if r.off = TMG_GCL_E.off then s.storeIf r i v (s.bankFree i0 i1)
  else if r.off = TMG_POL0.off then s.polWrite i0 0 v
  else if r.off = TMG_POL1.off then s.polWrite i0 1 v
  else s.plain r i v

/-- Block CPH. -/
def State.writeCph (s : State) (r : Reg) (i : List Nat) (v : Word) : State :=
  let k := getAt i 0 0
  if r.off = CPH_BURST.off then s.burstWrite v
  else if r.off = CPH_DONE.off then s.cphDone (CPH_DONE_JOB.of v)
  else if r.off = CPH_CFG.off then s.cphCfgWrite v
  else if r.off = CPH_KEY_MAT.off then s.keyMatWrite k (getAt i 1 0) v
  else if r.off = CPH_KEY_CTL.off then s.keyCtlWrite k v
  else if r.off = CPH_KEY_LIMIT.off then s.keyLimitWrite k v
  else if r.off = CPH_KEY_WARN.off then s.keyWarnWrite k v
  else s.plain r i v

/-- Blocks MEM and DRC. -/
def State.writeMem (s : State) (r : Reg) (i : List Nat) (v : Word) : State :=
  if r.off = MEM_PAIL_S0.off then s.pailWrite false 0 v
  else if r.off = MEM_PAIL_S1.off then s.pailWrite false 1 v
  else if r.off = MEM_PAIL_D0.off then s.pailWrite true 0 v
  else if r.off = MEM_PAIL_D1.off then s.pailWrite true 1 v
  else if r.off = MEM_SCRUB.off then s.scrubWrite v
  else if r.off = MEM_INJECT.off then s.injectWrite v
  else if r.off = DRC_ORDER.off then s.orderWrite (getAt i 0 0) v
  else if r.off = DRC_RT.off then s.rtWrite v
  else if r.off = DRC_WHISTLE.off then s.whistleWrite v
  else s.plain r i v

/-- Blocks FAB and BND. A FRAME copy is one step here, so none is ever in progress when FAB_INBOX is written. -/
def State.writeFab (s : State) (who : Init) (r : Reg) (i : List Nat) (v : Word) : State :=
  if r.off = FAB_CTL.off then s.fabCtlWrite v
  else if r.off = FAB_ATT.off then s.fabAttWrite who v
  else if r.off = FAB_INBOX.off then
    let k := FAB_INBOX_WIN_LOG2.of v
    s.storeIf r i v (decide (14 ≤ k) && decide (k ≤ 20) && rangeInMem (FAB_INBOX_BASE.of v * 2 ^ 20) (16 * 2 ^ k))
  else if r.off = BND_CTL.off then s.bndCtlWrite v
  else if r.off = BND_CFG.off then s.bndCfgWrite v
  else if r.off = BND_ATT.off then s.bndAttWrite who v
  else s.plain r i v

/-- The effect of a value written to a register. -/
def State.regWrite (s : State) (who : Init) (r : Reg) (i : List Nat) (v : Word) (kick : Bool) : State :=
  let b := r.off / 0x100000
  if b ≤ 4 then s.writeTrust who r i v
  else if b = 5 ∨ b = 6 then s.writeHost who r i v
  else if b = 7 ∨ b = 8 then s.writeObs r i v
  else if b = 0x10 ∨ b = 0x11 then s.writeAir r i v
  else if b ≤ 0x16 then s.writeRadio who r i v
  else if b = 0x18 then s.writeTlm r i v
  else if b = 0x20 ∨ b = 0x21 then s.writeEth r i v
  else if b = 0x22 then s.writeSkm r i v kick
  else if b = 0x23 then s.writeTmg r i v
  else if b = 0x24 then s.writeCph r i v
  else if b = 0x28 ∨ b = 0x29 then s.writeMem r i v
  else s.writeFab who r i v

/-! ## Writes on the bus -/

/-- A write by an initiator to `n` bytes, from byte `b`, of a register: decided at the register's arbiter (point 25), dropped
in a down domain (R394), discarded while a pending set holds the register (R350), and else merged (R13) and given its
effect. -/
def State.regPart (s : State) (who : Init) (r : Reg) (i : List Nat) (b n v : Nat) : State :=
  let a := r.addr i
  if s.domOn (r.domOf i) then
    let s1 := s.contest 25 (a / 0x100000) who.contender
    let m := byteMask b n
    let x := BitVec.ofNat 64 (v * 2 ^ (8 * b))
    s.guardWrite a who (if s1.kickHolds a (r.width / 8) then s1.logDiscard a
      else if writeCut m r.flds then s1
      else s1.regWrite who r i (mergeFlds (s1.mergeBase r i) x m r.flds ||| reservedSeen r m x) false)
  else s.guardWrite a who (s.downAccess (0x8000000000 + a + b) (r.domOf i) who true)

/-- A write into SEC's recovery window (R63). -/
def State.rcvWindow (s : State) (off n v : Nat) : State :=
  if s.sec.boot = .recovery then
    let at_ := s.fg SEC_RCV_BASE SEC_RCV_BASE_PAGE * 65536 + (off - 0x20000)
    s.setSec { s.sec with window := putHost s.sec.window at_ (leBytes n v) }
  else s

/-- The offsets where a table is shown, RO: SEC's measurement registers, DIK certificate and measurement log, its recovery
window, HIF's journal and SCB's event log. -/
def isWindow (off : Nat) : Bool :=
  (decide (0x1000 ≤ off) && decide (off < 0x1200) && decide (off % 0x40 < 48)) ||
    (decide (0x400 ≤ off) && decide (off < 0x4E0)) || (decide (0x2000 ≤ off) && decide (off < 0x12000)) ||
    (decide (0x20000 ≤ off) && decide (off < 0x30000)) || (decide (0x540000 ≤ off) && decide (off < 0x542000)) ||
    (decide (0x710000 ≤ off) && decide (off < 0x718000))

/-- A write at an offset of an assigned block where no register stands: unmapped, unless the block is down (R20, R394). -/
def State.emptyWrite (s : State) (who : Init) (off : Nat) : State × Bool :=
  if s.domOn (offDom off) then (s, false) else (s.downAccess (0x8000000000 + off) (offDom off) who true, true)

/-- A write of up to 8 bytes at a BAR0 offset; the second result is false for an unmapped access. An 8-byte write over two
32-bit registers writes both; where only one half of it meets a register, that half is written and the access counts as mapped
(DESIGN CHOICE, assumption 145). An empty offset of a down block is a down-block access (R20). -/
def State.csrStore (s : State) (who : Init) (off n v : Nat) : State × Bool :=
  if !blockAssigned (off / 0x100000) then (s, false)
  else if 0x20000 ≤ off ∧ off < 0x30000 then (s.rcvWindow off n v, true)
  else if isWindow off then
    let d := blockDom (off / 0x100000)
    (if s.domOn d then s else s.downAccess (0x8000000000 + off) d who true, true)
  else
    match findReg off with
    | some (r, i, b) =>
      let m := min n (r.width / 8 - b)
      let s1 := s.regPart who r i b m v
      if m < n then
        match findReg (off + m) with
        | some (r2, i2, b2) => (s1.regPart who r2 i2 b2 (n - m) (v / 2 ^ (8 * m)), true)
        | none => (s1, true)
      else (s1, true)
    | none =>
      if n = 8 then
        match findReg (off + 4) with
        | some (r2, i2, b2) => (s.regPart who r2 i2 b2 4 (v / 2 ^ 32), true)
        | none => s.emptyWrite who off
      else s.emptyWrite who off

/-- A device address lies in the CSR space (Table ARC-2). -/
def inCsr (a : Nat) : Bool := decide (0x8000000000 ≤ a) && decide (a < 0x8004000000)

/-- A write of `n` bytes at a device address outside the fabric window; the second result is false for an unmapped
access, which is logged (R20). Host writes are recorded (R412), and during a replay only those to SCB and those that supply its
buffers take effect (R415, R416). -/
def State.busWrite (s : State) (who : Init) (a n v : Nat) : State × Bool :=
  let s0 := if who = .host then s.hostw a (BitVec.ofNat 64 v) n else s
  if who = .host && s0.deaf && !(inCsr a && a / 0x100000 % 0x40 == 7) && !s0.inScbBuf a then (s0, true)
  else if inMem a then
    if s0.domOn .memory then (((s0.memContest a who).write a (leBytes n v)).1.readyStored a n, true) else (s0.downAccess a .memory who true, true)
  else if inCsr a then
    let (s1, ok) := s0.csrStore who (a - 0x8000000000) n v
    if ok then (s1, true) else (s1.unmapped a who, false)
  else (s0.unmapped a who, false)

/-- CSR_WRITE: a write of `n` bytes (1, 2, 4 or 8) at a BAR0 offset, the offset aligned to its size. -/
def execCsrWrite (who : Init) (off n : Nat) (v : Word) (s : State) : Host.Outcome State Fault Refusal :=
  .next (s.busWrite who (0x8000000000 + off % 0x4000000) n v.toNat).1

/-- BAR2_WRITE: a host write through BAR2 to the window that HIF_BAR2_BASE selects (R79): SRAM and DRAM data are reached, at
device address WIN × 1 GiB + the offset. -/
def execBar2Write (off n : Nat) (v : Word) (s : State) : Host.Outcome State Fault Refusal :=
  .next (s.busWrite .host (s.fg HIF_BAR2_BASE HIF_BAR2_BASE_WIN * 2 ^ 30 + off % 2 ^ 30) n v.toNat).1

/-- DRK_BENCH_REL: a write of a core index (R124). -/
def execDrkBenchRel (who : Init) (v : Word) (s : State) : Host.Outcome State Fault Refusal :=
  .next (s.csrWrite DRK_BENCH_REL [] who v fun t => t.benchRel who (DRK_BENCH_REL_CORE.of v))

/-- SCB_EVT_ACK_WRITE (R409). -/
def execScbEvtAckWrite (who : Init) (v : Word) (s : State) : Host.Outcome State Fault Refusal :=
  .next (s.csrWrite SCB_EVT_ACK [] who v fun t => t.evtAck v)

/-- SCB_STOP (R413). -/
def execScbStop (who : Init) (v : Word) (s : State) : Host.Outcome State Fault Refusal :=
  .next (s.csrWrite SCB_STOP [] who v fun t => t.scbStop v)

/-- PMC_FREEZE: a write of PMC_CTL with its FREEZE bit (R406). -/
def execPmcFreeze (who : Init) (freeze : Bool) (s : State) : Host.Outcome State Fault Refusal :=
  let v : Word := BitVec.ofNat 64 (b2n freeze)
  .next (s.csrWrite PMC_CTL [] who v fun t => t.pmcCtlWrite v)

/-- PMC_CLEAR: a write of PMC_CTL with CLEAR = 1, and FREEZE as it stands (R406). -/
def execPmcClear (who : Init) (s : State) : Host.Outcome State Fault Refusal :=
  let v : Word := setFld (s.rg PMC_CTL) 1 1 1
  .next (s.csrWrite PMC_CTL [] who v fun t => t.pmcCtlWrite v)

end Sys2Proof.Machine
end

