-- ==== Sys2Proof/Machine/CsrRead.lean ====
section
/-! DEFINITION. Reads of registers: the value each register shows, the read-and-clear of RC fields and the latch of split reads
(R11, R13, R14), and a read on the device's bus (R20, R394). -/

namespace Sys2Proof.Machine

/-! ## Registers that show other state -/

/-- A word built from fields. -/
def packFlds : List (Fld × Nat) → Word
  | [] => 0
  | (f, x) :: t => setFld (packFlds t) f.hi f.lo x

/-- The event a FIFO occupancy code stands for (DRK_COREn_STATE.FIFO). -/
def fifoCode (n : Nat) : Nat := if n = 0 then 0 else if n < 4 then 1 else if n < 8 then 2 else 3

/-- A context's CTX_STATE code. -/
def CtxSt.code : CtxSt → Nat
  | .idle => 0 | .running => 1 | .waiting => 2 | .unbound => 3

/-- DRK_COREn_STATE (R125). -/
def State.coreStateView (s : State) (n : Nat) : Word :=
  let each (f : Ctx → Nat) : Nat := ((List.range 4).map fun c => f (s.ctx (4 * n + c)) * 4 ^ c).sum
  let v := s.rg DRK_CORE_STATE [n]
  let v1 := setFld v 15 0 (if (s.core n).bound = 0 then 0 else (s.coreImage n).id)
  setFld (setFld v1 39 32 (each fun x => x.st.code)) 47 40 (each fun x => fifoCode x.fifo.length)

/-- A leave as ADM_GRANTi and ADM_QUEUEj show it, with the number their lowest 16 bits hold. -/
def leaveView (l : Leave) (low : Nat) : Word :=
  BitVec.ofNat 64 (low % 65536 + l.cls % 16 * 2 ^ 16 + 2 ^ 20 + l.amount % 2 ^ 20 * 2 ^ 24 + l.req % 16 * 2 ^ 44 +
    l.index % 65536 * 2 ^ 48)

/-- TMG_Qq_STATE.STATE (Table TMG-2). -/
def State.tmgQState (s : State) (q : Nat) : Nat :=
  let x := s.tq q
  if x.frames.isEmpty then 0 else if x.till.isSome then 2 else if s.headReady (q / 64) q then 1 else 3

/-- A lease as WMAC_LEASEi_0 shows it. -/
def leaseView (l : Lease) : Word :=
  BitVec.ofNat 64 (l.handle % 65536 + l.tid % 8 * 2 ^ 16 + 2 ^ 19 + b2n l.recalled * 2 ^ 20 + l.sn % 4096 * 2 ^ 24 +
    (l.len - 1) % 512 * 2 ^ 36 + l.used % 1024 * 2 ^ 45)

/-- The plan slots of a unit in a state, as a map of 4 bits. -/
def State.slotMap (s : State) (x st : Nat) : Nat :=
  ((List.range 4).map fun k => if (s.pslot x k).st = st then 2 ^ k else 0).sum

/-- Blocks SEC to PMC: the registers that show other state. -/
def State.viewLow (s : State) (r : Reg) (i : List Nat) : Word :=
  let i0 := getAt i 0 0
  if r.off = TMB_TIME.off then s.tmb.ns
  else if r.off = PWR_REF_STATUS.off then
    packFlds [(PWR_REF_STATUS_FIXED, s.fixedSum), (PWR_REF_STATUS_GRANTED, s.grantedSum),
      (PWR_REF_STATUS_QUEUED, s.pwr.queue.length)]
  else if r.off = PWR_REF_CLASS.off then BitVec.ofNat 64 (s.classHeld (i0 + 1))
  else if r.off = ADM_ISSUED.off then BitVec.ofNat 64 s.pwr.issued
  else if r.off = ADM_GRANT.off then
    match SMap.find s.pwr.grants i0 with
    | some l => leaveView l l.id
    | none => 0
  else if r.off = ADM_QUEUE.off then
    match s.pwr.queue[i0]? with
    | some l => leaveView l (min 65535 ((s.now - l.since) / 1000))
    | none => 0
  else if r.off = KCK_SET.off then
    let k := s.kset i0
    packFlds [(KCK_SET_ITEMS, k.items.length), (KCK_SET_IMAGES, k.images.length), (KCK_SET_STATE, s.kState i0),
      (KCK_SET_FABRIC, if s.kState i0 = 2 then b2n k.fabric else 0)]
  else if r.off = KCK_SET1.off then (if s.kState i0 = 2 then BitVec.ofNat 64 (s.kset i0).instant else 0)
  else if r.off = DRK_CORE_STATE.off then s.coreStateView i0
  else s.rg r i

/-- Blocks AIR to TLM: the registers that show other state. -/
def State.viewAir (s : State) (r : Reg) (i : List Nat) : Word :=
  let i0 := getAt i 0 0
  if r.off = AIR_QST0.off then
    let fs := (s.aq i0).frames
    packFlds [(AIR_QST0_FRAMES, fs.length), (AIR_QST0_STATE, s.aqState i0), (AIR_QST0_BYTES, (fs.map fun f => f.frame.len).sum)]
  else if r.off = AIR_QST1.off then
    if s.creditQ i0 then BitVec.ofInt 64 (s.credNow i0 / 65536) else BitVec.ofNat 64 (s.aq i0).tag
  else if r.off = AIR_U_STATUS.off then
    packFlds [(AIR_U_STATUS_PENDING, s.slotMap i0 1), (AIR_U_STATUS_READY, s.slotMap i0 2), (AIR_U_STATUS_IN_USE, s.slotMap i0 3)]
  else if r.off = WMAC_CTX.off then BitVec.ofNat 64 (s.cwSeen i0 (getAt i 1 0))
  else if r.off = WMAC_LEASE0.off then
    match SMap.find s.wmac.leases i0 with
    | some l => leaseView l
    | none => 0
  else if r.off = WMAC_LEASE1.off then
    match SMap.find s.wmac.leases i0 with
    | some l => BitVec.ofNat 64 (l.pn % 2 ^ 48)
    | none => 0
  else if r.off = WB_SND_STATUS.off then BitVec.ofNat 64 (s.wbx i0).sounds.length
  else if r.off = SPE_STATUS.off then
    packFlds [(SPE_STATUS_QUEUED, s.spe.queue.length), (SPE_STATUS_RUNNING, s.spe.lanes.length)]
  else if r.off = TLM_ASN.off then
    match s.asnNow with
    | some a => BitVec.ofNat 64 a
    | none => s.rg r i
  else if r.off = TLM_BUFSTAT.off then
    packFlds [(TLM_BUFSTAT_TX_PEND, s.tlm.tx.length), (TLM_BUFSTAT_RX_FREE, 512 - s.tlm.rxSt.length)]
  else s.rg r i

/-- Blocks ETH0 to BND: the registers that show other state. -/
def State.viewHigh (s : State) (who : Init) (r : Reg) (i : List Nat) : Word :=
  let i0 := getAt i 0 0
  if r.off = ETH_RING_STATE.off then
    packFlds [(ETH_RING_STATE_PAILS_USED, s.ringPails i0 (getAt i 1 0)), (ETH_RING_STATE_FRAMES, s.ringFrames i0 (getAt i 1 0))]
  else if r.off = ETH_TXTS_POP_NS.off then BitVec.ofNat 64 (SMap.get (s.port i0).popNs who.key 0)
  else if r.off = TMG_Q_STATE.off then
    let fs := (s.tq i0).frames
    packFlds [(TMG_Q_STATE_FRAMES, fs.length), (TMG_Q_STATE_STATE, s.tmgQState i0),
      (TMG_Q_STATE_BYTES, (fs.map fun f => f.frame.len).sum)]
  else if r.off = TMG_Q_TOK.off then
    packFlds [(TMG_Q_TOK_TOKENS, unsgn 32 (s.qTok i0 / 65536)), (TMG_Q_TOK_DEFICIT, (s.tq i0).deficit)]
  else if r.off = TMG_SP_TOK.off then BitVec.ofNat 64 (unsgn 32 (s.spTok i0 / 65536))
  else if r.off = TMG_POL2.off then
    let p := s.polNow i0
    packFlds [(TMG_POL2_TC, p.tc / 65536), (TMG_POL2_TP, p.tp / 65536)]
  else if r.off = TMG_SP_GATE.off then setFld ((s.openView i0).rg r i) 31 16 (s.guardTime i0)
  else if r.off = MEM_PAIL_FREE.off then packFlds [(MEM_PAIL_FREE_FREE_S, s.freeS), (MEM_PAIL_FREE_FREE_D, s.freeD)]
  else if r.off = DRC_STATUS.off then s.whView.rg r i
  else if r.off = FAB_HUDDLE.off then setFld (s.rg r i) 23 20 s.self
  else if r.off = FAB_ROUTE.off then setFld (s.rg r i) 26 16 (s.opsTo i0).length
  else if r.off = BND_STATUS.off then setFld (s.rg r i) 7 4 s.twin
  else if r.off = BND_MCTX.off && s.bnd.taken.contains i0 then s.rg WMAC_CTX i
  else s.rg r i

/-- The value a register shows: WO fields and reserved bits read as 0 (R11, R12). -/
def State.regView (s : State) (who : Init) (r : Reg) (i : List Nat) : Word :=
  let b := r.off / 0x100000
  let v := if b ≤ 8 then s.viewLow r i else if b < 0x20 then s.viewAir r i else s.viewHigh who r i
  v &&& ~~~ maskOf .wo r.flds

/-! ## Read and clear -/

/-- Clear the RC fields among the bits a read takes; the read meets their updates of its instant (R14). -/
def State.rcClear (s : State) (r : Reg) (i : List Nat) (m : Word) : State :=
  let rc := maskOf .rc r.flds &&& m
  if rc = 0 then s
  else
    let s1 := s.rcRead (r.addr i)
    s1.wg r (s1.rg r i &&& ~~~ rc) i

/-- A side effect of reading: a timebase read that takes bytes of the lower half latches its fraction (R51), and ETHn_TXTS_POP
takes a stamp (R267). -/
def State.readEffect (s : State) (who : Init) (r : Reg) (i : List Nat) (b : Nat) : State × Word :=
  if r.off = TMB_TIME.off then ((if b < 4 then (s.cross 38 0).latchFrac who.key else s.cross 38 0), s.tmb.ns)
  else if r.off = TMB_TIME_FRAC.off then (s, BitVec.ofNat 64 (SMap.get s.tmb.fracLatch who.key 0))
  else if r.off = ETH_TXTS_POP.off then s.txtsPop (getAt i 0 0) who
  else if r.off / 0x100000 = 2 then (s.contest 9 0 who.contender, s.regView who r i)
  else (s, s.regView who r i)

/-- The reads the scorebook records the values of (R412): of PMC, TMB and the pace registers. -/
def recordsValue (off : Nat) : Bool :=
  off / 0x100000 == 8 || off / 0x100000 == 3 || off == PWR_PACE_STATUS.off ||
    (decide (PWR_PACE_MON.off ≤ off) && decide (off < PWR_PACE_MON.off + 512))

/-- What a read of `n` bytes of a down block returns: the bytes of 0x0BAD_0FF0, repeated, that it covers (R394). -/
def downValue (a n : Nat) : Nat := 0x0BAD0FF00BAD0FF0 / 2 ^ (8 * (a % 4)) % 2 ^ (8 * n)

/-- A read by an initiator of `n` bytes, from byte `b`, of a register (R13): a lower half latches the upper one, an upper
half takes what is latched for its requester. -/
def State.regRead (s : State) (who : Init) (r : Reg) (i : List Nat) (b n : Nat) : State × Nat :=
  let a := r.addr i
  if s.domOn (r.domOf i) then
    let key := a * 2048 + who.key
    let wide := r.width == 64
    match (if wide && b == 4 && n == 4 then SMap.find s.latch key else none) with
    | some h => ({ s with latch := SMap.del s.latch key }, h.toNat)
    | none =>
      let (s1, v) := s.readEffect who r i b
      let m := if wide && b == 0 && n == 4 then BitVec.allOnes 64 else byteMask b n
      let s2 := s1.rcClear r i m
      let s3 :=
        if wide && b == 0 && n == 4 then { s2 with latch := SMap.ins s2.latch key (BitVec.ofNat 64 (v.toNat / 2 ^ 32)) } else s2
      (s3, v.toNat / 2 ^ (8 * b) % 2 ^ (8 * n))
  else (s.downAccess (0x8000000000 + a + b) (r.domOf i) who false, downValue b n)

/-! ## Windows without registers -/

/-- An event-log entry's bytes (Table OBS-3). -/
def EvtEntry.bytes (e : EvtEntry) : Bytes :=
  leBytes 8 e.time ++ leBytes 1 e.block ++ leBytes 1 e.kind ++ leBytes 2 0 ++ leBytes 4 e.seq ++ leBytes 8 e.arg0 ++
    leBytes 8 e.arg1

/-- The windows of SEC, HIF and SCB that show tables: the measurement registers, the DIK certificate, the measurement log,
the recovery window, the journal and the event log. The recovery window reads 0 outside RECOVERY, and so do image bytes that
nothing has written (DESIGN CHOICE, assumption 147). -/
def State.window (s : State) (off n : Nat) : Option (Dom × Nat) :=
  if !isWindow off then none
  else if off < 0x2000 ∧ 0x1000 ≤ off then some (.aon, leAt (s.mr ((off - 0x1000) / 0x40)) (off % 0x40) n)
  else if off < 0x1000 then some (.aon, leAt s.dikCert (off - 0x400) n)
  else if off < 0x12000 then
    some (.aon, leAt (SMap.get s.sec.log ((off - 0x2000) / 64) []) (off % 64) n)
  else if off < 0x30000 then
    let at_ := s.fg SEC_RCV_BASE SEC_RCV_BASE_PAGE * 65536 + (off - 0x20000)
    some (.aon, if s.sec.boot = .recovery then leNat ((List.range n).map fun k => SMap.get s.sec.window (at_ + k) 0) else 0)
  else if off < 0x542000 then
    some (.host, leAt (SMap.get s.hif.journal ((off - 0x540000) / 32) []) (off % 32) n)
  else
    match SMap.find s.obs.log ((off - 0x710000) / 32) with
    | some e => some (.aon, leAt e.bytes (off % 32) n)
    | none => some (.aon, 0)

/-- A read of up to 8 bytes at a BAR0 offset; none for an unmapped access. -/
def State.csrLoad (s : State) (who : Init) (off n : Nat) : State × Option Nat :=
  match s.window off n with
  | some (d, v) =>
    if s.domOn d then (s, some v)
    else (s.downAccess (0x8000000000 + off) d who false, some (downValue off n))
  | none =>
    match findReg off with
    | some (r, i, b) =>
      let m := min n (r.width / 8 - b)
      if s.domOn (r.domOf i) then
        let (s1, v) := s.regRead who r i b m
        if m < n then
          match findReg (off + m) with
          | some (r2, i2, b2) =>
            let (s2, v2) := s1.regRead who r2 i2 b2 (n - m)
            (s2, some (v + v2 * 2 ^ (8 * m)))
          | none => (s1, some v)
        else (s1, some v)
      else
        (s.downAccess (0x8000000000 + off) (r.domOf i) who false,
          some (downValue off n))
    | none =>
      if blockAssigned (off / 0x100000) && !s.domOn (offDom off) then
        (s.downAccess (0x8000000000 + off) (offDom off) who false,
          some (downValue off n))
      else if n = 8 then
        match findReg (off + 4) with
        | some (r2, i2, b2) =>
          let (s2, v2) := s.regRead who r2 i2 b2 4
          (s2, some (v2 * 2 ^ 32))
        | none => (s, none)
      else (s, none)

/-- A read of `n` bytes at a device address outside the fabric window: the value, whether it met an uncorrectable word, and
whether the access is mapped. -/
def State.busRead (s : State) (who : Init) (a n : Nat) : State × Nat × Bool × Bool :=
  if inMem a then
    if s.domOn .memory then
      let (s1, b, bad) := (s.memContest a who).read a n (match who with | .ctx _ => 0 | .peer _ => 2 | _ => 1)
      (s1, leNat b, bad.isSome, true)
    else
      (s.downAccess a .memory who false, downValue a n, false, true)
  else if inCsr a then
    let off := a - 0x8000000000
    let (s1, x) := s.csrLoad who off n
    match x with
    | some v =>
      let (s2, w) := if recordsValue off then s1.readBy who off (BitVec.ofNat 64 v) else (s1, BitVec.ofNat 64 v)
      (s2, w.toNat, false, true)
    | none => (s1.unmapped a who, 0, false, false)
  else (s.unmapped a who, 0, false, false)

/-- The value that a read returned to its requester. -/
def State.returned (s : State) (who : Init) (v : Nat) : State :=
  { s with rdata := SMap.ins s.rdata who.key (BitVec.ofNat 64 v) }

/-- The device address of an offset in BAR0, or in BAR2's window (R79). -/
def State.barAddr (s : State) (bar2 : Bool) (off : Nat) : Nat :=
  if bar2 then s.fg HIF_BAR2_BASE HIF_BAR2_BASE_WIN * 2 ^ 30 + off % 2 ^ 30 else 0x8000000000 + off % 0x4000000

/-- RC_READ: a read of `n` bytes at an offset in BAR0, or through BAR2 at one in its window (R79), aligned to its size (R11,
R13). Updates of an RC field in the same instant are included if their commands come before it, and left in the field if they come
after (R14). -/
def execRcRead (who : Init) (bar2 : Bool) (off n : Nat) (s : State) : Host.Outcome State Fault Refusal :=
  let (s1, v, _, _) := s.busRead who (s.barAddr bar2 off) n
  .next (s1.returned who v)

/-- The addresses that no region of Table ARC-2 covers, and those within it where nothing stands (R20). -/
def State.isUnmapped (s : State) (a n : Nat) : Bool :=
  if inMem a then false
  else if inCsr a then
    let off := a - 0x8000000000
    (s.window off n).isNone && (findReg off).isNone && !(n == 8 && (findReg (off + 4)).isSome) &&
      !(blockAssigned (off / 0x100000) && !s.domOn (offDom off))
  else decide (a < 0xC000000000) || decide (0x10000000000 ≤ a)

/-- UNMAPPED_ACCESS: an access by the host, the management core or a peer to an unmapped device address reads 0 or is
discarded, and is logged (R20). -/
def execUnmappedAccess (who : Init) (a n : Nat) (write : Bool) (v : Word) (s : State) : Host.Outcome State Fault Refusal :=
  if s.isUnmapped a n then
    .next (if write then (s.busWrite who a n v.toNat).1 else
      let (s1, x, _, _) := s.busRead who a n
      s1.returned who x)
  else .next s

/-- The domain of the block or memory that holds a device address. -/
def addrDom (a : Nat) : Option Dom :=
  if inMem a then some .memory
  else if inCsr a && blockAssigned ((a - 0x8000000000) / 0x100000) then some (offDom (a - 0x8000000000))
  else none

/-- DOWN_BLOCK_ACCESS: an access to a block whose domain is not on drops its write, or returns 0x0BAD_0FF0 in each 32 bits,
and is recorded and counted (R394). -/
def execDownBlockAccess (who : Init) (a n : Nat) (write : Bool) (v : Word) (s : State) : Host.Outcome State Fault Refusal :=
  match addrDom a with
  | some d =>
    if s.domOn d then .next s
    else
      .next (if write then (s.busWrite who a n v.toNat).1 else
        let (s1, x, _, _) := s.busRead who a n
        s1.returned who x)
  | none => .next s

end Sys2Proof.Machine
end

