-- ==== Sys2Proof/Machine/Kick.lean ====
section
/-! DEFINITION. Kickoff: staging, the consistency check, and the application of a set at its instant (R345-R352). -/

namespace Sys2Proof.Machine

/-! ## Items (R346) -/

/-- All bytes of a slice of an item are 0. -/
def itZero (b : Bytes) (off n : Nat) : Bool := (slice b off n).all (· == 0)

/-- A gate item. -/
def itGate (b : Bytes) : Bool := itType b == 8 || itType b == 9

/-- The BAR0 offset that a REG_WRITE names. -/
def itOff (b : Bytes) : Nat := itAddr b - 0x8000000000

/-- A register stands at each byte that a REG_WRITE's MASK touches. -/
def maskStands (b : Bytes) : Bool :=
  (List.range 8).all fun j => bits (itMask b) (8 * j + 7) (8 * j) == 0 || (findReg (itOff b + j)).isSome

/-- K-1: an item meets Table KCK-1; `images` is the number of images staged. -/
def itOk (images : Nat) (b : Bytes) : Bool :=
  itZero b 2 6 &&
    (if itType b = 1 then
      inCsr (itAddr b) && itAddr b % 8 == 0 && !([0, 1, 2, 4, 5].contains (itOff b / 0x100000)) && itMask b != 0 && maskStands b
    else if itType b = 2 then inMem (itAddr b) && itAddr b % 8 == 0 && itMask b != 0
    else if itSta b then
      decide (itDev b < 16) && itZero b 11 1 && itZero b 14 2 && itZero b 19 13 && (itType b == 4 || itTidmap b == 0) &&
        (decide (5 < itType b) || decide (itImage b < images))
    else if itType b = 8 then decide (itPort b < 8) && decide (itBank b < 2) && itZero b 10 22
    else if itType b = 9 then decide (itPort b < 8) && itZero b 9 23
    else false)

/-- The index of the first item that fails a test. -/
def firstBad (p : Bytes → Bool) : List Bytes → Nat → Option Nat
  | [], _ => none
  | b :: t, i => if p b then firstBad p t (i + 1) else some i

/-! ## Staging (R347) -/

/-- An item with its IMAGE moved past the images the set already holds. -/
def itRebase (n : Nat) (b : Bytes) : Bytes :=
  if decide (3 ≤ itType b) && decide (itType b ≤ 5) then patch b 12 (leBytes 2 (itImage b + n)) else b

/-- A byte string cut into pieces of a size. -/
def pieces (n : Nat) (b : Bytes) : List Bytes := (List.range (b.length / n)).map fun i => slice b (n * i) n

/-- Add items and images to a set, all or none. -/
def State.stage_ (s : State) (k : Nat) (items images : List Bytes) : State × HDone :=
  let x := s.kset k
  let no (code item : Nat) : HDone := { status := stRefused, result := kResult code s.self item }
  if s.kState k = 2 then (s, no kcBusy 0xFFFF)
  else if 65536 < x.items.length + items.length ∨ 4096 < x.images.length + images.length then (s, no kcFull 0xFFFF)
  else
    match firstBad (itOk images.length) items 0 with
    | some i => (s, no kcItem i)
    | none =>
      let all := x.items ++ items.map (itRebase x.images.length)
      (s.setKset k { items := all, images := x.images ++ images },
        { status := stOk, result := all.length % 65536 * 2 ^ 32 })

/-- STAGE_ITEMS, append (R347): `data` is the items and then the images as read from host memory, none when unreachable. -/
def execStageItems (qp cseq : Nat) (data : Option Bytes) (s : State) : Host.Outcome State Fault Refusal :=
  match s.starting qp cseq 0x11 with
  | none => .next s
  | some c =>
    if leAt c.arg 1 1 ≠ 0 ∨ s.deaf then .next s
    else
      let s1 := s.markStarted qp cseq
      if !s1.domOn .memory then .next (s1.hifDone qp cseq { status := stDomainDown })
      else
        match s.hostData qp data with
        | none => .next (s1.hifDone qp cseq { status := stHostUnreachable })
        | some b =>
          let d := slice b 0 (c.len0 + c.len1)
          let (s2, r) := (s1.input 4 qp d).stage_ (leAt c.arg 0 1) (pieces 32 (d.take c.len0)) (pieces 256 (d.drop c.len0))
          .next (s2.hifDone qp cseq r)

/-- STAGE_DISCARD: STAGE_ITEMS in mode 0x01 makes a set EMPTY (R347). -/
def execStageDiscard (qp cseq : Nat) (s : State) : Host.Outcome State Fault Refusal :=
  match s.starting qp cseq 0x11 with
  | none => .next s
  | some c =>
    if leAt c.arg 1 1 ≠ 1 then .next s
    else
      let s1 := s.markStarted qp cseq
      let k := leAt c.arg 0 1
      if s1.kState k = 2 then
        .next (s1.hifDone qp cseq { status := stRefused, result := kResult kcBusy s.self 0xFFFF })
      else .next ((s1.setKset k {}).hifDone qp cseq { status := stOk })

/-! ## Applying an item (Table KCK-1, R350, R351) -/

/-- A kickoff's value for a register: RW bits outside MASK stay. -/
def kickWord (r : Reg) (old v m : Word) : Word := (old &&& maskOf .rw r.flds &&& ~~~ m) ||| (v &&& m)

/-- The slot register that a next-set alias stands for, in the slot that is not current. -/
def aliasOf_ (r : Reg) (i : List Nat) (slot : Nat) : Option (Reg × List Nat) :=
  if r.off = SKM_NEXT_PARSE.off then some (SKM_SET_PARSE, [slot])
  else if r.off = SKM_NEXT_CLASS.off then some (SKM_SET_CLASS, [slot])
  else if r.off = SKM_NEXT_KSEG.off then some (SKM_SET_KSEG, slot :: i)
  else if r.off = SKM_NEXT_TREE0.off then some (SKM_SET_TREE0, slot :: i)
  else if r.off = SKM_NEXT_TREE1.off then some (SKM_SET_TREE1, slot :: i)
  else none

/-- The other rule-set slot. -/
def State.nextSlot (s : State) : Nat := 1 - s.fg SKM_EPOCH SKM_EPOCH_CUR_SLOT

/-- A REG_WRITE on one register: `v` and `m` are the 64 bits from the register's own offset. -/
def State.kickReg (s : State) (off : Nat) (v m : Nat) : State :=
  match findReg off with
  | some (r, i, 0) =>
    let w := r.width
    let x := BitVec.ofNat 64 (v % 2 ^ w)
    let k := BitVec.ofNat 64 (m % 2 ^ w)
    if k = 0 then s
    else
      match aliasOf_ r i s.nextSlot with
      | some (r2, i2) => s.wg r2 ((s.rg r2 i2 &&& ~~~ k) ||| (x &&& k)) i2
      | none => s.regWrite .mgc r i (kickWord r (s.rg r i) x k) true
  | _ => s

/-- A REG_WRITE item: the register at A, and a 32-bit one at A + 4 (Table KCK-1). -/
def State.kickRegs (s : State) (b : Bytes) : State :=
  let off := itOff b
  match findReg off with
  | some (r, _, 0) =>
    let s1 := s.kickReg off (itVal b) (itMask b)
    if r.width = 32 then s1.kickReg (off + 4) (itVal b / 2 ^ 32) (itMask b / 2 ^ 32) else s1
  | _ => s.kickReg (off + 4) (itVal b / 2 ^ 32) (itMask b / 2 ^ 32)

/-- A MEM_WRITE item. -/
def State.kickMem (s : State) (b : Bytes) : State :=
  let old := leNat (s.read (itAddr b) 8 0).2.1
  let v := (BitVec.ofNat 64 old &&& ~~~ BitVec.ofNat 64 (itMask b)) ||| BitVec.ofNat 64 (itVal b &&& itMask b)
  s.writeLe (itAddr b) 8 v.toNat

/-- Write the listed words of a station context from an image. -/
def State.imgWords (s : State) (n : Nat) (img : Bytes) : List Nat → State
  | [] => s
  | m :: t => State.imgWords (s.setCw n m (imgWord img m)) n img t

/-- STA_ADD (Table WMC-5); a link context holds no home words (R182). -/
def State.staAdd (s : State) (handle : Nat) (img : Bytes) : State :=
  let n := handle % 1024
  let s1 := (s.clearCtx n 32).setCw n 0 (imgWord img 0 / 2 ^ 16 * 2 ^ 16 + handle)
  s1.imgWords n img (([1, 2, 3, 4, 5, 6, 7] ++ (List.range 9).map (16 + ·) ++ [29, 30, 31]).filter fun m =>
    !homeWord m || s1.ctxRole n == 1)

/-- STA_SET (Table WMC-5); a change of the link on a unit frees the station's precoder entries of that unit (R225). -/
def State.staSet (s : State) (handle tidmap : Nat) (img : Bytes) : State :=
  let n := handle % 1024
  let moved (x : Nat) : Bool := bits (s.cw n 2) (8 * x + 7) (8 * x) != bits (imgWord img 2) (8 * x + 7) (8 * x)
  let s1 := s.imgWords n img [1, 2, 5, 29, 30, 31]
  let s2 := s1.staWrite n (setFld (s1.rg AIR_STA [n]) 23 0 tidmap)
  s2.precDrop fun p => p.stas.contains n && moved p.unit

/-- The key ID that a station has left is no longer superseded once STA_KEY gives it another key (R190): `slot` as in keyTurn. -/
def State.keyRenew (s : State) (slot old new : Nat) : State :=
  match SMap.find s.wmac.keySeen slot with
  | some v =>
    let other := 1 - v % 4
    let changed := bits old (12 * other + 11) (12 * other) != bits new (12 * other + 11) (12 * other) ||
      bitN old (24 + other) != bitN new (24 + other)
    if changed then { s with wmac := { s.wmac with keySeen := SMap.ins s.wmac.keySeen slot (v % 4) } } else s
  | none => s

/-- STA_KEY (Table WMC-5). -/
def State.staKey (s : State) (handle : Nat) (img : Bytes) : State :=
  let n := handle % 1024
  let turned := bitN (s.cw n 3) 26 != bitN (imgWord img 3) 26
  let s1 := ((s.keyRenew n (s.cw n 3) (imgWord img 3)).keyRenew (n + 1024) (s.cw n 3) (imgWord img 3)).setCw n 3 (imgWord img 3)
  if turned then
    let s2 := s1.setCw n 4 1
    s2.recalls (s2.wmac.granted.filter fun l => l.n == n)
  else s1

/-- A GATE_SWITCH: PENDING := 1, and the new list starts at the least BASE + n × CYCLE at or after T (R310). -/
def State.gateSwitch (s : State) (k b : Nat) : State :=
  let base := s.fg TMG_GCL_HDR0 TMG_GCL_HDR0_BASE (gclIdx k b)
  let cyc := max 1 (s.fg TMG_GCL_HDR1 TMG_GCL_HDR1_CYCLE (gclIdx k b))
  let st := base + ceilDiv (s.now - base) cyc * cyc
  (s.setSp k { s.sp k with switch := some (b, st) }).fs TMG_SP_GATE TMG_SP_GATE_PENDING 1 [k]

/-- An item's effect at the instant. -/
def State.applyItem (s : State) (images : List Bytes) (b : Bytes) : State :=
  let img := getAt images (itImage b) []
  if itType b = 1 then s.kickRegs b
  else if itType b = 2 then s.kickMem b
  else if itType b = 3 then s.staAdd (itHandle b) img
  else if itType b = 4 then s.staSet (itHandle b) (itTidmap b) img
  else if itType b = 5 then s.staKey (itHandle b) img
  else if itType b = 6 then s.staMigrate (itHandle b) (itDev b)
  else if itType b = 7 then s.staRemove (itHandle b % 1024)
  else if itType b = 8 then s.gateSwitch (itPort b) (itBank b)
  else if itType b = 9 then (s.fs TMG_SP_GATE TMG_SP_GATE_GATE_EN 0 [itPort b]).openView (itPort b)
  else s

/-- The items of a set staged on `coord` that this device applies. -/
def State.ownItems (s : State) (coord : Nat) (items : List Bytes) : List Bytes :=
  items.filter fun b => (s.itDevs coord b).contains s.self

/-- An item that a rule-set change consists of. -/
def itNext (b : Bytes) : Bool :=
  itType b == 1 && decide (0x2230000 ≤ itOff b) && decide (itOff b < 0x2231000)

/-- An item that changes the hash. -/
def itHash (b : Bytes) : Bool :=
  itType b == 1 && ((decide (0x2200040 ≤ itOff b) && decide (itOff b < 0x2200088)) || itOff b == 0x2200008)

/-- Copy the current rule set into the other slot (R289). -/
def State.copySet (s : State) : State :=
  let a := s.fg SKM_EPOCH SKM_EPOCH_CUR_SLOT
  let b := s.nextSlot
  let c (t : State) (r : Reg) (i : List Nat) : State := t.wg r (t.rg r (a :: i)) (b :: i)
  let s1 := c (c (c (c s SKM_SET_PARSE []) SKM_SET_CLASS []) SKM_SET_KSEG [0]) SKM_SET_KSEG [1]
  [0, 1, 2, 3].foldl (fun t j => c (c t SKM_SET_TREE0 [j]) SKM_SET_TREE1 [j]) s1

/-- Make the other slot current with the next epoch; the former set becomes the old one (R288, R289). -/
def State.swapSet (s : State) : State :=
  let cur := s.fg SKM_EPOCH SKM_EPOCH_CUR
  let n := s.skm.curCount
  let v := packFlds [(SKM_EPOCH_CUR, if cur = 255 then 1 else cur + 1), (SKM_EPOCH_CUR_SLOT, s.nextSlot),
    (SKM_EPOCH_OLD, if n = 0 then 0 else cur), (SKM_EPOCH_OLD_COUNT, n)]
  let s1 := { s with skm := { s.skm with curCount := 0 } }.wg SKM_EPOCH v
  if n = 0 then s1.logEv 0x22 0x04 0 cur else s1

/-- Apply items, one after another. -/
def State.applyItems (s : State) (images : List Bytes) : List Bytes → State
  | [] => s
  | b :: t => State.applyItems (s.applyItem images b) images t

/-- Apply a set: every item takes effect together; a rule-set change swaps the slots, and a hash change holds dispatch
(R286, R289, R351), and TSF offsets are in force from T. -/
def State.applySet (s : State) (items images : List Bytes) : State :=
  let nx := items.any itNext
  let s1 := (if nx then s.copySet else s).applyItems images items
  let s2 := { (if nx then s1.swapSet else s1) with tmb := { s1.tmb with tsfOff := s1.tsfTaken } }
  if items.any itHash && !s2.skm.outstanding.isEmpty then { s2 with skm := { s2.skm with hashHold := true } } else s2

/-! ## The consistency check (R349, Table KCK-2) -/

/-- K-5 for one item: Table WMC-5 and R196. -/
def State.itStationOk (s : State) (images : List Bytes) (b : Bytes) : Bool :=
  let h := itHandle b
  let n := h % 1024
  let img := getAt images (itImage b) []
  let w (m : Nat) : Nat := imgWord img m
  let limits := bits (w 5) 13 0 != 0 && bits (w 5) 37 14 != 0
  let known (d : Nat) : Bool := d == s.self || s.member d
  let mine := s.ctxRole n != 0 && s.ctxHandle n == h
  if itType b = 3 then
    let role := bits (w 0) 17 16
    s.ctxRole n == 0 && bits h 15 14 == (SMap.get s.wmac.gens n 0 + 1) % 4 && decide (bits (w 3) 35 32 < 5) &&
      known (bits h 13 10) && bits (w 0) 42 32 != 0 && limits && (role == 2 || (role == 1 && bits (w 4) 47 0 != 0))
  else if itType b = 4 then
    let held (x : Nat) : Bool := bitN (w 2) (8 * x + 4) && bits (w 2) (8 * x + 3) (8 * x) == s.self
    mine && limits &&
      ((List.range 3).all fun x => !bitN (w 2) (8 * x + 4) || known (bits (w 2) (8 * x + 3) (8 * x))) &&
      ((List.range 24).all fun t => !bitN (itTidmap b) t || held (t % 3))
  else if itType b = 5 then mine && decide (bits (w 3) 35 32 < 5)
  else if itType b = 6 then
    if itDev b = s.self then s.ctxRole n == 0 || mine else true
  else if itType b = 7 then mine
  else true

/-- Every block an item writes lies in a domain that is on (K-2). -/
def State.itDomainOk (s : State) (b : Bytes) : Bool := (itDoms b).all s.domOn

/-- A new discard or refusal in the event log. -/
def State.discarded (s t : State) : Bool :=
  let a := (s.rg SCB_EVT_TOTAL).toNat
  let b := (t.rg SCB_EVT_TOTAL).toNat
  (List.range (b - a)).any fun i =>
    match SMap.find t.obs.log ((a + i) % 1024) with
    | some e => e.kind == 1 || e.kind == 2
    | none => false

/-- A value that its register's own rules discard without a log entry. -/
def State.quietDiscard (s : State) (r : Reg) (i : List Nat) (v : Word) : Bool :=
  let i0 := getAt i 0 0
  if r = DRK_BENCH_REL then true
  else if r = SCB_EVT_ACK then decide ((s.rg SCB_EVT_TOTAL).toNat < v.toNat)
  else if r = ETH_MODE then ETH_MODE_MODE.of v == 3
  else if r = FEL_LINK_CTL then FEL_LINK_CTL_SYSREF_USE.of v == 3
  else if r = TLM_NBR0 then s.flag TLM_NBR1 TLM_NBR1_VALID [i0]
  else if r = TLM_NBR1 then s.flag TLM_NBR1 TLM_NBR1_VALID [i0] && TLM_NBR1_VALID.of v == 1
  else if r = TLM_TIQ then TLM_TIQ_SETTLE.of v == 0
  else if r = TMG_SP_SHAPE then !shapeOk v false
  else if r = TMG_GCL_HDR1 then !hdrOk v
  else s.tlmQuiet r v

/-- A REG_WRITE item's value for the register at an offset is discarded so. -/
def State.kickQuiet (s : State) (off : Nat) (v m : Nat) : Bool :=
  match findReg off with
  | some (r, i, 0) =>
    let k := BitVec.ofNat 64 (m % 2 ^ r.width)
    k != 0 && s.quietDiscard r i (kickWord r (s.rg r i) (BitVec.ofNat 64 (v % 2 ^ r.width)) k)
  | _ => false

/-- K-3: apply the items in order to a copy; the first whose value its register's own rules discard. The second result is
the copy. -/
def State.rangeRun (s : State) : List Bytes → Nat → Option Nat × State
  | [], _ => (none, s)
  | b :: t, i =>
    if itType b = 1 then
      let s1 := s.kickRegs b
      if s.discarded s1 || s.kickQuiet (itOff b) (itVal b) (itMask b) ||
        s.kickQuiet (itOff b + 4) (itVal b / 2 ^ 32) (itMask b / 2 ^ 32) then (some i, s1) else State.rangeRun s1 t (i + 1)
    else State.rangeRun s t (i + 1)

/-- The next rule set meets the checks of R289. -/
def State.nextSetOk (s : State) : Bool :=
  let k := s.nextSlot
  let act (f : Fld) : Nat := s.fg SKM_SET_CLASS f [k]
  let seg (j : Nat) : Nat := bits (s.rg SKM_SET_KSEG [k, j / 4]).toNat (16 * (j % 4) + 2) (16 * (j % 4))
  let nrules (t : Nat) : Nat := s.fg SKM_SET_TREE1 SKM_SET_TREE1_NRULES [k, t]
  let tree (t : Nat) : Bool :=
    nrules t == 0 ||
      (let node := s.fg SKM_SET_TREE0 SKM_SET_TREE0_NODE_BASE [k, t] * 32
       let rule := s.fg SKM_SET_TREE1 SKM_SET_TREE1_RULE_BASE [k, t] * 32
       inSram node && inSram (node + 31) && inSram rule && inSram (rule + nrules t * ruleSize (s.treeKeyLen k t) - 1))
  act SKM_SET_CLASS_DEPTH_ACT != 3 && act SKM_SET_CLASS_MAL_ACT != 3 && ((List.range 8).all fun j => decide (seg j < 6)) &&
    ((List.range 4).all tree) &&
    (act SKM_SET_CLASS_AUTO_EN == 0 || nrules (act SKM_SET_CLASS_AUTO_TREE) != 0)

/-- K-4: no local index carries more than one station item for a device; the first that does. -/
def staTwice : List Bytes → List (Nat × Nat) → Nat → Option Nat
  | [], _, _ => none
  | b :: t, seen, i =>
    let k := (itDev b, itHandle b % 1024)
    if itSta b then (if seen.contains k then some i else staTwice t (k :: seen) (i + 1)) else staTwice t seen (i + 1)

/-- K-8: a gate item meets R310, with the registers as the set leaves them. -/
def State.itGateOk (s t : State) (b : Bytes) : Bool :=
  let k := itPort b
  if itType b = 8 then
    let bank := itBank b
    (s.sp k).switch.isNone &&
      !(s.flag TMG_SP_GATE TMG_SP_GATE_GATE_EN [k] && s.fg TMG_SP_GATE TMG_SP_GATE_ACTIVE_BANK [k] == bank) &&
      ((List.range (t.fg TMG_GCL_HDR1 TMG_GCL_HDR1_LEN (gclIdx k bank))).all fun e =>
        t.fg TMG_GCL_E TMG_GCL_E_INTERVAL [k, bank, e] != 0)
  else if itType b = 9 then (s.sp k).switch.isNone
  else true

/-- The BAR0 offsets of the registers that a REG_WRITE item writes. -/
def itRegs (b : Bytes) : List Nat :=
  (List.range 8).filterMap fun j =>
    if bits (itMask b) (8 * j + 7) (8 * j) = 0 then none
    else match findReg (itOff b + j) with | some (_, _, k) => some (itOff b + j - k) | none => none

/-- Two items touch one register, memory word, local index, sub-port or rule-set alias (K-9). -/
def itOverlap (a b : Bytes) : Bool :=
  let ta := itType a
  let tb := itType b
  if ta = 1 ∧ tb = 1 then (itRegs a).any (itRegs b).contains
  else if ta = 2 ∧ tb = 2 then itAddr a == itAddr b
  else if itSta a && itSta b then itHandle a % 1024 == itHandle b % 1024
  else if itGate a && itGate b then itPort a == itPort b
  else false

/-- K-9: the first item that another pending set touches. -/
def State.overlapAt (s : State) (items : List Bytes) : Option Nat :=
  let others := s.pendingItems.map Prod.fst
  firstBad (fun b => !others.any (itOverlap b)) items 0

/-- K-6: every key index that an item names is VALID (R318). -/
def State.itKeysOk (s : State) (images : List Bytes) (b : Bytes) : Bool :=
  (itKeys b images).all fun k => s.flag CPH_KEY_CTL CPH_KEY_CTL_VALID [k]

/-- The rules this device checks for its own items, K-1 to K-9, in order: the first failure's code and item. `idx` gives
each item its index in the set as staged, and `twice` is what K-4 finds over the whole set. -/
def State.kickCheck (s : State) (items images : List Bytes) (idx : List Nat) (twice : Option Nat) : Option (Nat × Nat) :=
  let at_ (i : Nat) : Nat := getAt idx i 0xFFFF
  let nx := items.any itNext
  match firstBad (itOk images.length) items 0 with
  | some i => some (kcItem, at_ i)
  | none =>
  match firstBad s.itDomainOk items 0 with
  | some i => some (kcDomain, at_ i)
  | none =>
  let s0 := if nx then s.copySet else s
  let (bad, t) := s0.rangeRun items 0
  match bad with
  | some i => some (kcRange, at_ i)
  | none =>
  if nx && !t.nextSetOk then some (kcRange, at_ ((firstBad (fun b => !itNext b) items 0).getD 0))
  else
  match twice with
  | some i => some (kcStation, i)
  | none =>
  match firstBad (s.itStationOk images) items 0 with
  | some i => some (kcStation, at_ i)
  | none =>
  match firstBad (s.itKeysOk images) items 0 with
  | some i => some (kcKey, at_ i)
  | none =>
  if nx && s.fg SKM_EPOCH SKM_EPOCH_OLD != 0 then some (kcEpoch, at_ ((firstBad (fun b => !itNext b) items 0).getD 0))
  else
  match firstBad (s.itGateOk t) items 0 with
  | some i => some (kcGate, at_ i)
  | none =>
  match s.overlapAt items with
  | some i => some (kcOverlap, at_ i)
  | none => none

/-- What is checked again before and at T: K-2, K-5 and K-7 (R349), and the keys of K-6 (R318). -/
def State.recheck (s : State) (items images : List Bytes) : Option (Nat × Nat) :=
  match firstBad s.itDomainOk items 0 with
  | some i => some (kcDomain, i)
  | none =>
  match firstBad (s.itStationOk images) items 0 with
  | some i => some (kcStation, i)
  | none =>
  match firstBad (s.itKeysOk images) items 0 with
  | some i => some (kcKey, i)
  | none =>
    if items.any itNext && s.fg SKM_EPOCH SKM_EPOCH_OLD != 0 then
      some (kcEpoch, (firstBad (fun b => !itNext b) items 0).getD 0)
    else none

/-- A device of the huddle whose time is locked; the leader counts as locked (K-10). -/
def State.lockedDev (s : State) (d : Nat) : Bool :=
  if d = s.self then s.isLeader || s.flag TMB_STATUS TMB_STATUS_FAB_LOCK
  else s.member d && ((s.linkRec d).locked || s.fg FAB_HUDDLE FAB_HUDDLE_LEADER == d)

/-- The devices that a set names, in rising order. -/
def State.setDevs (s : State) (items : List Bytes) : List Nat :=
  (List.range 16).filter fun d => items.any fun b => (s.itDevs s.self b).contains d

/-- K-10: the first item that names a device it may not. -/
def State.fabricAt (s : State) (items : List Bytes) (fabric : Bool) : Option Nat :=
  firstBad (fun b => (s.itDevs s.self b).all fun d => if d = s.self then !fabric || s.lockedDev d else fabric && s.lockedDev d)
    items 0

/-- Send every other named device its items (R352); the first that cannot be reached refuses the set. -/
def State.distribute (s : State) (k : Nat) : List Nat → State
  | [] => s
  | d :: t =>
    if d = s.self ∨ s.kState k ≠ 2 then State.distribute s k t
    else
      let x := s.kset k
      let mine := x.items.filter fun b => (s.itDevs s.self b).contains d
      let (s1, st) := s.fabSend d (.kickItems k x.instant mine x.images) (.kick k d)
      State.distribute (if st = esOk then s1 else s1.kRefuse k kcFabric d 0xFFFF) k t

/-- A submission of a set (R348, R349): the result of the check, or the set PENDING with its instant. -/
def State.submit (s : State) (k qp cseq t : Nat) (fabric : Bool) : State :=
  let x := s.kset k
  let no (code dev item : Nat) : State := s.hifDone qp cseq { status := stRefused, result := kResult code dev item }
  let own := fun b => (s.itDevs s.self b).contains s.self
  let stop := s.now + 2000 + 30 * x.items.length
  let lead := if fabric then 500000 else 50000
  if x.items.isEmpty then no kcEmpty s.self 0xFFFF
  else if s.kState k = 2 then no kcBusy s.self 0xFFFF
  else
  match firstBad (itOk x.images.length) x.items 0 with
  | some i => no kcItem s.self i
  | none =>
  let early := s.kickCheck (x.items.filter own) x.images (idxOf own x.items 0) (staTwice x.items [] 0)
  match early with
  | some (code, i) => no code s.self i
  | none =>
  match s.fabricAt x.items fabric with
  | some i => no kcFabric s.self i
  | none =>
  if t ≠ 0 ∧ t < stop + lead then no kcSoon s.self 0xFFFF
  else if s.now + 10000000000 < t then no kcFar s.self 0xFFFF
  else
    let at_ := if t = 0 then stop + lead else t
    let s1 := s.setKset k { x with queue := qp, cseq, fabric, instant := at_ }
    let s2 := { s1 with kck := { s1.kck with order := s1.kck.order ++ [k] } }
    if fabric then s2.distribute k (s2.setDevs x.items) else s2

/-- KICKOFF (R348). -/
def execKickoff (qp cseq : Nat) (s : State) : Host.Outcome State Fault Refusal :=
  match s.starting qp cseq 0x12 with
  | none => .next s
  | some c =>
    let s1 := s.markStarted qp cseq
    if !s1.domOn .memory then .next (s1.hifDone qp cseq { status := stDomainDown })
    else .next (s1.submit (leAt c.arg 0 1) qp cseq (leAt c.arg 8 8) (bitN (leAt c.arg 1 1) 0))

/-! ## The instant (R351, R352) -/

/-- The devices beside this one that a pending set names. -/
def State.otherDevs (s : State) (k : Nat) : List Nat := (s.setDevs (s.kset k).items).filter fun d => d ≠ s.self

/-- Send the commit once every device has passed and is ready. -/
def State.sendCommits (s : State) (k : Nat) : List Nat → State
  | [] => s
  | d :: t => State.sendCommits (s.fabSend d (.kickCommit k) (.kick k d)).1 k t

/-- The coordinator commits a fabric-wide set whose every device has passed the check and reported ready. -/
def State.tryCommit (s : State) (k : Nat) : State :=
  let x := s.kset k
  let others := s.otherDevs k
  let has (m : SMap (List Nat)) (d : Nat) : Bool := (SMap.get m k []).contains d
  if s.kState k = 2 && x.fabric && !x.committed && has s.kck.ready s.self && others.all (fun d => has s.kck.passed d) &&
      others.all (fun d => has s.kck.ready d) then
    (s.setKset k { x with committed := true }).sendCommits k others
  else s

/-- A named device has reported ready. -/
def State.kickReady (s : State) (k dev : Nat) : State :=
  if s.kState k = 2 then { s with kck := { s.kck with ready := addDev s.kck.ready k dev } }.tryCommit k else s

/-- The part of another device's set. -/
def State.partOf (s : State) (dev set : Nat) : Option KckPart := s.kck.parts.find? fun p => p.dev == dev && p.set == set

/-- KICK_READY (R352): at T − 100 µs this device re-checks its part of a fabric-wide set of `dev` and reports ready. -/
def execKickReady (dev set : Nat) (s : State) : Host.Outcome State Fault Refusal :=
  if dev = s.self then
    let x := s.kset set
    if s.kState set = 2 ∧ x.fabric ∧ x.instant ≤ s.now + 100000 ∧ (s.recheck (s.ownItems s.self x.items) x.images).isNone then
      .next (s.kickReady set s.self)
    else .next s
  else
    match s.partOf dev set with
    | some p =>
      if p.t ≤ s.now + 100000 ∧ (s.recheck p.items p.images).isNone then .next (s.fabTell dev (.kickReady set)) else .next s
    | none => .next s

/-- The lowest device of a set that has not confirmed the commit. -/
def State.unconfirmed (s : State) (k : Nat) : Option Nat :=
  (s.otherDevs k).find? fun d => !(SMap.get s.kck.confirmed k []).contains d

/-- No pending set comes before a set at the instant: an earlier T, or the same T submitted first. -/
def State.firstDue (s : State) (k : Nat) : List Nat → Bool
  | [] => false
  | j :: t =>
    if j = k then t.all fun e => decide ((s.kset k).instant ≤ (s.kset e).instant)
    else decide ((s.kset k).instant < (s.kset j).instant) && State.firstDue s k t

/-- KICKOFF_INSTANT (R351, R352): at T this device applies its own set, or its part of a set of `dev`. -/
def execKickoffInstant (dev set : Nat) (s : State) : Host.Outcome State Fault Refusal :=
  if dev = s.self then
    let x := s.kset set
    if s.kState set ≠ 2 ∨ s.now < x.instant ∨ !s.firstDue set s.kck.order then .next s
    else
      let s0 := s.cross 38 2
      let own := s.ownItems s.self x.items
      if x.fabric && !x.committed then
        .next ((s0.logEv 4 0x02 0 set).kRefuse set kcPartial ((s.unconfirmed set).getD s.self) 0xFFFF)
      else
        match s.recheck own x.images with
        | some (code, i) => .next (s0.kRefuse set code s.self (getAt (idxOf own.contains x.items 0) i 0xFFFF))
        | none =>
          let s1 := (s0.kUnpend set).applySet own x.images
          let s2 := s1.setKset set x
          match (if x.fabric then s.unconfirmed set else none) with
          | some d => .next ((s2.setKset set { items := x.items, images := x.images }).hifDone x.queue x.cseq
              { status := stRefused, result := kResult kcPartial d 0xFFFF })
          | none => .next ((s2.setKset set {}).hifDone x.queue x.cseq { status := stOk })
  else
    match s.partOf dev set with
    | some p =>
      if s.now < p.t then .next s
      else
        let s0 := s.cross 38 2
        let s1 := { s0 with kck := { s0.kck with parts := s0.kck.parts.filter fun q => !(q.dev == dev && q.set == set) } }
        if p.committed && (s.recheck p.items p.images).isNone then .next (s1.applySet p.items p.images)
        else .next (s1.logEv 4 0x02 0 dev)
    | none => .next s

/-- A named device takes the items sent to it: it checks them and replies (R352). The results are the reply's status and
data: the code and item of a refusal. -/
def State.kickTake (s : State) (dev set t : Nat) (items images : List Bytes) : State × Nat × Bytes :=
  match s.kickCheck items images (List.range items.length) (staTwice items [] 0) with
  | some (code, i) => (s, esRefused, leBytes 2 code ++ leBytes 2 (min i 0xFFFF))
  | none =>
    let keep := s.kck.parts.filter fun p => !(p.dev == dev && p.set == set)
    ({ s with kck := { s.kck with parts := keep ++ [{ dev, set, t, items, images }] } }, esOk, [])

/-- A named device takes the commit. -/
def State.kickCommitIn (s : State) (dev set : Nat) : State × Nat :=
  match s.partOf dev set with
  | some p =>
    ({ s with kck := { s.kck with parts := s.kck.parts.map fun q => if q = p then { q with committed := true } else q } }, esOk)
  | none => (s, esRefused)

end Sys2Proof.Machine
end

