-- ==== Sys2Proof/Machine/FabExec.lean ====
section
/-! DEFINITION. What a target does with a remote operation: in-order execution, the remote address window, messages, and the
completion it returns (R363-R366). -/

namespace Sys2Proof.Machine

/-- The device address that an offset of a device's window stands for (Table FAB-4). -/
def windowAddr (off : Nat) : Option Nat :=
  if off < 0x1C0000000 then some off
  else if 0x200000000 ≤ off ∧ off < 0x203000000 then some (0x4000000000 + (off - 0x200000000))
  else if 0x300000000 ≤ off ∧ off < 0x304000000 then some (0x8000000000 + (off - 0x300000000))
  else none

/-- A CSR of a block that neither device programs nor peers may write: SEC, PWR, ADM, KCK, HIF (R106, R365). -/
def guardedCsr (a : Nat) : Bool := inCsr a && guardedBlock ((a - 0x8000000000) / 0x100000)

/-- A store from a peer: the completion's status. -/
def State.peerStore (s : State) (src off n v : Nat) : State × Nat :=
  match windowAddr off with
  | none => (s.unmapped (0xC000000000 + s.self * 2 ^ 34 + off) (.peer src), esOk)
  | some a =>
    if guardedCsr a then (s.logEv ((a - 0x8000000000) / 0x100000) 0x01 a src, esRefused)
    else
      let down := match addrDom a with | some d => !s.domOn d | none => false
      ((s.busWrite (.peer src) a n v).1, if down then esDomainDown else esOk)

/-- A load for a peer: the completion's status, value, and whether it met an uncorrectable word. -/
def State.peerLoad (s : State) (src off n : Nat) : State × Nat × Nat × Bool :=
  match windowAddr off with
  | none => (s.unmapped (0xC000000000 + s.self * 2 ^ 34 + off) (.peer src), esOk, 0, false)
  | some a =>
    let down := match addrDom a with | some d => !s.domOn d | none => false
    let (s1, v, ue, _) := s.busRead (.peer src) a n
    (s1, if down then esDomainDown else esOk, v, ue)

/-- An EVENT message raises a REMOTE event (R366): none while every eligible FIFO is full. -/
def State.msgEvent (s : State) (src : Nat) (b : Bytes) : Option (State × Nat) :=
  let e : Ev := { typ := 6, source := 4 * 4096 + src % 4096, head := slice b 0 64 ++ List.replicate 64 0 }
  if (s.poolCores e).isEmpty then some (s.dropEvent e DRK_DROP_NOENT 0 127 0, esRefused)
  else
    match s.dispatch e with
    | some s1 => some (s1, esOk)
    | none => none

/-- A FRAME message copies a frame from the source's inbox window into pails for the skimmer's FAB input (R366). -/
def State.msgFrame (s : State) (src : Nat) (b : Bytes) : State × Nat :=
  let len := leAt b 2 2
  let off := leAt b 4 4
  let win := 2 ^ s.fg FAB_INBOX FAB_INBOX_WIN_LOG2
  let a := s.fg FAB_INBOX FAB_INBOX_BASE * 2 ^ 20 + src * win + off
  if !s.domOn .wired || !s.domOn .memory || !s.domOn .fabric then (s, esDomainDown)
  else if len < 14 ∨ 16383 < len ∨ win < off + len ∨ leAt b 1 1 ≠ 0 then (s, esRefused)
  else
    let (s1, d, bad) := s.read a len 2
    if bad.isSome then (s1, esRefused)
    else
      match s1.storeFrame (512 + 6) d with
      | some (s2, hs) =>
        (s2.skmEnter 5 { pail := getAt hs 0 0, len, source := 4 * 4096 + src % 4096, arg := leAt b 8 4 }, esOk)
      | none => (s1, esRefused)

/-- A message at its target, by its first byte (R366). -/
def State.msgExec (s : State) (src : Nat) (b : Bytes) : Option (State × Nat) :=
  if leAt b 0 1 = 0 then s.msgEvent src b
  else if leAt b 0 1 = 1 then some (s.msgFrame src b)
  else some (s, esRefused)

/-- A remote enqueue at its target (R154, R194). -/
def State.enqExec (s : State) (handle tid : Nat) (b : Bytes) : State × Nat :=
  let st := s.renqStatus handle tid
  if st ≠ 0 then (s, st)
  else
    match s.storeFrame (512 + 6) b with
    | some (s1, hs) =>
      let q := 8 * (handle % 1024) + tid % 8
      (((s1.contest 4 q (512 + 6)).airPut q { pail := getAt hs 0 0, len := b.length }).leaseAsk (handle % 1024) (tid % 8), esOk)
    | none => (s, esFull)

/-- A carried context word of a home reaches a link context. -/
def State.baIn (s : State) (handle word v : Nat) : State :=
  if s.ctxFor handle && s.ctxRole (handle % 1024) == 2 then s.setCw (handle % 1024) word v else s

/-- A lease, MPDU, migration or kickoff operation from a peer. -/
def State.peerMsg (s : State) (src : Nat) (m : FabMsg) : State × Nat × Nat :=
  let ok (t : State) : State × Nat × Nat := (t, esOk, 0)
  match m with
  | .leaseReq handle tid => ok (s.homeLease handle tid src)
  | .leaseGrant handle tid sn len pn bar => ok (s.takeLease handle tid sn len pn bar)
  | .leaseClose handle tid sn used => ok (s.homeClose handle tid src sn used)
  | .leaseBar handle tid sn => ok (s.barMark (handle % 1024) tid sn)
  | .leaseRecall handle tid sn => ok (s.recallHeld handle tid sn)
  | .leaseReport l => ok (s.leaseReport src l)
  | .mpdu m body => ok (s.forwardArrive m body)
  | .bar handle tid ssn => ok (s.barHome handle tid ssn)
  | .ws handle tid ws => ok (if s.ctxFor handle then s.moveScores (handle % 1024) (tid % 8) (ws % 4096) else s)
  | .ba handle word v => ok (s.baIn handle word v)
  | .moved handle words leases => ok (s.movedArrive handle words leases)
  | .kickItems set t items images =>
    let (s1, st, d) := s.kickTake src set t items images
    (s1, st, leNat d)
  | .kickReady set => ok (s.kickReady set src)
  | .kickCommit set =>
    let (s1, st) := s.kickCommitIn src set
    (s1, st, 0)
  | _ => ok s

/-- An operation that acts on the station contexts or staged items of MEMORY. -/
def FabMsg.needsMem : FabMsg → Bool
  | .leaseReq .. => true | .leaseGrant .. => true | .leaseClose .. => true | .leaseBar .. => true | .leaseRecall .. => true
  | .leaseReport _ => true | .mpdu .. => true | .bar .. => true | .ws .. => true | .ba .. => true | .moved .. => true
  | .kickItems .. => true | _ => false

/-- Execute an operation at its target: the completion's status and value, none while an EVENT waits for room. An
attestation request that SEC accepts is answered when its report is done (R367). -/
def State.peerExec (s : State) (src seq : Nat) (m : FabMsg) : Option (State × Option (Nat × Nat)) :=
  match m with
  | .store off n v =>
    let (s1, st) := s.peerStore src off n v
    some (s1, some (st, 0))
  | .load off n =>
    let (s1, st, v, ue) := s.peerLoad src off n
    some (s1, some (st, v + b2n ue * 2 ^ 64))
  | .enq handle tid b =>
    let (s1, st) := s.enqExec handle tid b
    some (s1, some (st, 0))
  | .msg b =>
    match s.msgExec src b with
    | some (s1, st) => some (s1, some (st, 0))
    | none => none
  | .attest req =>
    let (s1, st) := s.attRequest { source := 2, tagA := src, tagB := seq, tagC := 0, bytes := slice req 0 64 } (s.member src)
    some (if st = 0 then (s1, none) else (s1.attReply 2 src seq st [], some (esRefused, st)))
  | .other _ => some (s.bump FAB_REFUSED_IN, some (esRefused, 0))
  | m =>
    if m.needsMem && !s.domOn .memory then some (s, some (esDomainDown, 0))
    else
      let (s1, st, v) := s.peerMsg src m
      some (s1, some (st, v))

/-- Return a completion: its status, and a LOAD's value. -/
def State.complete (s : State) (src seq : Nat) (m : FabMsg) (x : Nat × Nat) : State :=
  let len := match m with | .load _ n => n | _ => 0
  s.fabWire (flitHdr 0x80 s.self src x.1 seq len) [x.2]

/-- A remote operation arrives (R363): it is executed only when its OP_SEQ is the one expected; any other is discarded and
counted, and one already executed returns the completion it was given. -/
def State.peerOp (s : State) (src seq : Nat) (m : FabMsg) : State :=
  if !s.domOn .fabric || !s.member src || !s.admits 5 (s.route src) then s
  else
    let s0 := s.input 5 (s.route src) (flitHdr m.kind src s.self 0 seq m.len ++ m.data)
    let want := SMap.get s0.fab.expect src 0
    if seq = want then
      match (s0.contest 23 0 (512 + src)).peerExec src seq m with
      | some (s1, r) =>
        let s2 := { s1 with fab := { s1.fab with expect := SMap.ins s1.fab.expect src ((want + 1) % 2 ^ 32) } }
        match r with
        | some x => { s2 with fab := { s2.fab with given := SMap.ins s2.fab.given (src * 2 ^ 32 + seq) x } }.complete src seq m x
        | none => s2
      | none => s
    else
      match SMap.find s0.fab.given (src * 2 ^ 32 + seq) with
      | some x => (s0.bump FAB_E2E_DUP).complete src seq m x
      | none => s0.bump FAB_E2E_DUP

/-- REMOTE_OP_EXECUTE (R363). -/
def execRemoteOpExecute (src seq : Nat) (m : FabMsg) (s : State) : Host.Outcome State Fault Refusal :=
  .next (s.peerOp (src % 16) seq m)

/-- REMOTE_MSG_EVENT (R366): an EVENT message of a peer, the operation expected next from it. -/
def execRemoteMsgEvent (src : Nat) (b : Bytes) (s : State) : Host.Outcome State Fault Refusal :=
  .next (s.peerOp (src % 16) (SMap.get s.fab.expect (src % 16) 0) (.msg (0 :: slice b 0 63)))

/-- REMOTE_MSG_FRAME (R366): a FRAME message of a peer, the operation expected next from it. -/
def execRemoteMsgFrame (src len off arg : Nat) (s : State) : Host.Outcome State Fault Refusal :=
  .next (s.peerOp (src % 16) (SMap.get s.fab.expect (src % 16) 0)
    (.msg ([1, 0] ++ leBytes 2 len ++ leBytes 4 off ++ leBytes 4 arg ++ List.replicate 52 0)))

/-- KICK_DISTRIBUTE_RECEIVE (R352): the items of a fabric-wide set arrive from its coordinator. -/
def execKickDistributeReceive (src set t : Nat) (items images : List Bytes) (s : State) : Host.Outcome State Fault Refusal :=
  .next (s.peerOp (src % 16) (SMap.get s.fab.expect (src % 16) 0) (.kickItems set t items images))

/-- KICK_COMMIT_RECEIVE (R352): the commit of a fabric-wide set arrives from its coordinator. -/
def execKickCommitReceive (src set : Nat) (s : State) : Host.Outcome State Fault Refusal :=
  .next (s.peerOp (src % 16) (SMap.get s.fab.expect (src % 16) 0) (.kickCommit set))

end Sys2Proof.Machine
end

