-- ==== Sys2Proof/Machine/Flags.lean ====
section
/-! DEFINITION. The arithmetic of the Dreka instruction set on 64-bit values (R136, R152): what the integer, field and compare
instructions compute from their operands. No instruction keeps carry or overflow state; compares answer a predicate. -/

namespace Sys2Proof.Machine

/-- A value sign-extended from its low `n` bits. -/
def sext (n : Nat) (v : Nat) : Word := BitVec.ofInt 64 (sgn n v)

/-- A value zero-extended from its low `n` bits. -/
def zext (n : Nat) (v : Nat) : Word := BitVec.ofNat 64 (v % 2 ^ n)

/-- The shift amount of an operand: bits 5 to 0 (R136). -/
def shAmt (b : Word) : Nat := b.toNat % 64

/-- The upper half of the unsigned product. -/
def mulHigh (a b : Word) : Word := BitVec.ofNat 64 (a.toNat * b.toNat / 2 ^ 64)

/-- The smaller and the larger of two signed values, and of two unsigned ones. -/
def minSigned (a b : Word) : Word := if BitVec.slt b a then b else a
def maxSigned (a b : Word) : Word := if BitVec.slt a b then b else a
def minUnsigned (a b : Word) : Word := if BitVec.ult b a then b else a
def maxUnsigned (a b : Word) : Word := if BitVec.ult a b then b else a

/-- The number of ones. -/
def popCount (a : Word) : Word := BitVec.ofNat 64 (popc 64 a.toNat)

/-- The zeros above the highest one among the low `n` bits. -/
def leadZeros (a : Word) : Nat → Nat
  | 0 => 0
  | n + 1 => if a.getLsbD n then 0 else 1 + leadZeros a n

/-- The low `n` bytes reversed, the rest 0. -/
def byteSwap (n : Nat) (a : Word) : Word := BitVec.ofNat 64 (beNat (leBytes n a.toNat))

/-- The `len`-bit mask at bit 0. -/
def lenMask (len : Nat) : Word := BitVec.ofNat 64 (2 ^ len - 1)

/-- A field of a register, zero-extended (Table DRI-6). -/
def fieldOf (a : Word) (pos len : Nat) : Word := (a >>> pos) &&& lenMask len

/-- A register with a field inserted. -/
def insertField (d a : Word) (pos len : Nat) : Word :=
  (d &&& ~~~ (lenMask len <<< pos)) ||| ((a &&& lenMask len) <<< pos)

/-- A register with a field cleared. -/
def clearField (a : Word) (pos len : Nat) : Word := a &&& ~~~ (lenMask len <<< pos)

/-- The carry-less product of the low `n` bits of `b` with `a`, as a number. -/
def clProd (a b : Word) : Nat → Nat
  | 0 => 0
  | n + 1 => clProd a b n ^^^ (if b.getLsbD n then a.toNat * 2 ^ n else 0)

/-- The two halves of the 127-bit carry-less product (R152). -/
def clLow (a b : Word) : Word := BitVec.ofNat 64 (clProd a b 64)
def clHigh (a b : Word) : Word := BitVec.ofNat 64 (clProd a b 64 / 2 ^ 64)

end Sys2Proof.Machine
end

