-- ==== Sys2Proof/Machine/Issue.lean ====
section
/-! DEFINITION. The issue of a Dreka instruction (R109, R131-R135): the fetch against the code section, the budget, the
predicate guard, the core's counters and the instruction tag. -/

namespace Sys2Proof.Machine

/-- A context can issue: it runs, on a core whose domain is on. -/
def State.canIssue (s : State) (c : Nat) : Bool :=
  decide (c < 384) && (s.ctx c).st == .running && s.domOn (Dom.ofCore (c / 4)) && !s.obs.rep.frozen

/-- Change a context. -/
def State.modCtx (s : State) (c : Nat) (f : Ctx → Ctx) : State := s.setCtx c (f (s.ctx c))

/-- Bits of a tag sample's CTX field: engine operation, load or atomic, store. -/
def tagEngine : Nat := 2048
def tagLoad : Nat := 4096
def tagStore : Nat := 8192

/-- A core as an instruction of a context issues: the context's tagged instruction has ended (R407). -/
def Core.tagEnds (x : Core) (c now : Nat) : Core :=
  match x.tag with
  | some t => if t.ctx = c ∧ t.ended = none then { x with tag := some { t with ended := some now } } else x
  | none => x

/-- The gap to the next tag counts down, and at its end the instruction is tagged unless the core's last tag has not been
written (R407). -/
def State.tagIssue (s : State) (c flags : Nat) : State :=
  let n := c / 4
  let x := (s.core n).tagEnds c s.now
  if !s.flag PMC_TAG_CFG PMC_TAG_CFG_EN || !bitN (s.fg PMC_TAG_CFG PMC_TAG_CFG_CLUSTERS) (n / 8) then
    if x = s.core n then s else s.setCore n x
  else if 1 < x.tagGap then s.setCore n { x with tagGap := x.tagGap - 1 }
  else
    match x.tag with
    | some _ => s.setCore n x
    | none =>
      let pc := (s.ctx c).pc
      let t : TagRec := { ctx := c, pc, insn := leAt (s.coreImage n).code (4 * pc) 4, flags, issue := s.now }
      s.setCore n { x.drawTag (s.fg PMC_TAG_CFG PMC_TAG_CFG_MEAN_LOG2) with tag := some t }

/-- Issue an instruction of a context, of `words` words: `flags` are its bits of a tag sample, and `body` is its effect. A
word beyond the code section raises CODE_RANGE (R134), a spent budget BUDGET (R109); a squashed instruction has no effect
and raises no fault, so that a second word of it may lie beyond the code (R133), and a PRED in a guarded range that is not squashed raises ILLEGAL (R134). -/
def State.issueWith (s : State) (c words flags : Nat) (isPred : Bool) (body : State → State) : State :=
  if !s.canIssue c then s
  else
    let x := s.ctx c
    if x.budget = 0 then s.fault c fcBudget 0
    else
      let s1 := s.modCtx c fun x => { x with budget := x.budget - 1, guardN := x.guardN - 1 }
      if (s.coreImage (c / 4)).codeWords < x.pc + (if x.guardN ≠ 0 ∧ x.guardSquash then 1 else words) then s1.fault c fcCode 0
      else
        let s2 := (s1.tagIssue c flags).count c 0x01
        if x.guardN = 0 then body s2
        else if x.guardSquash then
          ((s2.count c 0x02).tagUpd c fun t => { t with flags := 512 }).modCtx c fun x => { x with pc := x.pc + words }
        else if isPred then s2.fault c fcIllegal 0
        else body s2

/-- Issue an instruction of one word that is neither an access nor an engine operation. -/
def State.issue (s : State) (c : Nat) (body : State → State) : State := s.issueWith c 1 0 false body

/-- Retire an instruction: change its context and go on at the next word. -/
def State.retire (s : State) (c : Nat) (f : Ctx → Ctx) : State :=
  s.modCtx c fun x => { f x with pc := (f x).pc + 1 }

/-- Issue an instruction that writes one general register. -/
def State.alu (s : State) (c d : Nat) (f : Ctx → Word) : State :=
  s.issue c fun s => s.retire c fun x => x.setReg d (f x)

/-- Issue an instruction that writes one predicate. -/
def State.setP (s : State) (c p : Nat) (f : Ctx → Bool) : State :=
  s.issue c fun s => s.retire c fun x => x.setPred p (f x)

/-- Issue an instruction of the wide form, which takes two words and counts once. -/
def State.wide (s : State) (c d : Nat) (f : Ctx → Word) : State :=
  s.issueWith c 2 0 false fun s => s.modCtx c fun x => { x.setReg d (f x) with pc := x.pc + 2 }

end Sys2Proof.Machine
end

