-- ==== Sys2Proof/Machine/Alu.lean ====
section
/-! DEFINITION. The integer, compare, predicate, immediate, field and wide-immediate instructions (R136, Tables DRI-3 to
DRI-7), and PRED (R133). Operands are the fields of the instruction word: `c` is the context that issues it. -/

namespace Sys2Proof.Machine

/-! ## Integer instructions (Table DRI-3) -/

/-- ADD d, a, b. -/
def execAdd (c d a b : Nat) (s : State) : Host.Outcome State Fault Refusal :=
  .next (s.alu c d fun x => x.reg a + x.reg b)

/-- SUB d, a, b. -/
def execSub (c d a b : Nat) (s : State) : Host.Outcome State Fault Refusal :=
  .next (s.alu c d fun x => x.reg a - x.reg b)

/-- AND d, a, b. -/
def execAnd (c d a b : Nat) (s : State) : Host.Outcome State Fault Refusal :=
  .next (s.alu c d fun x => x.reg a &&& x.reg b)

/-- OR d, a, b. -/
def execOr (c d a b : Nat) (s : State) : Host.Outcome State Fault Refusal :=
  .next (s.alu c d fun x => x.reg a ||| x.reg b)

/-- XOR d, a, b. -/
def execXor (c d a b : Nat) (s : State) : Host.Outcome State Fault Refusal :=
  .next (s.alu c d fun x => x.reg a ^^^ x.reg b)

/-- ANDN d, a, b. -/
def execAndn (c d a b : Nat) (s : State) : Host.Outcome State Fault Refusal :=
  .next (s.alu c d fun x => x.reg a &&& ~~~ x.reg b)

/-- SHL d, a, b. -/
def execShl (c d a b : Nat) (s : State) : Host.Outcome State Fault Refusal :=
  .next (s.alu c d fun x => x.reg a <<< shAmt (x.reg b))

/-- SHR d, a, b. -/
def execShr (c d a b : Nat) (s : State) : Host.Outcome State Fault Refusal :=
  .next (s.alu c d fun x => x.reg a >>> shAmt (x.reg b))

/-- SAR d, a, b. -/
def execSar (c d a b : Nat) (s : State) : Host.Outcome State Fault Refusal :=
  .next (s.alu c d fun x => (x.reg a).sshiftRight (shAmt (x.reg b)))

/-- MUL d, a, b. -/
def execMul (c d a b : Nat) (s : State) : Host.Outcome State Fault Refusal :=
  .next (s.alu c d fun x => x.reg a * x.reg b)

/-- MULHU d, a, b. -/
def execMulhu (c d a b : Nat) (s : State) : Host.Outcome State Fault Refusal :=
  .next (s.alu c d fun x => mulHigh (x.reg a) (x.reg b))

/-- MIN d, a, b. -/
def execMin (c d a b : Nat) (s : State) : Host.Outcome State Fault Refusal :=
  .next (s.alu c d fun x => minSigned (x.reg a) (x.reg b))

/-- MAX d, a, b. -/
def execMax (c d a b : Nat) (s : State) : Host.Outcome State Fault Refusal :=
  .next (s.alu c d fun x => maxSigned (x.reg a) (x.reg b))

/-- MINU d, a, b. -/
def execMinu (c d a b : Nat) (s : State) : Host.Outcome State Fault Refusal :=
  .next (s.alu c d fun x => minUnsigned (x.reg a) (x.reg b))

/-- MAXU d, a, b. -/
def execMaxu (c d a b : Nat) (s : State) : Host.Outcome State Fault Refusal :=
  .next (s.alu c d fun x => maxUnsigned (x.reg a) (x.reg b))

/-- POPC d, a. -/
def execPopc (c d a : Nat) (s : State) : Host.Outcome State Fault Refusal :=
  .next (s.alu c d fun x => popCount (x.reg a))

/-- CLZ d, a. -/
def execClz (c d a : Nat) (s : State) : Host.Outcome State Fault Refusal :=
  .next (s.alu c d fun x => BitVec.ofNat 64 (leadZeros (x.reg a) 64))

/-- BSWAP d, a. -/
def execBswap (c d a : Nat) (s : State) : Host.Outcome State Fault Refusal :=
  .next (s.alu c d fun x => byteSwap 8 (x.reg a))

/-- BSWAP4 d, a. -/
def execBswap4 (c d a : Nat) (s : State) : Host.Outcome State Fault Refusal :=
  .next (s.alu c d fun x => byteSwap 4 (x.reg a))

/-- BSWAP2 d, a. -/
def execBswap2 (c d a : Nat) (s : State) : Host.Outcome State Fault Refusal :=
  .next (s.alu c d fun x => byteSwap 2 (x.reg a))

/-- SEL d, a, b, p: a when the predicate is 1, else b. -/
def execSel (c d a b p : Nat) (s : State) : Host.Outcome State Fault Refusal :=
  .next (s.alu c d fun x => if x.pred p then x.reg a else x.reg b)

/-! ## Compare and predicate instructions (Table DRI-4) -/

/-- CMP.EQ p, a, b. -/
def execCmpEq (c p a b : Nat) (s : State) : Host.Outcome State Fault Refusal :=
  .next (s.setP c p fun x => x.reg a == x.reg b)

/-- CMP.NE p, a, b. -/
def execCmpNe (c p a b : Nat) (s : State) : Host.Outcome State Fault Refusal :=
  .next (s.setP c p fun x => x.reg a != x.reg b)

/-- CMP.LT p, a, b. -/
def execCmpLt (c p a b : Nat) (s : State) : Host.Outcome State Fault Refusal :=
  .next (s.setP c p fun x => BitVec.slt (x.reg a) (x.reg b))

/-- CMP.GE p, a, b. -/
def execCmpGe (c p a b : Nat) (s : State) : Host.Outcome State Fault Refusal :=
  .next (s.setP c p fun x => !BitVec.slt (x.reg a) (x.reg b))

/-- CMP.LTU p, a, b. -/
def execCmpLtu (c p a b : Nat) (s : State) : Host.Outcome State Fault Refusal :=
  .next (s.setP c p fun x => BitVec.ult (x.reg a) (x.reg b))

/-- CMP.GEU p, a, b. -/
def execCmpGeu (c p a b : Nat) (s : State) : Host.Outcome State Fault Refusal :=
  .next (s.setP c p fun x => !BitVec.ult (x.reg a) (x.reg b))

/-- CMP.TST p, a, b. -/
def execCmpTst (c p a b : Nat) (s : State) : Host.Outcome State Fault Refusal :=
  .next (s.setP c p fun x => x.reg a &&& x.reg b != 0)

/-- CMP.NTST p, a, b. -/
def execCmpNtst (c p a b : Nat) (s : State) : Host.Outcome State Fault Refusal :=
  .next (s.setP c p fun x => x.reg a &&& x.reg b == 0)

/-- PAND p, a, b. -/
def execPand (c p a b : Nat) (s : State) : Host.Outcome State Fault Refusal :=
  .next (s.setP c p fun x => x.pred a && x.pred b)

/-- POR p, a, b. -/
def execPor (c p a b : Nat) (s : State) : Host.Outcome State Fault Refusal :=
  .next (s.setP c p fun x => x.pred a || x.pred b)

/-- PXOR p, a, b. -/
def execPxor (c p a b : Nat) (s : State) : Host.Outcome State Fault Refusal :=
  .next (s.setP c p fun x => x.pred a != x.pred b)

/-- PANDN p, a, b. -/
def execPandn (c p a b : Nat) (s : State) : Host.Outcome State Fault Refusal :=
  .next (s.setP c p fun x => x.pred a && !x.pred b)

/-- PNOT p, a. -/
def execPnot (c p a : Nat) (s : State) : Host.Outcome State Fault Refusal :=
  .next (s.setP c p fun x => !x.pred a)

/-- MFP d: the predicates, p0 in bit 0. -/
def execMfp (c d : Nat) (s : State) : Host.Outcome State Fault Refusal :=
  .next (s.alu c d fun x => (x.p ||| 1).setWidth 64)

/-- MTP a: p1-p7 from bits 1-7. -/
def execMtp (c a : Nat) (s : State) : Host.Outcome State Fault Refusal :=
  .next (s.issue c fun s => s.retire c fun x => { x with p := (x.reg a).setWidth 8 ||| 1 })

/-! ## Immediate instructions (Table DRI-5) -/

/-- ADDI d, a, imm. -/
def execAddi (c d a imm : Nat) (s : State) : Host.Outcome State Fault Refusal :=
  .next (s.alu c d fun x => x.reg a + sext 16 imm)

/-- ANDI d, a, imm. -/
def execAndi (c d a imm : Nat) (s : State) : Host.Outcome State Fault Refusal :=
  .next (s.alu c d fun x => x.reg a &&& zext 16 imm)

/-- ORI d, a, imm. -/
def execOri (c d a imm : Nat) (s : State) : Host.Outcome State Fault Refusal :=
  .next (s.alu c d fun x => x.reg a ||| zext 16 imm)

/-- XORI d, a, imm. -/
def execXori (c d a imm : Nat) (s : State) : Host.Outcome State Fault Refusal :=
  .next (s.alu c d fun x => x.reg a ^^^ zext 16 imm)

/-- SHLI d, a, n. -/
def execShli (c d a n : Nat) (s : State) : Host.Outcome State Fault Refusal :=
  .next (s.alu c d fun x => x.reg a <<< (n % 64))

/-- SHRI d, a, n. -/
def execShri (c d a n : Nat) (s : State) : Host.Outcome State Fault Refusal :=
  .next (s.alu c d fun x => x.reg a >>> (n % 64))

/-- SARI d, a, n. -/
def execSari (c d a n : Nat) (s : State) : Host.Outcome State Fault Refusal :=
  .next (s.alu c d fun x => (x.reg a).sshiftRight (n % 64))

/-- LUI d, imm. -/
def execLui (c d imm : Nat) (s : State) : Host.Outcome State Fault Refusal :=
  .next (s.alu c d fun _ => sext 32 (imm % 2 ^ 16 * 2 ^ 16))

/-- CMPI.EQ p, a, imm: signed. -/
def execCmpiEq (c p a imm : Nat) (s : State) : Host.Outcome State Fault Refusal :=
  .next (s.setP c p fun x => x.reg a == sext 16 imm)

/-- CMPI.NE p, a, imm: signed. -/
def execCmpiNe (c p a imm : Nat) (s : State) : Host.Outcome State Fault Refusal :=
  .next (s.setP c p fun x => x.reg a != sext 16 imm)

/-- CMPI.LT p, a, imm: signed. -/
def execCmpiLt (c p a imm : Nat) (s : State) : Host.Outcome State Fault Refusal :=
  .next (s.setP c p fun x => BitVec.slt (x.reg a) (sext 16 imm))

/-- CMPI.GE p, a, imm: signed. -/
def execCmpiGe (c p a imm : Nat) (s : State) : Host.Outcome State Fault Refusal :=
  .next (s.setP c p fun x => !BitVec.slt (x.reg a) (sext 16 imm))

/-- CMPIU.EQ p, a, imm: unsigned. -/
def execCmpiuEq (c p a imm : Nat) (s : State) : Host.Outcome State Fault Refusal :=
  .next (s.setP c p fun x => x.reg a == zext 16 imm)

/-- CMPIU.NE p, a, imm: unsigned. -/
def execCmpiuNe (c p a imm : Nat) (s : State) : Host.Outcome State Fault Refusal :=
  .next (s.setP c p fun x => x.reg a != zext 16 imm)

/-- CMPIU.LTU p, a, imm: unsigned. -/
def execCmpiuLtu (c p a imm : Nat) (s : State) : Host.Outcome State Fault Refusal :=
  .next (s.setP c p fun x => BitVec.ult (x.reg a) (zext 16 imm))

/-- CMPIU.GEU p, a, imm: unsigned. -/
def execCmpiuGeu (c p a imm : Nat) (s : State) : Host.Outcome State Fault Refusal :=
  .next (s.setP c p fun x => !BitVec.ult (x.reg a) (zext 16 imm))

/-! ## Field instructions (Table DRI-6) -/

/-- Issue a field instruction; a field that runs past bit 63, or of no bits, has no encoding and raises ILLEGAL (R132). -/
def State.fieldOp (s : State) (c d pos len : Nat) (f : Ctx → Word) : State :=
  if len = 0 ∨ 64 < pos + len then s.issue c fun s => s.fault c fcIllegal 0 else s.alu c d f

/-- EXT d, a, pos, len. -/
def execExt (c d a pos len : Nat) (s : State) : Host.Outcome State Fault Refusal :=
  .next (s.fieldOp c d pos len fun x => fieldOf (x.reg a) pos len)

/-- EXTS d, a, pos, len. -/
def execExts (c d a pos len : Nat) (s : State) : Host.Outcome State Fault Refusal :=
  .next (s.fieldOp c d pos len fun x => sext len (fieldOf (x.reg a) pos len).toNat)

/-- INS d, a, pos, len. -/
def execIns (c d a pos len : Nat) (s : State) : Host.Outcome State Fault Refusal :=
  .next (s.fieldOp c d pos len fun x => insertField (x.reg d) (x.reg a) pos len)

/-- CLRF d, a, pos, len. -/
def execClrf (c d a pos len : Nat) (s : State) : Host.Outcome State Fault Refusal :=
  .next (s.fieldOp c d pos len fun x => clearField (x.reg a) pos len)

/-! ## Wide immediates (Table DRI-7) -/

/-- MOVX d, imm32. -/
def execMovx (c d imm : Nat) (s : State) : Host.Outcome State Fault Refusal :=
  .next (s.wide c d fun _ => zext 32 imm)

/-- MOVXS d, imm32. -/
def execMovxs (c d imm : Nat) (s : State) : Host.Outcome State Fault Refusal :=
  .next (s.wide c d fun _ => sext 32 imm)

/-- ORHX d, a, imm32. -/
def execOrhx (c d a imm : Nat) (s : State) : Host.Outcome State Fault Refusal :=
  .next (s.wide c d fun x => x.reg a ||| zext 32 imm <<< 32)

/-- ADDX d, a, imm32. -/
def execAddx (c d a imm : Nat) (s : State) : Host.Outcome State Fault Refusal :=
  .next (s.wide c d fun x => x.reg a + sext 32 imm)

/-! ## Predication (R133, R134) -/

/-- PRED p, neg, n: samples its predicate and guards the next n instructions, 1-4. -/
def execPred (c p : Nat) (neg : Bool) (n : Nat) (s : State) : Host.Outcome State Fault Refusal :=
  .next (s.issueWith c 1 0 true fun s => s.retire c fun x =>
    { x with guardN := (n + 3) % 4 + 1, guardSquash := x.pred p == neg })

/-! ## Control transfer and system instructions (R140, Table DRI-11) -/

/-- Continue at a word offset of the code section; a target outside it raises CODE_RANGE, and a taken branch abandons a
guarded range (R134). `link` is the register that receives the return word. -/
def State.jumpTo (s : State) (c : Nat) (t : Int) (link : Nat) : State :=
  if t < 0 ∨ ((s.coreImage (c / 4)).codeWords : Int) ≤ t then s.fault c fcCode 0
  else
    (s.modCtx c fun x =>
      { x.setReg link (BitVec.ofNat 64 ((x.pc + 1) % 2 ^ 64)) with pc := t.toNat, guardN := 0, guardSquash := false }).count c 0x10

/-- A branch or call whose condition is a predicate, negated or not (R140). -/
def State.branch (s : State) (c p : Nat) (neg : Bool) (disp link : Nat) : State :=
  s.issue c fun s =>
    let x := s.ctx c
    if x.pred p == neg then s.retire c id else s.jumpTo c (x.pc + sgn 21 disp) link

/-- BT p, disp. -/
def execBt (c p disp : Nat) (s : State) : Host.Outcome State Fault Refusal :=
  .next (s.branch c p false disp 0)

/-- BF p, disp. -/
def execBf (c p disp : Nat) (s : State) : Host.Outcome State Fault Refusal :=
  .next (s.branch c p true disp 0)

/-- CALLT p, disp. -/
def execCallt (c p disp : Nat) (s : State) : Host.Outcome State Fault Refusal :=
  .next (s.branch c p false disp 31)

/-- CALLF p, disp. -/
def execCallf (c p disp : Nat) (s : State) : Host.Outcome State Fault Refusal :=
  .next (s.branch c p true disp 31)

/-- B disp. -/
def execB (c disp : Nat) (s : State) : Host.Outcome State Fault Refusal :=
  .next (s.branch c 0 false disp 0)

/-- CALL disp. -/
def execCall (c disp : Nat) (s : State) : Host.Outcome State Fault Refusal :=
  .next (s.branch c 0 false disp 31)

/-- JR d, a: d := the return word; continue at g[a], whose upper half must be 0. -/
def execJr (c d a : Nat) (s : State) : Host.Outcome State Fault Refusal :=
  .next (s.issue c fun s =>
    let t := (s.ctx c).reg a
    if 2 ^ 32 ≤ t.toNat then s.fault c fcCode 0 else s.jumpTo c t.toNat d)

/-- NOP. -/
def execNop (c : Nat) (s : State) : Host.Outcome State Fault Refusal :=
  .next (s.issue c fun s => s.retire c id)

/-- FENCE (R107): the context waits until its stores through the fabric window have taken effect; its other accesses have
taken effect when they were issued. -/
def execFence (c : Nat) (s : State) : Host.Outcome State Fault Refusal :=
  .next (s.issue c fun s =>
    if s.storesBefore c s.drk.nextOp then s.modCtx c fun x => { x with st := .waiting, blocked := .fence }
    else s.retire c id)

/-- END (R141): the event's drain begins. -/
def execEnd (c : Nat) (s : State) : Host.Outcome State Fault Refusal :=
  .next (s.issue c fun s => s.modCtx c fun x => { x with st := .waiting, blocked := .drain })

/-- A special register (Table DRK-1); a reserved one reads 0 (R102). -/
def State.special (s : State) (c n : Nat) : Word :=
  let x := s.ctx c
  if n = 0 then BitVec.ofNat 64 c
  else if n = 1 then BitVec.ofNat 64 (c / 32)
  else if n = 2 then BitVec.ofNat 64 (s.coreImage (c / 4)).id
  else if n = 3 then BitVec.ofNat 64 x.event
  else if n = 4 then BitVec.ofNat 64 x.budget
  else if n = 5 then BitVec.ofNat 64 x.epoch
  else if n = 6 then BitVec.ofNat 64 x.faultCode
  else if n = 7 then BitVec.ofNat 64 x.faultPc
  else if n = 8 then x.faultAddr
  else if n = 9 then s.rg PMC_CORE_TICK [c / 4]
  else if 16 ≤ n ∧ n < 24 then SMap.get x.keep (n - 16) 0
  else 0

/-- MFS d, n. A read of TICK is recorded as a value read from PMC (R412). -/
def execMfs (c d n : Nat) (s : State) : Host.Outcome State Fault Refusal :=
  .next (s.issue c fun s =>
    let v := s.special c (n % 32)
    let (s1, w) := if n % 32 = 9 then s.readBy (.ctx c) (PMC_CORE_TICK.addr [c / 4]) v else (s, v)
    s1.retire c fun x => x.setReg d w)

/-- MTS n, a: only KEEP0-KEEP7 can be written; any other raises ILLEGAL (R102). -/
def execMts (c n a : Nat) (s : State) : Host.Outcome State Fault Refusal :=
  .next (s.issue c fun s =>
    if 16 ≤ n % 32 ∧ n % 32 < 24 then
      s.retire c fun x => { x with keep := SMap.set x.keep (n % 32 - 16) (x.reg a) 0 }
    else s.fault c fcIllegal 0)

end Sys2Proof.Machine
end

