-- ==== Sys2Proof/Machine/Operands.lean ====
section
/-! DEFINITION. The address spaces of a Dreka program (R104-R108, R113, R114, R137-R139): the fault an access raises, loads,
stores and atomics, and bytes an engine operation takes from the header window or local memory. -/

namespace Sys2Proof.Machine

/-- A fabric window address. -/
def inWindows (a : Nat) : Bool := decide (0xC000000000 ≤ a) && decide (a < 0x10000000000)

/-- The device whose window an address lies in, and the offset in it. -/
def windowDev (a : Nat) : Nat := (a - 0xC000000000) / 2 ^ 34
def windowOff (a : Nat) : Nat := (a - 0xC000000000) % 2 ^ 34

/-- A device address with this device's own window resolved (R365). -/
def State.ownAddr (s : State) (a : Nat) : Nat :=
  if inWindows a && windowDev a == s.self then (windowAddr (windowOff a)).getD a else a

/-- The space of a program address: 0 device, 1 local, 2 shared, 3 header window (R104). -/
def spaceOf (a : Word) : Nat := a.toNat / 2 ^ 40 % 4

/-- The offset of a program address in its space. -/
def offsetOf (a : Word) : Nat := a.toNat % 2 ^ 40

/-- The fault of an access of `n` bytes that its address alone decides, in the order of R114; 0 for none. -/
def State.accessFault (s : State) (c : Nat) (a : Word) (n : Nat) (store atomic : Bool) : Nat :=
  let off := offsetOf a
  if 2 ^ 42 ≤ a.toNat then fcUnmapped
  else if a.toNat % n ≠ 0 then fcMisaligned
  else if spaceOf a = 1 then (if 65536 < off + n then fcLocal else 0)
  else if spaceOf a = 2 then (if (s.coreImage (c / 4)).sharedLen < off + n then fcShared else 0)
  else if spaceOf a = 3 then (if atomic || decide (256 < off + n) || (store && decide (off < 64)) then fcWindow else 0)
  else if atomic && (inCsr off || inWindows off) then fcUnmapped
  else if store && guardedCsr (s.ownAddr off) then fcCsrDenied
  else 0

/-- The key of a context's shared section. -/
def State.sharedKey (s : State) (c : Nat) : Nat := (s.core (c / 4)).bound * 12 + c / 32

/-- Bytes of a shared section. -/
def State.sharedBytes (s : State) (k : Nat) : SMap Byte := SMap.get s.drk.shared k []

/-- The bytes of a map from an offset. -/
def mapBytes (m : SMap Byte) : Nat → Nat → Bytes
  | _, 0 => []
  | i, n + 1 => SMap.get m i 0 :: mapBytes m (i + 1) n

/-- Write bytes of a shared section. -/
def State.writeShared (s : State) (k off : Nat) (b : Bytes) : State :=
  { s with drk := { s.drk with shared := SMap.set s.drk.shared k (setWin (s.sharedBytes k) off b) [] } }

/-- The `n` bytes of the local, shared or window space at an offset. -/
def State.nearBytes (s : State) (c sp off n : Nat) : Bytes :=
  if sp = 1 then mapBytes (s.core (c / 4)).locl off n
  else if sp = 2 then mapBytes (s.sharedBytes (s.sharedKey c)) off n
  else (s.ctx c).winBytes off n

/-- Write bytes of the local, shared or window space; a store to HEAD makes the window differ from its frame (R113). -/
def State.nearWrite (s : State) (c sp off : Nat) (b : Bytes) : State :=
  if sp = 1 then s.writeLocal (c / 4) off b
  else if sp = 2 then s.writeShared (s.sharedKey c) off b
  else s.modCtx c fun x => { x with win := setWin x.win off b, winDirty := x.winDirty || decide (off < 192) }

/-- An access to local or shared memory reaches the cluster memory arbiter (R108, decision point 0); one that another
context's access to the same 8 bytes preceded in this instant has lost a contest. -/
def State.nearContest (s : State) (c sp off : Nat) : State :=
  if sp = 3 then s
  else
    let loc := off / 8 + (if sp = 1 then c / 4 else 128 + (s.core (c / 4)).bound) * 2 ^ 16
    let s1 := s.contestAt 0 (c / 32) loc c
    if (s.rival 0 (c / 32) loc c).isSome then s1.count c 0x11 else s1

/-- The core event that counts a load by the space it reaches (Table OBS-1). -/
def loadEvent (sp a : Nat) : Nat :=
  if sp = 1 then 0x08 else if sp = 2 then 0x09 else if sp = 3 then 0 else if inSram a then 0x0A else if inDram a then 0x0B
  else if inWindows a then 0x0D else 0x0C

/-- Count a load, unless it reached the header window. -/
def State.countLoad (s : State) (c sp a : Nat) : State := if sp = 3 then s else s.count c (loadEvent sp a)

/-- Note the address of an access in its tag sample. -/
def State.tagAccess (s : State) (c : Nat) (a : Word) : State :=
  s.tagUpd c fun t => { t with addr := a.toNat % 2 ^ 32, space := spaceOf a }

/-- An address of form M: a + sext(imm16) (R137). -/
def Ctx.addr (x : Ctx) (a imm : Nat) : Word := x.reg a + sext 16 imm

/-- A load from the fabric window of another device: the context waits for its data (R138, R365). -/
def State.farLoad (s : State) (c d n : Nat) (a : Word) (signed : Bool) : State :=
  let off := offsetOf a
  let dev := windowDev off
  if !s.member dev then (s.unmapped off (.ctx c)).fault c fcUnmapped a
  else
    let (s1, st) := s.fabSend dev (.load (windowOff off) n) (.ctx c)
    if st = 0 then
      (s1.countLoad c 0 off).modCtx c fun x => { x with st := .waiting, blocked := .load d n a.toNat signed }
    else s1.fault c fcUnmapped a

/-- A load from the device space. -/
def State.deviceLoad (s : State) (c d n : Nat) (a : Word) (signed : Bool) : State :=
  let v := s.ownAddr (offsetOf a)
  if inWindows v && windowDev v != s.self then s.farLoad c d n a signed
  else
    let (s1, x, ue, mapped) := s.busRead (.ctx c) v n
    if !mapped then s1.fault c fcUnmapped a
    else if ue then s1.fault c fcUncorrectable a
    else (s1.countLoad c 0 v).retire c fun y => y.setReg d (loadVal n x signed)

/-- A load of `n` bytes into register `d` (R137). -/
def State.load (s : State) (c d n : Nat) (a : Word) (signed : Bool) : State :=
  let s0 := s.tagAccess c a
  let code := s0.accessFault c a n false false
  if code ≠ 0 then s0.fault c code a
  else if spaceOf a = 0 then s0.deviceLoad c d n a signed
  else
    let s1 := s0.nearContest c (spaceOf a) (offsetOf a)
    let v := leNat (s1.nearBytes c (spaceOf a) (offsetOf a) n)
    (s1.countLoad c (spaceOf a) 0).retire c fun y => y.setReg d (loadVal n v signed)

/-- A store to the device space; one to another device's window is posted (R138, R365). -/
def State.deviceStore (s : State) (c n : Nat) (a : Word) (v : Nat) : State :=
  let t := s.ownAddr (offsetOf a)
  if inWindows t && windowDev t != s.self then
    if !s.member (windowDev t) then (s.unmapped t (.ctx c)).fault c fcUnmapped a
    else
      let (s1, st) := s.fabSend (windowDev t) (.store (windowOff t) n v) (.store c s.drk.nextOp)
      ((if st = 0 then s1 else s1.bump FAB_STORE_FAIL).count c 0x0E).retire c id
  else
    let (s1, mapped) := s.busWrite (.ctx c) t n v
    if mapped then (s1.count c 0x0E).retire c id else s1.fault c fcUnmapped a

/-- A store of the low `n` bytes of a value (R137). -/
def State.store (s : State) (c n : Nat) (a v : Word) : State :=
  let s0 := s.tagAccess c a
  let code := s0.accessFault c a n true false
  if code ≠ 0 then s0.fault c code a
  else if spaceOf a = 0 then s0.deviceStore c n a (v.toNat % 2 ^ (8 * n))
  else
    let s1 := (s0.nearContest c (spaceOf a) (offsetOf a)).nearWrite c (spaceOf a) (offsetOf a) (leBytes n v.toNat)
    (s1.count c 0x0E).retire c id

/-- An atomic on 8 bytes (R139): `f` gives the new value from the old one; the old value goes to `d`. -/
def State.atomic (s : State) (c d : Nat) (a : Word) (f : Word → Word) : State :=
  let s0 := s.tagAccess c a
  let code := s0.accessFault c a 8 true true
  if code ≠ 0 then s0.fault c code a
  else if spaceOf a = 0 then
    let (s1, x, ue, mapped) := s0.busRead (.ctx c) (offsetOf a) 8
    if !mapped then s1.fault c fcUnmapped a
    else if ue then s1.fault c fcUncorrectable a
    else
      let old := BitVec.ofNat 64 x
      let s2 := if s1.domOn .memory then (s1.write (offsetOf a) (leBytes 8 (f old).toNat)).1.readyStored (offsetOf a) 8 else s1
      (s2.count c 0x0F).retire c fun y => y.setReg d old
  else
    let s1 := s0.nearContest c (spaceOf a) (offsetOf a)
    let old := BitVec.ofNat 64 (leNat (s1.nearBytes c (spaceOf a) (offsetOf a) 8))
    let s2 := s1.nearWrite c (spaceOf a) (offsetOf a) (leBytes 8 (f old).toNat)
    (s2.count c 0x0F).retire c fun y => y.setReg d old

/-- The bytes of an engine operation's input, which must lie in the header window or in local memory at an alignment; none
for any other address (R146, R147). -/
def State.engineBytes (s : State) (c : Nat) (a : Word) (n align : Nat) : Option Bytes :=
  let off := offsetOf a
  if 2 ^ 42 ≤ a.toNat ∨ off % align ≠ 0 then none
  else if spaceOf a = 1 ∧ off + n ≤ 65536 then some (s.nearBytes c 1 off n)
  else if spaceOf a = 3 ∧ off + n ≤ 256 then some (s.nearBytes c 3 off n)
  else none

/-- Bytes of local memory at an alignment, for a cipher job record or a message; none for any other address. -/
def State.localInput (s : State) (c : Nat) (a : Word) (n align : Nat) : Option Bytes :=
  if spaceOf a = 1 then s.engineBytes c a n align else none

/-! ## Loads and stores (Table DRI-8) -/

/-- Issue a load. -/
def State.loadOp (s : State) (c d a imm n : Nat) (signed : Bool) : State :=
  s.issueWith c 1 tagLoad false fun s => s.load c d n ((s.ctx c).addr a imm) signed

/-- Issue a store. -/
def State.storeOp (s : State) (c d a imm n : Nat) : State :=
  s.issueWith c 1 tagStore false fun s => s.store c n ((s.ctx c).addr a imm) ((s.ctx c).reg d)

/-- Issue an atomic. -/
def State.atomicOp (s : State) (c d a : Nat) (f : Ctx → Word → Word) : State :=
  s.issueWith c 1 tagLoad false fun s => s.atomic c d ((s.ctx c).reg a) (f (s.ctx c))

/-- LD1 d, imm(a). -/
def execLd1 (c d a imm : Nat) (s : State) : Host.Outcome State Fault Refusal := .next (s.loadOp c d a imm 1 false)
/-- LD2 d, imm(a). -/
def execLd2 (c d a imm : Nat) (s : State) : Host.Outcome State Fault Refusal := .next (s.loadOp c d a imm 2 false)
/-- LD4 d, imm(a). -/
def execLd4 (c d a imm : Nat) (s : State) : Host.Outcome State Fault Refusal := .next (s.loadOp c d a imm 4 false)
/-- LD8 d, imm(a). -/
def execLd8 (c d a imm : Nat) (s : State) : Host.Outcome State Fault Refusal := .next (s.loadOp c d a imm 8 false)
/-- LD1S d, imm(a). -/
def execLd1s (c d a imm : Nat) (s : State) : Host.Outcome State Fault Refusal := .next (s.loadOp c d a imm 1 true)
/-- LD2S d, imm(a). -/
def execLd2s (c d a imm : Nat) (s : State) : Host.Outcome State Fault Refusal := .next (s.loadOp c d a imm 2 true)
/-- LD4S d, imm(a). -/
def execLd4s (c d a imm : Nat) (s : State) : Host.Outcome State Fault Refusal := .next (s.loadOp c d a imm 4 true)
/-- ST1 d, imm(a). -/
def execSt1 (c d a imm : Nat) (s : State) : Host.Outcome State Fault Refusal := .next (s.storeOp c d a imm 1)
/-- ST2 d, imm(a). -/
def execSt2 (c d a imm : Nat) (s : State) : Host.Outcome State Fault Refusal := .next (s.storeOp c d a imm 2)
/-- ST4 d, imm(a). -/
def execSt4 (c d a imm : Nat) (s : State) : Host.Outcome State Fault Refusal := .next (s.storeOp c d a imm 4)
/-- ST8 d, imm(a). -/
def execSt8 (c d a imm : Nat) (s : State) : Host.Outcome State Fault Refusal := .next (s.storeOp c d a imm 8)

/-! ## Atomics (Table DRI-10) -/

/-- ASWAP d, a, b. -/
def execAswap (c d a b : Nat) (s : State) : Host.Outcome State Fault Refusal :=
  .next (s.atomicOp c d a fun x _ => x.reg b)
/-- AADD d, a, b. -/
def execAadd (c d a b : Nat) (s : State) : Host.Outcome State Fault Refusal :=
  .next (s.atomicOp c d a fun x old => old + x.reg b)
/-- AOR d, a, b. -/
def execAor (c d a b : Nat) (s : State) : Host.Outcome State Fault Refusal :=
  .next (s.atomicOp c d a fun x old => old ||| x.reg b)
/-- AAND d, a, b. -/
def execAand (c d a b : Nat) (s : State) : Host.Outcome State Fault Refusal :=
  .next (s.atomicOp c d a fun x old => old &&& x.reg b)
/-- ACAS d, a, b: the location becomes b if it held d. -/
def execAcas (c d a b : Nat) (s : State) : Host.Outcome State Fault Refusal :=
  .next (s.atomicOp c d a fun x old => if old == x.reg d then x.reg b else old)

end Sys2Proof.Machine
end

