-- ==== Sys2Proof/Machine/Engine.lean ====
section
/-! DEFINITION. The engine operations of the Dreka instruction set (R142-R154, Table DRI-12) except the station and remote
ones: results and tickets, the header window, trees and hashes, queues and pails, cipher blocks, waits, leave and time. -/

namespace Sys2Proof.Machine

/-! ## Results and tickets (R142, R143) -/

/-- A result word: STATUS, TICKET and VALUE. -/
def resultWord (st slot val : Nat) : Word := BitVec.ofNat 64 (st * 2 ^ 56 + slot % 16 * 2 ^ 52 + val % 2 ^ 52)

/-- Issue an engine operation. -/
def State.engine (s : State) (c : Nat) (body : State → State) : State :=
  s.issueWith c 1 tagEngine false fun s => body (s.count c 0x05)

/-- A blocking operation answers its result word. -/
def State.blockResult (s : State) (c d st val : Nat) : State :=
  (s.tagUpd c fun t => { t with code := st }).retire c fun x => x.setReg d (resultWord st 0 val)

/-- An operand is invalid. -/
def State.badArg (s : State) (c : Nat) : State := s.fault c fcEngineArg 0

/-- A ticket slot of a context. -/
def Ctx.ticket (x : Ctx) (i : Nat) : Ticket := SMap.get x.tickets i .free

/-- Set a ticket slot. -/
def Ctx.setTicket (x : Ctx) (i : Nat) (t : Ticket) : Ctx := { x with tickets := SMap.set x.tickets i t .free }

/-- The lowest free ticket slot. -/
def Ctx.freeSlot (x : Ctx) : Option Nat := (List.range 8).find? fun i => x.ticket i == .free

/-- Post an operation in the lowest free slot, handing a frame off with it; with every slot taken it raises ENGINE_ARG.
`after` is what the issue does with the operation's number. -/
def State.post (s : State) (c d : Nat) (kind : OpKind) (f : Option Frame) (after : State → Nat → State) : State :=
  match (s.ctx c).freeSlot with
  | none => s.badArg c
  | some slot =>
    let id := s.drk.nextOp
    let own := match f with | some g => (s.ctx c).isOwn g.pail | none => false
    let o : Op := { ctx := c, slot, kind, frame := f, orphan := false, res := none, own }
    let s1 := { s with drk := { s.drk with ops := SMap.ins s.drk.ops id o, nextOp := id + 1 } }
    let s2 := s1.retire c fun x =>
      let y := (x.setTicket slot (.pending id)).setReg d (BitVec.ofNat 64 slot)
      match f with
      | some g => { y with owned := y.owned.filter (fun k => k.pail ≠ g.pail), gone := y.gone || own }
      | none => y
    after s2 id

/-- A frame the event owns, by its pail handle. -/
def Ctx.ownedAt (x : Ctx) (h : Nat) : Option Frame := if h = 0 then none else x.owned.find? fun f => f.pail == h

/-- Post a hand-off of an owned frame: the event's own one is written back first when it goes to a queue (R113, R148). -/
def State.handOff (s : State) (c d h : Nat) (kind : OpKind) (back : Bool) (after : State → Nat → State) : State :=
  match (s.ctx c).ownedAt h with
  | none => s.fault c fcPailOwner 0
  | some f =>
    if (s.ctx c).freeSlot.isNone then s.badArg c
    else (if back && (s.ctx c).isOwn h then s.writeBack c else s).post c d kind (some f) after

/-! ## Header window operations (R145) -/

/-- An operation on the event's own frame. -/
def State.ownFrameOp (s : State) (c : Nat) (body : State → Frame → State) : State :=
  match (s.ctx c).frame with
  | none => s.badArg c
  | some f => if (s.ctx c).gone then s.fault c fcPailOwner 0 else body s f

/-- Fill HEAD, LENGTH and PAIL from the frame as it stands. -/
def State.refillHead (s : State) (c : Nat) (f : Frame) : State :=
  let (s1, b) := s.frameSlice f 0 128
  s1.modCtx c fun x =>
    { x with win := setWin (setWin (setWin x.win 64 (slice b 0 128)) 6 (leBytes 2 f.len)) 8 (leBytes 4 f.pail) }

/-- The event's own frame has become `g`. -/
def State.reframe (s : State) (c : Nat) (f g : Frame) : State :=
  (s.modCtx c fun x =>
    { x with frame := some g, owned := x.owned.map fun k => if k.pail = f.pail then g else k }).refillHead c g

/-- HDR_FETCH d, a. -/
def execHdrFetch (c d a : Nat) (s : State) : Host.Outcome State Fault Refusal :=
  .next (s.engine c fun s => s.ownFrameOp c fun s f =>
    let off := ((s.ctx c).reg a).toNat
    if f.len ≤ off then s.badArg c
    else
      let (s1, b) := (s.writeBack c).frameSlice f off 64
      (s1.modCtx c fun x => { x with win := setWin x.win 192 (slice b 0 64) }).blockResult c d esOk (min 64 (f.len - off)))

/-- HDR_STORE d, a. -/
def execHdrStore (c d a : Nat) (s : State) : Host.Outcome State Fault Refusal :=
  .next (s.engine c fun s => s.ownFrameOp c fun s f =>
    let off := ((s.ctx c).reg a).toNat
    if f.len ≤ off then s.badArg c
    else
      let n := min 64 (f.len - off)
      let s1 := s.writeBack c
      ((s1.patchPails (s1.chain maxChain f.pail) off ((s.ctx c).winBytes 192 n)).refillHead c f).blockResult c d esOk n)

/-- Add `n` zero bytes before a frame's first byte: in the room of the first pail, or in a new pail; none when no pail is
free. -/
def State.pushFront (s : State) (c : Nat) (f : Frame) (n : Nat) : Option (State × Frame) :=
  let (next, start, fill) := s.link f.pail
  if n ≤ start then
    let s1 := (s.write (s.pailAddr f.pail + start - n) (List.replicate n 0)).1
    some (s1.setLink f.pail next (start - n) (fill + n), { f with len := f.len + n })
  else
    match s.allocPail c with
    | none => none
    | some (s1, h) =>
      let s2 := (s1.write (s1.pailAddr h + 512 - n) (List.replicate n 0)).1
      some (s2.setLink h f.pail (512 - n) n, { f with pail := h, len := f.len + n })

/-- HDR_PUSH d, a. -/
def execHdrPush (c d a : Nat) (s : State) : Host.Outcome State Fault Refusal :=
  .next (s.engine c fun s => s.ownFrameOp c fun s f =>
    let n := ((s.ctx c).reg a).toNat
    if n = 0 ∨ 128 < n ∨ 16383 < f.len + n then s.badArg c
    else
      let s1 := s.writeBack c
      match s1.pushFront c f n with
      | none => s1.blockResult c d esFull 0
      | some (s2, g) => (s2.reframe c f g).blockResult c d esOk g.len)

/-- Remove `n` bytes from the front of a chain: pails emptied return to the pool; the first pail left. -/
def State.pullFront (s : State) : List Nat → Nat → State × Nat
  | [], _ => (s, 0)
  | h :: t, n =>
    let (next, start, fill) := s.link h
    if n = 0 then (s, h)
    else if fill ≤ n ∧ t ≠ [] then State.pullFront (s.freePail h) t (n - fill)
    else (s.setLink h next (start + n) (fill - n), h)

/-- HDR_PULL d, a. -/
def execHdrPull (c d a : Nat) (s : State) : Host.Outcome State Fault Refusal :=
  .next (s.engine c fun s => s.ownFrameOp c fun s f =>
    let n := ((s.ctx c).reg a).toNat
    if n = 0 ∨ f.len ≤ n then s.badArg c
    else
      let s1 := s.writeBack c
      let (s2, h) := s1.pullFront (s1.chain maxChain f.pail) n
      (s2.reframe c f { f with pail := h, len := f.len - n }).blockResult c d esOk (f.len - n))

/-! ## Tree lookup and hash (R146, R147, R282, R272) -/

/-- TREE_LOOKUP d, a, b: tree.N, N being `t`. -/
def execTreeLookup (c d a b t : Nat) (s : State) : Host.Outcome State Fault Refusal :=
  .next (s.engine c fun s =>
    let x := s.ctx c
    let n := (x.reg b).toNat
    if n < 8 ∨ 64 < n ∨ n % 8 ≠ 0 then s.badArg c
    else
      match s.engineBytes c (x.reg a) n 8 with
      | none => s.badArg c
      | some key =>
        if !s.domOn .wired then s.blockResult c d esDomainDown 0
        else
          match (if x.frame.isSome then s.setSlot x.epoch else some (s.fg SKM_EPOCH SKM_EPOCH_CUR_SLOT)) with
          | none => s.blockResult c d esNoMatch 0
          | some k =>
            if s.treeKeyLen k (t % 4) ≠ n then s.badArg c
            else
              match s.treeWalk k (t % 4) key with
              | (s1, .match_ r act) => s1.blockResult c d esOk (r % 2 ^ 16 + act % 2 ^ 32 * 2 ^ 16)
              | (s1, _) => s1.blockResult c d esNoMatch 0)

/-- HASH d, a, b. -/
def execHash (c d a b : Nat) (s : State) : Host.Outcome State Fault Refusal :=
  .next (s.engine c fun s =>
    let x := s.ctx c
    let n := (x.reg b).toNat
    if n = 0 ∨ 64 < n then s.badArg c
    else
      match s.engineBytes c (x.reg a) n 1 with
      | none => s.badArg c
      | some m =>
        s.retire c fun y => y.setReg d (if s.domOn .wired then BitVec.ofNat 64 (toeplitz s.hashKey m) else 0))

/-- HASHIX d, a. -/
def execHashix (c d a : Nat) (s : State) : Host.Outcome State Fault Refusal :=
  .next (s.engine c fun s =>
    let i := ((s.ctx c).reg a).toNat
    if 511 < i then s.badArg c
    else s.retire c fun y => y.setReg d (if s.domOn .wired then BitVec.ofNat 64 (s.fg SKM_INDIR SKM_INDIR_CTX [i]) else 0))

/-! ## Queue and pail operations (R148-R150) -/

/-- ENQ_AIR d, a, b. -/
def execEnqAir (c d a b : Nat) (s : State) : Host.Outcome State Fault Refusal :=
  .next (s.engine c fun s =>
    let x := s.ctx c
    let v := (x.reg b).toNat
    if 2 ^ 19 ≤ v then s.badArg c
    else s.handOff c d (x.reg a).toNat (.enqAir (v % 2 ^ 16) (bits v 18 16)) true fun s _ => s)

/-- ENQ_TMG d, a, b: TXCTL is taken from window bytes 248-255 at issue (R263). -/
def execEnqTmg (c d a b : Nat) (s : State) : Host.Outcome State Fault Refusal :=
  .next (s.engine c fun s =>
    let x := s.ctx c
    let v := (x.reg b).toNat
    if 2 ^ 12 ≤ v ∨ 768 ≤ bits v 9 0 ∨ bits v 11 10 = 3 then s.badArg c
    else s.handOff c d (x.reg a).toNat (.enqTmg v (x.winBytes 248 8)) true fun s _ => s)

/-- DEQ_AIR d, a. -/
def execDeqAir (c d a : Nat) (s : State) : Host.Outcome State Fault Refusal :=
  .next (s.engine c fun s =>
    let q := ((s.ctx c).reg a).toNat
    if 8191 < q then s.badArg c
    else if !s.domOn .memory then s.blockResult c d esDomainDown 0
    else
      match (s.contest 4 q c).airDeq q with
      | (s1, none) => s1.blockResult c d esEmpty 0
      | (s1, some f) =>
        (s1.modCtx c fun x => { x with owned := x.owned ++ [f] }).blockResult c d esOk (f.pail + f.len * 2 ^ 32))

/-- DROP d, a. -/
def execDrop (c d a : Nat) (s : State) : Host.Outcome State Fault Refusal :=
  .next (s.engine c fun s =>
    match (s.ctx c).ownedAt ((s.ctx c).reg a).toNat with
    | none => s.fault c fcPailOwner 0
    | some f =>
      ((s.dropFrame f).modCtx c fun x =>
        { x with owned := x.owned.filter (fun k => k.pail ≠ f.pail), gone := x.gone || x.isOwn f.pail }).blockResult c d esOk 0)

/-- CLONE d, a: the copy is made when the operation completes. -/
def execClone (c d a : Nat) (s : State) : Host.Outcome State Fault Refusal :=
  .next (s.engine c fun s => s.handOff c d ((s.ctx c).reg a).toNat .clone false fun s _ => s)

/-! ## Cipher blocks and carry-less multiply (R151, R152) -/

/-- Post a cipher block: the input block is captured at issue. -/
def State.cblk (s : State) (c d a b : Nat) (enc : Bool) : State :=
  s.engine c fun s =>
    let x := s.ctx c
    let k := (x.reg b).toNat
    if 2 ^ 12 ≤ k then s.badArg c
    else
      match s.localInput c (x.reg a) 32 32 with
      | none => s.badArg c
      | some r => s.post c d (.cblk enc k (offsetOf (x.reg a)) (slice r 0 16)) none fun s _ => s

/-- CBLK_ENC d, a, b. -/
def execCblkEnc (c d a b : Nat) (s : State) : Host.Outcome State Fault Refusal := .next (s.cblk c d a b true)
/-- CBLK_DEC d, a, b. -/
def execCblkDec (c d a b : Nat) (s : State) : Host.Outcome State Fault Refusal := .next (s.cblk c d a b false)

/-- CLMUL d, a, b. -/
def execClmul (c d a b : Nat) (s : State) : Host.Outcome State Fault Refusal :=
  .next (s.engine c fun s => s.retire c fun x => x.setReg d (clLow (x.reg a) (x.reg b)))
/-- CLMULH d, a, b. -/
def execClmulh (c d a b : Nat) (s : State) : Host.Outcome State Fault Refusal :=
  .next (s.engine c fun s => s.retire c fun x => x.setReg d (clHigh (x.reg a) (x.reg b)))

/-! ## Waits (R153) -/

/-- The context collects a ready result into `d`, and its slot is free. -/
def Ctx.collect (x : Ctx) (slot d : Nat) (w : Word) : Ctx :=
  { (x.setTicket slot .free).setReg d w with st := .running, blocked := .nothing }

/-- WAIT d, a. -/
def execWait (c d a : Nat) (s : State) : Host.Outcome State Fault Refusal :=
  .next (s.engine c fun s =>
    let x := s.ctx c
    let i := (x.reg a).toNat
    if 7 < i then s.badArg c
    else
      match x.ticket i with
      | .free => s.badArg c
      | .ready w => s.retire c fun y => y.collect i d w
      | .pending _ => s.modCtx c fun y => { y with st := .waiting, blocked := .ticket i d })

/-- The lowest slot that holds a completed result. -/
def Ctx.firstReady (x : Ctx) : List Nat → Option (Nat × Word)
  | [] => none
  | i :: t => match x.ticket i with | .ready w => some (i, w) | _ => Ctx.firstReady x t

/-- WAITANY d. -/
def execWaitany (c d : Nat) (s : State) : Host.Outcome State Fault Refusal :=
  .next (s.engine c fun s =>
    let x := s.ctx c
    match x.firstReady (List.range 8) with
    | some (i, w) => s.retire c fun y => y.collect i d w
    | none =>
      if (List.range 8).all fun i => x.ticket i == .free then s.badArg c
      else s.modCtx c fun y => { y with st := .waiting, blocked := .anyTicket d })

/-- The timebase is read into a register (R412). -/
def State.readTime (s : State) (c d : Nat) : State :=
  let (s1, v) := s.readBy (.ctx c) 0x300000 s.tmb.ns
  s1.retire c fun x => { x.setReg d v with st := .running, blocked := .nothing }

/-- UNTIL d, a. -/
def execUntil (c d a : Nat) (s : State) : Host.Outcome State Fault Refusal :=
  .next (s.engine c fun s =>
    let t := ((s.ctx c).reg a).toNat
    if s.now + 1000000 < t then s.badArg c
    else if t ≤ s.now then s.readTime c d
    else s.modCtx c fun x => { x with st := .waiting, blocked := .instant t d })

/-- UNTIL_WAKE: the timebase has reached the instant a context waits for. -/
def execUntilWake (c : Nat) (s : State) : Host.Outcome State Fault Refusal :=
  match (s.ctx c).st, (s.ctx c).blocked with
  | .waiting, .instant t d => .next (if t ≤ s.now then (s.cross 38 1).readTime c d else s)
  | _, _ => .next s

/-! ## Leave, churn and time (R153) -/

/-- LEAVE_ASK d, a, b: only class 0x7 may be asked (R395). -/
def execLeaveAsk (c d a b : Nat) (s : State) : Host.Outcome State Fault Refusal :=
  .next (s.engine c fun s =>
    let x := s.ctx c
    let amount := (x.reg b).toNat
    if (x.reg a).toNat ≠ clsProgram ∨ amount = 0 ∨ 65535 < amount then s.badArg c
    else s.post c d .leave none fun s id =>
      let (s1, waits) := s.askLeave clsProgram amount 6 c
      if waits then
        let q := s1.pwr.queue
        { s1 with pwr := { s1.pwr with queue := q.dropLast ++ (q.getLast?.map fun l => { l with tag := id }).toList } }
      else
        match s1.openOp id with
        | some o => s1.answerOp id o esRefused 0 true
        | none => s1)

/-- LEAVE_GIVE d, a. -/
def execLeaveGive (c d a : Nat) (s : State) : Host.Outcome State Fault Refusal :=
  .next (s.engine c fun s =>
    let id := ((s.ctx c).reg a).toNat
    if (s.ctx c).grants.contains id then
      ((s.returnId id).modCtx c fun x => { x with grants := x.grants.filter fun g => g ≠ id }).blockResult c d esOk 0
    else s.badArg c)

/-- CHURN: the drain that hands the frame back to the skimmer begins; without a frame, or after the third churn, it raises
ENGINE_ARG and the frame stays with the event; a frame dropped or handed off raises PAIL_OWNER (R148). -/
def execChurn (c : Nat) (s : State) : Host.Outcome State Fault Refusal :=
  .next (s.engine c fun s =>
    let x := s.ctx c
    match x.frame with
    | none => s.badArg c
    | some _ =>
      if x.winByte 2 = 3 then s.badArg c
      else if x.gone then s.fault c fcPailOwner 0
      else s.modCtx c fun x => { x with st := .waiting, blocked := .drainChurn })

/-- TIME d: the timebase is read, and its fraction latched for the context. -/
def execTime (c d : Nat) (s : State) : Host.Outcome State Fault Refusal :=
  .next (s.engine c fun s =>
    ((s.cross 38 0).modCtx c fun x => { x with frac := s.nowFrac }).readTime c d)

/-- TIMEFRAC d. -/
def execTimefrac (c d : Nat) (s : State) : Host.Outcome State Fault Refusal :=
  .next (s.engine c fun s => s.retire c fun x => x.setReg d (BitVec.ofNat 64 x.frac))

end Sys2Proof.Machine
end

