-- ==== Sys2Proof/Machine/Remote.lean ====
section
/-! DEFINITION. Station atomics (R153, R182), the remote operations (R154), how a posted operation completes and how an event
ends (R141, R142, R148, R117), and the unassigned encodings (R131, R132). -/

namespace Sys2Proof.Machine

/-! ## Station atomics (R153) -/

/-- The words that sta.add, sta.or, sta.andn and sta.cas may write (Table WMC-3). -/
def staWritable (m : Nat) : Bool := (decide (8 ≤ m) && decide (m < 16)) || m == 27 || m == 28

/-- A station operation: `f` gives the word to write from its context and the old value, none to write nothing; `writes` says
that it can write. p7 says whether it was performed. -/
def State.staOp (s : State) (c d a : Nat) (writes : Bool) (f : Ctx → Word → Option Word) : State :=
  s.engine c fun s =>
    let x := s.ctx c
    let v := (x.reg a).toNat
    let n := v % 1024
    let m := bits v 20 16
    if 2 ^ 21 ≤ v ∨ (writes ∧ !staWritable m) then s.badArg c
    else
      let s0 := s.count c 0x0F
      if !s0.domOn .memory || !s0.ctxFor (v % 2 ^ 16) then s0.retire c fun y => (y.setPred 7 false).setReg d 0
      else
        let s1 := s0.contest 3 n c
        let old := BitVec.ofNat 64 (s1.cwSeen n m)
        let s2 := match f x old with | some w => s1.ctxProgWrite n m w.toNat | none => s1
        s2.retire c fun y => (y.setPred 7 true).setReg d old

/-- STA_LD d, a. -/
def execStaLd (c d a : Nat) (s : State) : Host.Outcome State Fault Refusal :=
  .next (s.staOp c d a false fun _ _ => none)
/-- STA_ADD d, a, b. -/
def execStaAdd (c d a b : Nat) (s : State) : Host.Outcome State Fault Refusal :=
  .next (s.staOp c d a true fun x old => some (old + x.reg b))
/-- STA_OR d, a, b. -/
def execStaOr (c d a b : Nat) (s : State) : Host.Outcome State Fault Refusal :=
  .next (s.staOp c d a true fun x old => some (old ||| x.reg b))
/-- STA_ANDN d, a, b. -/
def execStaAndn (c d a b : Nat) (s : State) : Host.Outcome State Fault Refusal :=
  .next (s.staOp c d a true fun x old => some (old &&& ~~~ x.reg b))
/-- STA_CAS d, a, b: writes b only if the old word equals d. -/
def execStaCas (c d a b : Nat) (s : State) : Host.Outcome State Fault Refusal :=
  .next (s.staOp c d a true fun x old => if old == x.reg d then some (x.reg b) else none)

/-! ## Remote operations (R154) -/

/-- RENQ d, a, b: one that names this device acts as enq.air. -/
def execRenq (c d a b : Nat) (s : State) : Host.Outcome State Fault Refusal :=
  .next (s.engine c fun s =>
    let x := s.ctx c
    let v := (x.reg b).toNat
    let dev := bits v 23 20
    if 2 ^ 24 ≤ v ∨ bitN v 19 then s.badArg c
    else if dev = s.self then s.handOff c d (x.reg a).toNat (.enqAir (v % 2 ^ 16) (bits v 18 16)) true fun s _ => s
    else s.handOff c d (x.reg a).toNat (.renq (v % 2 ^ 16) (bits v 18 16) dev) true State.sendRemote)

/-- RMSG d, a, b: one that names this device is taken when it completes. -/
def execRmsg (c d a b : Nat) (s : State) : Host.Outcome State Fault Refusal :=
  .next (s.engine c fun s =>
    let x := s.ctx c
    let dev := (x.reg b).toNat
    if 15 < dev then s.badArg c
    else
      match s.localInput c (x.reg a) 64 8 with
      | none => s.badArg c
      | some m => s.post c d (.rmsg dev m) none (if dev = s.self then fun s _ => s else State.sendRemote))

/-! ## How a posted operation completes (R142, R148, R117) -/

/-- Copy the checked words of one pail into another (R150): corrected data is encoded anew; an uncorrectable word is
written as stored. -/
def State.copyWords (s : State) (w v : Nat) : Nat → State
  | 0 => s
  | n + 1 =>
    let (s1, ok) := s.decodeWord w 3
    let d := s1.bytes (w * 32) 32
    let s2 := if ok then s1.writeWord v d else (s1.setBytes (v * 32) d).setDiff v (s1.diff w)
    State.copyWords s2 (w + 1) (v + 1) n

/-- Copy pails, each with its link entry. -/
def State.copyPails (s : State) : List Nat → List Nat → State
  | h :: t, k :: u =>
    let (_, start, fill) := s.link h
    let s1 := s.copyWords (s.pailAddr h / 32) (s.pailAddr k / 32) 16
    State.copyPails (s1.setLink k (getAt u 0 0) start fill) t u
  | _, _ => s

/-- Clone a frame: a frame of new pails; none when the pool has no room, and then nothing is taken. -/
def State.cloneFrame (s : State) (c : Nat) (f : Frame) : Option (State × Frame) :=
  let hs := s.chain maxChain f.pail
  match s.allocPails c hs.length with
  | none => none
  | some (s1, ks) => some (s1.copyPails hs ks, { f with pail := getAt ks 0 0, ring := 0, taken := false, ts := none })

/-- An event owns a frame more. -/
def State.ownFrame (s : State) (c : Nat) (f : Frame) : State := s.modCtx c fun x => { x with owned := x.owned ++ [f] }

/-- A posted operation's result reaches its ticket: a context that waits for it takes it at once. -/
def State.ticketDone (s : State) (o : Op) (st val : Nat) : State :=
  let w := resultWord st o.slot val
  let x := s.ctx o.ctx
  match x.st, x.blocked with
  | .waiting, .ticket i d =>
    if i = o.slot then s.retire o.ctx fun y => y.collect i d w else s.modCtx o.ctx fun y => y.setTicket o.slot (.ready w)
  | .waiting, .anyTicket d => s.retire o.ctx fun y => y.collect o.slot d w
  | _, _ => s.modCtx o.ctx fun y => y.setTicket o.slot (.ready w)

/-- An operation completes with a status and value: a frame still its event's returns to it, and `extra` is a frame it has
made. An operation whose event has ended returns both to the pool (R117). -/
def State.completeOp (s : State) (id : Nat) (o : Op) (st val : Nat) (f extra : Option Frame) : State :=
  let s1 := { s with drk := { s.drk with ops := SMap.del s.drk.ops id } }
  let fs := f.toList ++ extra.toList
  if o.orphan then s1.dropFrames fs
  else
    let s2 := fs.foldl (fun t g => t.ownFrame o.ctx g) s1
    (if o.own && f.isSome then s2.modCtx o.ctx fun x => { x with gone := false } else s2).ticketDone o st val

/-- ENGINE_OP_COMPLETE (R142): an answered operation completes. A clone is made now, and an rmsg to this device is taken
now, unless it raises an event whose eligible FIFOs are all full. -/
def execEngineOpComplete (id : Nat) (s : State) : Host.Outcome State Fault Refusal :=
  match SMap.find s.drk.ops id with
  | none => .next s
  | some o =>
    match o.res, o.kind, o.frame with
    | some (st, val), _, f => .next (s.completeOp id o st val f none)
    | none, .clone, some f =>
      match s.cloneFrame o.ctx f with
      | some (s1, g) => .next (s1.completeOp id o esOk g.pail (some f) (some g))
      | none => .next (s.completeOp id o esFull 0 (some f) none)
    | none, .rmsg dev m, _ =>
      if dev = s.self ∧ !s.storesBefore o.ctx id then
        match s.msgExec dev m with
        | some (s1, st) => .next (s1.completeOp id o st 0 none none)
        | none => .next s
      else .next s
    | none, .leave, _ => .next (if o.orphan then s.completeOp id o esRefused 0 none none else s)
    | none, _, _ => .next s

/-! ## The end of an event (R141, R153) -/

/-- The event ends at END: pails it still owns return and their frames are counted. -/
def State.endEvent (s : State) (c : Nat) : State :=
  let s1 := s.writeBack c
  let fs := (s1.ctx c).owned
  let s2 := s1.dropFrames fs
  (if fs.isEmpty then s2 else s2.bump DRK_END_FREED [] fs.length).leaveEvent c true

/-- The event ends by its churn: its own frame joins the churn queue with CHURN + 1 (R287); other frames it owns return. -/
def State.churnEvent (s : State) (c : Nat) (f : Frame) : State :=
  let s1 := s.writeBack c
  let x := s1.ctx c
  let fs := x.owned.filter fun k => k.pail ≠ f.pail
  let s2 := s1.dropFrames fs
  let s3 := if fs.isEmpty then s2 else s2.bump DRK_END_FREED [] fs.length
  (s3.leaveEvent c false).skmEnter 0 { f with churn := f.churn + 1, home := c, indir := x.indir }

/-- END_DRAIN_DONE (R141): once every posted operation and store of the event has completed, the event ends. A churn waits
for room in the churn queue (R270), and while WIRED is not on it acts as END (R272). -/
def execEndDrainDone (c : Nat) (s : State) : Host.Outcome State Fault Refusal :=
  let x := s.ctx c
  match x.st, x.blocked with
  | .waiting, .drain => .next (if s.drained c then s.endEvent c else s)
  | .waiting, .drainChurn =>
    if s.drained c then
      if s.domOn .wired then
        match x.frame with
        | some f => .next (if (SMap.get s.skm.inputs 0 []).length < 256 then s.churnEvent c f else s)
        | none => .next (s.endEvent c)
      else .next (s.endEvent c)
    else .next s
  | _, _ => .next s

/-! ## Encodings (R131, R132, Table DRI-2) -/

/-- The assigned fn values of the engines 0x00 to 0x0B (Table DRI-12). -/
def engineFns : List Nat := [4, 4, 2, 5, 2, 2, 3, 2, 1, 2, 5, 2]

/-- A form A word of majors 0x01 to 0x03, 0x1C, 0x1D and 0x22 is assigned. -/
def formA (maj d a b fn : Nat) : Bool :=
  if maj = 0x01 then decide (fn ≤ 0x0E) || (decide (fn ≤ 0x13) && b == 0) || (decide (0x20 ≤ fn) && decide (fn ≤ 0x27))
  else if maj = 0x02 then decide (fn ≤ 7) && decide (d < 8)
  else if maj = 0x03 then
    if fn ≤ 3 then decide (d < 8) && decide (a < 8) && decide (b < 8)
    else if fn = 4 then decide (d < 8) && decide (a < 8) && b == 0
    else if fn = 5 then a == 0 && b == 0
    else fn == 6 && d == 0 && b == 0
  else if maj = 0x1C then decide (fn ≤ 4)
  else if maj = 0x1D then
    if fn ≤ 2 then d == 0 && a == 0 && b == 0 else decide (fn ≤ 4) && b == 0
  else fn == 0 && b == 0

/-- An instruction word whose encoding is assigned. -/
def assigned (w : Nat) : Bool :=
  let maj := bits w 31 26
  let d := bits w 25 21
  let a := bits w 20 16
  let b := bits w 15 11
  if maj = 0x01 ∨ maj = 0x02 ∨ maj = 0x03 ∨ maj = 0x1C ∨ maj = 0x1D ∨ maj = 0x22 then formA maj d a b (bits w 10 0)
  else if (0x04 ≤ maj ∧ maj ≤ 0x07) ∨ maj = 0x0A ∨ maj = 0x0B then true
  else if maj = 0x08 then bits w 7 6 != 3 && bits w 15 8 == 0
  else if maj = 0x09 then a == 0
  else if maj = 0x0C then decide (bits w 3 0 ≤ 3) && decide (bits w 15 10 + bits w 9 4 + 1 ≤ 64)
  else if (0x10 ≤ maj ∧ maj ≤ 0x16) ∨ (0x18 ≤ maj ∧ maj ≤ 0x1B) then true
  else if maj = 0x20 ∨ maj = 0x21 then !bitN w 24
  else if maj = 0x28 then
    let eng := bits w 10 6
    let fn := bits w 5 0
    decide (fn < getAt engineFns eng 0) && (eng != 8 || (d == 0 && a == 0 && b == 0))
  else if maj = 0x30 then decide (bits w 15 0 ≤ 3) && (decide (2 ≤ bits w 15 0) || a == 0)
  else if maj = 0x3E then bits w 19 0 == 0
  else false

/-- UNASSIGNED_INSTRUCTION (R132): a context issues a word whose encoding is unassigned, which raises ILLEGAL unless it is
squashed. A squashed word of form X takes two words, as its major opcode says (Table DRI-2). -/
def execUnassignedInstruction (c w : Nat) (s : State) : Host.Outcome State Fault Refusal :=
  if assigned w then .next s
  else
    let x := s.ctx c
    let n := if w / 2 ^ 26 = 0x30 ∧ x.guardN ≠ 0 ∧ x.guardSquash then 2 else 1
    .next (s.issueWith c n 0 false fun s => s.fault c fcIllegal 0)

end Sys2Proof.Machine
end

