-- ==== Sys2Proof/Machine/Sched.lean ====
section
/-! DEFINITION. Program images and the life of events on cores (R110, R118-R121, R123): loading, committing and unloading
images, the switch of a core, dispatch, the start of an event and the handover of a benched context. -/

namespace Sys2Proof.Machine

/-! ## Program images (R118, Tables DRK-6 and DRK-8) -/

/-- The first failed check of an image of `len` bytes, in the order of Table DRK-8; 0 for none. -/
def imageCheck (b : Bytes) (len : Nat) : Nat :=
  let code := leAt b 12 4
  let data := leAt b 16 4
  let shared := leAt b 20 4
  let far (x : Nat) : Bool := x != noEntry && decide (code / 4 ≤ x)
  if leAt b 0 4 ≠ 0x494B5244 ∨ leAt b 4 2 ≠ 1 then 1
  else if leAt b 6 2 = 0 ∨ leAt b 10 2 ≠ 0 ∨ !((slice b 96 160).all (· == 0)) ∨ leAt b 24 4 = 0 ∨ 65535 < leAt b 24 4 ∨
      8 ≤ leAt b 9 1 then 2
  else if len ≠ 256 + code + data + shared ∨ code < 4 ∨ 262144 < code ∨ code % 4 ≠ 0 ∨ 65536 < data ∨ 262144 < shared then 3
  else if leAt b 8 1 < 3 ∨ 6 < leAt b 8 1 then 4
  else if far (leAt b 28 4) || (List.range 7).any (fun i => far (leAt b (36 + 4 * i) 4)) then 5
  else 0

/-- The image that bytes spell. -/
def imageOf (b : Bytes) : Image :=
  let code := leAt b 12 4
  let data := leAt b 16 4
  { id := leAt b 6 2, mr := leAt b 8 1, flags := leAt b 9 1, dataLen := data, sharedLen := leAt b 20 4,
    budget := leAt b 24 4, faultEntry := leAt b 28 4, entry := (List.range 16).map fun i => leAt b (32 + 4 * i) 4,
    code := slice b 256 code, data := slice b (256 + code) data }

/-- The cores of a mask. -/
def maskCores (mask : Nat) : List Nat := (List.range 96).filter fun n => bitN mask n

/-- An image is resident in a cluster: a core of it is bound to it, draining it or switching to it, or it is staged there. -/
def State.resident (s : State) (l k : Nat) : Bool :=
  s.drk.cores.any (fun e => e.1 / 8 == k && (e.2.bound == l || e.2.switching == some l)) ||
    s.drk.loads.any fun x => x.num == l && !x.committed && (maskCores x.mask).any fun n => n / 8 == k

/-- The bytes of a cluster's shared memory that resident images hold. -/
def State.clusterUsed (s : State) (k : Nat) : Nat :=
  ((s.drk.images.filter fun e => s.resident e.1 k).map fun e => e.2.code.length + e.2.sharedLen).sum

/-- The clusters of a mask. -/
def maskClusters (mask : Nat) : List Nat := (List.range 12).filter fun k => (maskCores mask).any fun n => n / 8 == k

/-- A command that loads or unloads ends, and the next may start. -/
def State.loadEnds (s : State) (l : Load) (d : HDone) : State :=
  ({ s with drk := { s.drk with loads := [] } }).hifDone l.qp l.cseq d

/-- Free an image's sections in the clusters where it is no longer resident (R121). -/
def State.freeImage (s : State) (l : Nat) : State :=
  let shared := s.drk.shared.keep fun k => k / 12 != l || s.resident l (k % 12)
  let kept := (List.range 12).any fun k => s.resident l k
  { s with drk := { s.drk with shared, images := if kept then s.drk.images else SMap.del s.drk.images l } }

/-- Place the shared section of a staged image in the clusters of a mask. -/
def State.placeShared (s : State) (l : Nat) (b : Bytes) : List Nat → State
  | [] => s
  | k :: t =>
    let shared := SMap.set s.drk.shared (l * 12 + k) (setWin [] 0 b) []
    State.placeShared { s with drk := { s.drk with shared } } l b t

/-- Stage a checked image: its code and shared sections are placed in every cluster that holds a selected core, or there is
no space (R120). -/
def State.stageImage (s : State) (c : HCmd) (b : Bytes) : State :=
  let img := imageOf b
  let ks := maskClusters c.coreMask
  if ks.any fun k => decide (524288 < s.clusterUsed k + img.code.length + img.sharedLen) then
    s.hifDone c.qp c.cseq { status := stRefused, result := 6 }
  else
    let l := s.drk.nextLoad
    let x : Load := { qp := c.qp, cseq := c.cseq, mask := c.coreMask, num := l, image := img.id, mr := img.mr,
                      digest := sha384 b, committed := false, result := 0 }
    let images := SMap.ins s.drk.images l img
    ({ s with drk := { s.drk with images, nextLoad := l + 1, loads := [x] } }).placeShared l
      (slice b (256 + img.code.length + img.dataLen) img.sharedLen) ks

/-- IMAGE_LOAD (R119, R120): the image is fetched, hashed, checked and placed; loads run one at a time. A request for a
register that is not a loader's is logged (R65). -/
def execImageLoad (qp cseq : Nat) (data : Option Bytes) (s : State) : Host.Outcome State Fault Refusal :=
  match s.starting qp cseq 0x10 with
  | none => .next s
  | some c =>
    if c.loadMode ≠ 0 ∨ !s.drk.loads.isEmpty ∨ s.deaf then .next s
    else
      let s1 := s.markStarted qp cseq
      if c.domains.any fun d => !s1.domOn d then .next (s1.hifDone qp cseq { status := stDomainDown })
      else
        match s.hostData qp data with
        | none => .next (s1.hifDone qp cseq { status := stHostUnreachable })
        | some d =>
          let b := slice d 0 c.len0
          let s2 := s1.input 4 qp b
          let code := imageCheck b c.len0
          let s3 := if code = 4 then s2.logEv 0 0x0B 0 (leAt b 8 1) else s2
          .next (if code = 0 then s3.stageImage c b else s3.hifDone qp cseq { status := stRefused, result := code })

/-- Cores begin to switch: dispatch to their contexts stops. -/
def State.beginSwitch (s : State) (l : Nat) : List Nat → State
  | [] => s
  | n :: t => State.beginSwitch (s.setCore n { s.core n with switching := some l }) l t

/-- IMAGE_COMMIT (R120, R66): the staged image is measured into its MR, after every earlier extend (R68), and its cores
begin to switch. A core whose domain has left on fails the load, which then leaves everything as it was. -/
def execImageCommit (s : State) : Host.Outcome State Fault Refusal :=
  match s.drk.loads with
  | x :: _ =>
    if x.num = 0 ∨ x.committed ∨ !s.sec.extends_.isEmpty then .next s
    else if (maskCores x.mask).any fun n => !s.domOn (Dom.ofCore n) then
      .next ((s.loadEnds x { status := stDomainDown }).freeImage x.num)
    else
      let seq := if s.sec.count < 1024 then s.sec.count else 0xFFFFFFFF
      let s1 := (s.contest 13 0 512).extend_ { mr := x.mr, source := 1, image := x.image, digest := x.digest }
      let y := { x with committed := true, result := seq * 2 ^ 32 }
      .next (({ s1 with drk := { s1.drk with loads := [y] } }).beginSwitch x.num (maskCores x.mask))
  | [] => .next s

/-- IMAGE_UNLOAD (R121): the selected cores bound to the named image begin to leave it. -/
def execImageUnload (qp cseq : Nat) (s : State) : Host.Outcome State Fault Refusal :=
  match s.starting qp cseq 0x10 with
  | none => .next s
  | some c =>
    if c.loadMode ≠ 1 ∨ !s.drk.loads.isEmpty then .next s
    else
      let s1 := s.markStarted qp cseq
      if c.domains.any fun d => !s1.domOn d then .next (s1.hifDone qp cseq { status := stDomainDown })
      else
        let ns := (maskCores c.coreMask).filter fun n => (s1.core n).bound != 0 && (s1.coreImage n).id == c.target
        if ns.isEmpty then .next (s1.hifDone qp cseq { status := stRefused, result := 7 })
        else
          let x : Load := { qp, cseq, mask := (ns.map fun n => 2 ^ n).sum, num := 0, image := c.target, mr := 0, digest := [],
                            committed := true, result := (Config.unloadResult c.target).toNat * 2 ^ 32 }
          .next (({ s1 with drk := { s1.drk with loads := [x] } }).beginSwitch 0 ns)

/-! ## The switch of a core (R121) -/

/-- The command of the load in progress completes when none of its cores still has to switch. -/
def State.loadCheck (s : State) : State :=
  match s.drk.loads with
  | x :: _ =>
    if x.committed && !(maskCores x.mask).any fun n => (s.core n).switching == some x.num then
      s.loadEnds x { status := stOk, result := x.result }
    else s
  | [] => s

/-- Bind a context anew: KEEP is 0, and START, if the image has it, is the context's next event. -/
def State.bindCtx (s : State) (img : Option Image) (c : Nat) : State :=
  s.modCtx c fun x =>
    let start := match img with | some i => if i.entryOf 7 != noEntry then [({ typ := 7, pinned := some c } : Ev)] else [] | none => []
    { x with st := if img.isSome then .idle else .unbound, keep := [], fifo := start }

/-- Send the held events of a list of contexts on their way. -/
def State.resendHeld (s : State) : List Nat → State
  | [] => s
  | c :: t => State.resendHeld ((s.setCtx c { s.ctx c with held := [] }).resend (s.ctx c).held) t

/-- A drained core takes its new image, or none. -/
def State.switchCore (s : State) (n l : Nat) : State :=
  let old := (s.core n).bound
  let img := if l = 0 then none else some (s.image l)
  let k := s.core n
  let locl := match img with | some i => setWin k.locl 0 i.data | none => k.locl
  let s1 := s.setCore n { k with bound := l, switching := none, locl }
  let s2 := (ctxsOf n).foldl (fun (t : State) c => t.bindCtx img c) s1
  let s3 := if old = 0 then s2 else s2.freeImage old
  s3.loadCheck.resendHeld ((ctxsOf n).flatMap fun c => sameNumber c)

/-- CORE_SWITCH (R121): a core whose old-image events have drained switches. The load also ends once its last core is
gone with its domain. -/
def execCoreSwitch (n : Nat) (s : State) : Host.Outcome State Fault Refusal :=
  match (s.core n).switching with
  | some l => .next (if (ctxsOf n).all fun c => (s.ctx c).quiet then s.switchCore n l else s)
  | none => .next s.loadCheck

/-! ## Dispatch (R110, R103, R123) -/

/-- EVENT_DISPATCH (R110): the dispatcher places the first raised event that can go on a context's FIFO, or drops it. -/
def execEventDispatch (s : State) : Host.Outcome State Fault Refusal := .next (s.dispatchFirst [] s.drk.raised)

/-- EVENT_START (R103): a context takes the head of its FIFO. -/
def execEventStart (c : Nat) (s : State) : Host.Outcome State Fault Refusal :=
  .next (if s.domOn (Dom.ofCore (c / 4)) then s.startEvent c else s)

/-- BENCH_HANDOVER (R123, R124): once the context that serves a named context is quiet, the held events go to the one that
should serve it. -/
def execBenchHandover (c : Nat) (s : State) : Host.Outcome State Fault Refusal :=
  .next ((s.reassign c).drainHeld c 8)

end Sys2Proof.Machine
end

