-- ==== Sys2Proof/Machine/Monitor.lean ====
section
/-! DEFINITION. What the device's edges show: the boundary FIFOs (R50), whistled reads (R333), instruction tags (R407), the
scorebook's clock (R411) and the test access port (R439). -/

namespace Sys2Proof.Machine

/-! ## Boundary FIFOs (R50, Table PAC-4) -/

/-- A boundary event is logged, under the CSR block of the FIFO's clocked side. -/
def State.fifoLog (s : State) (block : Nat) : State := s.logEv block 0x0A 0 0

/-- A PPDU leaving a unit, in an exchange or as a response, is aborted at once. -/
def State.cutTx (s : State) (x : Nat) : State :=
  if (s.exch x).isSome then s.abortTx x else if s.sending x then s.cutBursts x else s

/-- A transmit lane of a unit underruns: a PPDU being sent is aborted at once (R217). -/
def State.wbUnderrun (s : State) (x : Nat) : State :=
  if x < 3 ∧ s.felUp x then ((s.cutTx x).bump WB_TX_UNDERRUN [x]).fifoLog (0x12 + x) else s

/-- A receive lane of a unit overruns: a PPDU in reception is dropped. -/
def State.wbOverrun (s : State) (x : Nat) : State :=
  if x < 3 ∧ s.felUp x then
    ((if s.receiving x then s.setRx x { (s.wbx x).rx with st := 0 } else s).bump WB_RX_OVERRUN [x]).fifoLog (0x12 + x)
  else s

/-- The TIQ port underruns: the ramp-down runs, then silence (R237). -/
def State.tiqUnderrun (s : State) : State :=
  if s.tlmOn then (s.tlmCut.tlmAirEnd.bump TLM_TIQ_UNDERRUN).fifoLog 0x18 else s

/-- The TIQ port overruns: a frame in reception is dropped. -/
def State.tiqOverrun (s : State) : State :=
  if s.tlmOn then (s.tlmDropRx.bump TLM_TIQ_OVERRUN).fifoLog 0x18 else s

/-- A frame or segment in transmission ends after `sent` bytes with an error code and an inverted FCS. -/
def State.txBroken (s : State) (p sub sent : Nat) : State :=
  match s.txOf p sub with
  | none => s
  | some o =>
    let s2 := s.txCut p sub sent o
    (if o.last then s2.freeFrame o.frame else s2).flushPause p sub

/-- A sub-port's transmit FIFO underruns. -/
def State.ethUnderrun (s : State) (p sub sent : Nat) : State :=
  if p < 2 ∧ sub < 4 ∧ s.domOn .wired then
    ((s.txBroken p sub sent).bump ETH_TX_UNDERRUN [p, sub]).fifoLog (0x20 + p)
  else s

/-- A sub-port's receive FIFO overruns: the frame in reception is dropped and counted (R260). -/
def State.ethOverrun (s : State) (p sub : Nat) : State :=
  if p < 2 ∧ sub < 4 ∧ s.domOn .wired then
    (match s.rxOf p sub with
      | some i => s.rxDrop p sub i ETH_RX_OVERRUN
      | none => s.bump ETH_RX_OVERRUN [p, sub]).fifoLog (0x20 + p)
  else s

/-- An event of a link's FIFO is counted; the spec names no register for this count. -/
def State.fifoCount (s : State) (l : Nat) : State :=
  { s with obs := { s.obs with fifos := SMap.set s.obs.fifos l (SMap.get s.obs.fifos l 0 + 1) 0 } }

/-- A Falpo link (0-5) or the bond port (6): underrun sends idle flits, overrun leaves a flit unacknowledged for link-level
retry; no other state changes. -/
def State.linkFifo (s : State) (l : Nat) : State :=
  if l < 6 ∧ (SMap.get s.fab.links l {}).st = 2 then (s.fifoCount l).fifoLog 0x30
  else if l = 6 ∧ s.bnd.port.st = 2 then (s.fifoCount l).fifoLog 0x31
  else s

/-- BOUNDARY_FIFO_EVENT (R50): a FIFO underruns or overruns. -/
def execBoundaryFifoEvent (f : BoundaryFifo) (s : State) : Host.Outcome State Fault Refusal :=
  match f with
  | .jesdTx lane => .next (if lane < 16 then s.wbUnderrun (s.fg FEL_TXLANE FEL_TXLANE_UNIT [lane]) else s)
  | .jesdRx lane => .next (if lane < 16 then s.wbOverrun (s.fg FEL_RXLANE FEL_RXLANE_UNIT [lane]) else s)
  | .tiqTx => .next s.tiqUnderrun
  | .tiqRx => .next s.tiqOverrun
  | .ethTx p sub sent => .next (s.ethUnderrun p sub sent)
  | .ethRx p sub => .next (s.ethOverrun p sub)
  | .linkTx l => .next (s.linkFifo l)
  | .linkRx l => .next (s.linkFifo l)

/-! ## Whistles (R333) -/

/-- WHISTLE (R333): the read of a whistle port at a DRAM address, the instant by which it needs its data and the instant at
which the data arrives; `p` and `sub` name the sub-port of port W4. Late data acts as an underrun of the port's FIFO. -/
def execWhistle (port a need arrive p sub sent : Nat) (s : State) : Host.Outcome State Fault Refusal :=
  match s.whistleRead port a need arrive with
  | (s1, late) =>
    .next (if !late then s1
      else if port < 3 then s1.wbUnderrun port
      else if port = 3 then s1.tiqUnderrun
      else s1.ethUnderrun p sub sent)

/-! ## Instruction tags (R407) -/

/-- The 32 bytes of a tag sample (Table OBS-2). -/
def tagSample (t : TagRec) (image exec wait : Nat) : Bytes :=
  leBytes 4 t.pc ++ leBytes 2 image ++ leBytes 2 (t.ctx + t.flags) ++ leBytes 4 t.insn ++ leBytes 4 t.addr ++
    leBytes 8 t.issue ++ leBytes 2 exec ++ leBytes 2 wait ++ leBytes 1 t.space ++ leBytes 1 t.code ++ [0, 0]

/-- TAG_SAMPLE (R407): a core's tagged instruction has ended, `wait` ns of it spent blocked. The sample enters the ring, or
is lost when the ring is full. -/
def execTagSample (core wait : Nat) (s : State) : Host.Outcome State Fault Refusal :=
  match (s.core core).tag with
  | none => .next s
  | some t =>
    let s1 := s.setCore core { s.core core with tag := none }
    let exec := min 65535 (t.ended.getD s.now - t.issue)
    let size := 2 ^ s.fg PMC_TAG_RING PMC_TAG_RING_SIZE_LOG2
    let head := (s.rg PMC_TAG_HEAD).toNat
    let tail := (s.rg PMC_TAG_TAIL).toNat
    .next (if (head + 2 ^ 32 - tail) % 2 ^ 32 = size || !s.domOn .memory then s1.bump PMC_TAG_LOST
    else
      let a := s.fg PMC_TAG_RING PMC_TAG_RING_BASE * 4096 + 32 * (head % size)
      (s1.writeWord (a / 32) (tagSample t (s.coreImage core).id exec (min exec wait))).wg PMC_TAG_HEAD
        (BitVec.ofNat 64 ((head + 1) % 2 ^ 32)))

/-! ## The scorebook's clock (R411) -/

/-- SCB_TIME_RECORD (R411): a millisecond has passed since the last TIME record. -/
def execScbTimeRecord (s : State) : Host.Outcome State Fault Refusal :=
  .next (if s.recording ∧ s.obs.lastTime + 1000000 ≤ s.now then s.scbTime else s)

/-! ## The test access port (R400, R439) -/

/-- The domains of the boundary cells: the low-speed balls in the order of Table PKG-3, row by row, then PERST_N. -/
def ballDoms : List Dom :=
  List.replicate 14 .aon ++ [.rada, .aon, .rada, .rada, .rada, .aon, .radb] ++ List.replicate 4 .aon ++
    [.radb, .radb, .radb, .aon, .radc, .aon, .radc, .radc, .radc, .aon, .telem, .telem, .aon, .telem, .telem, .aon, .telem,
     .telem, .aon, .telem, .telem, .telem, .telem, .host]

/-- A bit map of 49 cells takes new values where the cell's domain is on (R439). -/
def State.cellMap (s : State) (old : SMap Bool) (v : Nat) : SMap Bool :=
  (List.range 49).foldl (fun (m : SMap Bool) i =>
    if s.domOn (getAt ballDoms i .aon) then SMap.set m i (bitN v i) false else m) old

/-- Take an instruction into the register. -/
def State.setIr (s : State) (v : BitVec 8) : State := { s with tap := { s.tap with ir := v } }

/-! ## The control balls (R217, R238, R393, R438, R439) -/

/-- A domain drives its output balls: from the instant it is on until it switches down (R391, R393); with TEST_EN high at the
PWRGD rise none does (R420). -/
def State.drives (s : State) (d : Dom) : Bool :=
  !s.tap.testEn && (s.domState d == 2 || (match s.moveOf d with | some (.down _) => true | _ => false))

/-- The level that the device's own logic gives a control ball of Table PKG-3, by its place in the boundary register: PA_EN_x
and PA_RAMP_x0 to x2 of unit x, TLM_PA_EN and TLM_ANT_SEL; none for the other balls. -/
def State.ballLogic (s : State) (i : Nat) : Option Bool :=
  if i = 14 then some (s.paEn 0)
  else if i = 20 then some (s.paEn 1)
  else if i = 29 then some (s.paEn 2)
  else if 16 ≤ i ∧ i ≤ 18 then some (bitN (s.paRamp 0) (i - 16))
  else if 25 ≤ i ∧ i ≤ 27 then some (bitN (s.paRamp 1) (i - 25))
  else if 31 ≤ i ∧ i ≤ 33 then some (bitN (s.paRamp 2) (i - 31))
  else if i = 46 then some s.tlmPaEn
  else if i = 47 then some s.tlmTuned.2
  else none

/-- The level at a control ball, and none where it floats: the board's pull-down holds the PA balls low then (R438), and
nothing is stated to hold TLM_ANT_SEL. EXTEST and CLAMP put the boundary cell's value in place of the logic's; HIGHZ floats the
ball (R439). -/
def State.ball (s : State) (i : Nat) : Option Bool :=
  match s.ballLogic i with
  | none => none
  | some v =>
    let floats := !s.drives (getAt ballDoms i .aon) || s.tap.ir == 0x03
    if floats then (if i = 47 then none else some false)
    else if s.tap.ir = 0x00 ∨ s.tap.ir = 0x02 then some (SMap.get s.tap.cells i false)
    else some v

/-- What a scan samples: the control balls at their own levels, the others at the board's. -/
def State.sampledBalls (s : State) (balls : Nat) : Nat :=
  ((List.range 49).map fun i => if (s.ball i).getD (bitN balls i) then 2 ^ i else 0).sum

/-- A scan of the boundary register: the balls are sampled and the cells take the values shifted in. -/
def State.scan (s : State) (balls shifted : Nat) : State :=
  { s with tap := { s.tap with
      sampled := s.cellMap s.tap.sampled (s.sampledBalls balls), cells := s.cellMap s.tap.cells shifted } }

/-- TAP_RESET (R400, R439): TRST_N low resets the TAP alone; BYPASS is selected. -/
def execTapReset (s : State) : Host.Outcome State Fault Refusal := .next (s.setIr 0xFF)

/-- EXTEST: the boundary cells drive the balls; a scan samples the balls and gives the cells new values. -/
def execExtest (scan : Option (Nat × Nat)) (s : State) : Host.Outcome State Fault Refusal :=
  match scan with
  | some (balls, shifted) => .next ((s.setIr 0x00).scan balls shifted)
  | none => .next (s.setIr 0x00)

/-- SAMPLE/PRELOAD: the balls are sampled and the boundary register is preloaded. -/
def execSamplePreload (balls shifted : Nat) (s : State) : Host.Outcome State Fault Refusal :=
  .next ((s.setIr 0x01).scan balls shifted)

/-- CLAMP: the boundary cells drive the balls with BYPASS selected. -/
def execClamp (s : State) : Host.Outcome State Fault Refusal := .next (s.setIr 0x02)

/-- HIGHZ: every output floats. -/
def execHighz (s : State) : Host.Outcome State Fault Refusal := .next (s.setIr 0x03)

/-- BYPASS: any instruction value of Table PKG-10 that selects the bypass register or acts as BYPASS. -/
def execBypass (ir : BitVec 8) (s : State) : Host.Outcome State Fault Refusal :=
  .next (if 4 ≤ ir.toNat then s.setIr ir else s)

end Sys2Proof.Machine
end

