-- ==== Sys2Proof/Machine/Dispatch.lean ====
section
/-! DEFINITION. The meaning of every command: one arm for each, one direct call of its meaning. -/

namespace Sys2Proof.Machine

def exec (i : Instr) (s : State) : Host.Outcome State Fault Refusal :=
  match i with
  | .csrWrite who off n v => Sys2Proof.Machine.execCsrWrite who off n v s
  | .rcRead who bar2 off n => Sys2Proof.Machine.execRcRead who bar2 off n s
  | .unmappedAccess who a n write v => Sys2Proof.Machine.execUnmappedAccess who a n write v s
  | .downBlockAccess who a n write v => Sys2Proof.Machine.execDownBlockAccess who a n write v s
  | .paceWindowEnd counts => Sys2Proof.Machine.execPaceWindowEnd counts s
  | .avsEnable who cfg mode cmd => Sys2Proof.Machine.execAvsEnable who cfg mode cmd s
  | .avsDisable who cfg => Sys2Proof.Machine.execAvsDisable who cfg s
  | .avsIteration => Sys2Proof.Machine.execAvsIteration s
  | .pmbusAttemptEnd ok => Sys2Proof.Machine.execPmbusAttemptEnd ok s
  | .refLost => Sys2Proof.Machine.execRefLost s
  | .refReturn => Sys2Proof.Machine.execRefReturn s
  | .tmbRateWrite who v => Sys2Proof.Machine.execTmbRateWrite who v s
  | .timebaseStep who v => Sys2Proof.Machine.execTimebaseStep who v s
  | .tmbTimeRead who half => Sys2Proof.Machine.execTmbTimeRead who half s
  | .ppsEdge falling => Sys2Proof.Machine.execPpsEdge falling s
  | .ppsHoldover => Sys2Proof.Machine.execPpsHoldover s
  | .boundaryFifoEvent f => Sys2Proof.Machine.execBoundaryFifoEvent f s
  | .responseRelease x ready => Sys2Proof.Machine.execResponseRelease x ready s
  | .powerOnReset low whole testEn => Sys2Proof.Machine.execPowerOnReset low whole testEn s
  | .strapLatch refsel bootsrc fabid => Sys2Proof.Machine.execStrapLatch refsel bootsrc fabid s
  | .fuseSense f => Sys2Proof.Machine.execFuseSense f s
  | .timebaseLock => Sys2Proof.Machine.execTimebaseLock s
  | .romStart => Sys2Proof.Machine.execRomStart s
  | .hostPowerOn => Sys2Proof.Machine.execHostPowerOn s
  | .imageSlotCheck flash => Sys2Proof.Machine.execImageSlotCheck flash s
  | .firmwareStart => Sys2Proof.Machine.execFirmwareStart s
  | .secRcvGo who v => Sys2Proof.Machine.execSecRcvGo who v s
  | .secExtGo who v => Sys2Proof.Machine.execSecExtGo who v s
  | .mrExtend => Sys2Proof.Machine.execMrExtend s
  | .attestRequest source tagA tagB bytes => Sys2Proof.Machine.execAttestRequest source tagA tagB bytes s
  | .attestService => Sys2Proof.Machine.execAttestService s
  | .attestReportDone reachable => Sys2Proof.Machine.execAttestReportDone reachable s
  | .hifBar2BaseWrite who v => Sys2Proof.Machine.execHifBar2BaseWrite who v s
  | .queueEnable qp who v => Sys2Proof.Machine.execQueueEnable qp who v s
  | .queueDisable qp who v => Sys2Proof.Machine.execQueueDisable qp who v s
  | .queueDrained qp => Sys2Proof.Machine.execQueueDrained qp s
  | .sqDoorbell qp who v => Sys2Proof.Machine.execSqDoorbell qp who v s
  | .cqDoorbell qp who v => Sys2Proof.Machine.execCqDoorbell qp who v s
  | .commandFetch qp host => Sys2Proof.Machine.execCommandFetch qp host s
  | .hifNop qp cseq => Sys2Proof.Machine.execHifNop qp cseq s
  | .txFrame qp cseq data => Sys2Proof.Machine.execTxFrame qp cseq data s
  | .rxBuf qp cseq => Sys2Proof.Machine.execRxBuf qp cseq s
  | .memWrite qp cseq data => Sys2Proof.Machine.execMemWrite qp cseq data s
  | .memRead qp cseq reachable => Sys2Proof.Machine.execMemRead qp cseq reachable s
  | .imageLoad qp cseq data => Sys2Proof.Machine.execImageLoad qp cseq data s
  | .imageUnload qp cseq => Sys2Proof.Machine.execImageUnload qp cseq s
  | .stageItems qp cseq data => Sys2Proof.Machine.execStageItems qp cseq data s
  | .stageDiscard qp cseq => Sys2Proof.Machine.execStageDiscard qp cseq s
  | .kickoff qp cseq => Sys2Proof.Machine.execKickoff qp cseq s
  | .attest qp cseq req => Sys2Proof.Machine.execAttest qp cseq req s
  | .completionPost qp cseq => Sys2Proof.Machine.execCompletionPost qp cseq s
  | .irqTimer qp => Sys2Proof.Machine.execIrqTimer qp s
  | .hostLoss cause v => Sys2Proof.Machine.execHostLoss cause v s
  | .hostQueueDeliver h reachable => Sys2Proof.Machine.execHostQueueDeliver h reachable s
  | .eventDispatch => Sys2Proof.Machine.execEventDispatch s
  | .eventStart c => Sys2Proof.Machine.execEventStart c s
  | .endDrainDone c => Sys2Proof.Machine.execEndDrainDone c s
  | .imageCommit => Sys2Proof.Machine.execImageCommit s
  | .coreSwitch n => Sys2Proof.Machine.execCoreSwitch n s
  | .benchHandover c => Sys2Proof.Machine.execBenchHandover c s
  | .drkBenchRel who v => Sys2Proof.Machine.execDrkBenchRel who v s
  | .add c d a b => Sys2Proof.Machine.execAdd c d a b s
  | .sub c d a b => Sys2Proof.Machine.execSub c d a b s
  | .and c d a b => Sys2Proof.Machine.execAnd c d a b s
  | .or c d a b => Sys2Proof.Machine.execOr c d a b s
  | .xor c d a b => Sys2Proof.Machine.execXor c d a b s
  | .andn c d a b => Sys2Proof.Machine.execAndn c d a b s
  | .shl c d a b => Sys2Proof.Machine.execShl c d a b s
  | .shr c d a b => Sys2Proof.Machine.execShr c d a b s
  | .sar c d a b => Sys2Proof.Machine.execSar c d a b s
  | .mul c d a b => Sys2Proof.Machine.execMul c d a b s
  | .mulhu c d a b => Sys2Proof.Machine.execMulhu c d a b s
  | .min c d a b => Sys2Proof.Machine.execMin c d a b s
  | .max c d a b => Sys2Proof.Machine.execMax c d a b s
  | .minu c d a b => Sys2Proof.Machine.execMinu c d a b s
  | .maxu c d a b => Sys2Proof.Machine.execMaxu c d a b s
  | .popc c d a => Sys2Proof.Machine.execPopc c d a s
  | .clz c d a => Sys2Proof.Machine.execClz c d a s
  | .bswap c d a => Sys2Proof.Machine.execBswap c d a s
  | .bswap4 c d a => Sys2Proof.Machine.execBswap4 c d a s
  | .bswap2 c d a => Sys2Proof.Machine.execBswap2 c d a s
  | .sel c d a b p => Sys2Proof.Machine.execSel c d a b p s
  | .cmpEq c p a b => Sys2Proof.Machine.execCmpEq c p a b s
  | .cmpNe c p a b => Sys2Proof.Machine.execCmpNe c p a b s
  | .cmpLt c p a b => Sys2Proof.Machine.execCmpLt c p a b s
  | .cmpGe c p a b => Sys2Proof.Machine.execCmpGe c p a b s
  | .cmpLtu c p a b => Sys2Proof.Machine.execCmpLtu c p a b s
  | .cmpGeu c p a b => Sys2Proof.Machine.execCmpGeu c p a b s
  | .cmpTst c p a b => Sys2Proof.Machine.execCmpTst c p a b s
  | .cmpNtst c p a b => Sys2Proof.Machine.execCmpNtst c p a b s
  | .pand c p a b => Sys2Proof.Machine.execPand c p a b s
  | .por c p a b => Sys2Proof.Machine.execPor c p a b s
  | .pxor c p a b => Sys2Proof.Machine.execPxor c p a b s
  | .pandn c p a b => Sys2Proof.Machine.execPandn c p a b s
  | .pnot c p a => Sys2Proof.Machine.execPnot c p a s
  | .mfp c d => Sys2Proof.Machine.execMfp c d s
  | .mtp c a => Sys2Proof.Machine.execMtp c a s
  | .addi c d a imm => Sys2Proof.Machine.execAddi c d a imm s
  | .andi c d a imm => Sys2Proof.Machine.execAndi c d a imm s
  | .ori c d a imm => Sys2Proof.Machine.execOri c d a imm s
  | .xori c d a imm => Sys2Proof.Machine.execXori c d a imm s
  | .shli c d a n => Sys2Proof.Machine.execShli c d a n s
  | .shri c d a n => Sys2Proof.Machine.execShri c d a n s
  | .sari c d a n => Sys2Proof.Machine.execSari c d a n s
  | .lui c d imm => Sys2Proof.Machine.execLui c d imm s
  | .cmpiEq c p a imm => Sys2Proof.Machine.execCmpiEq c p a imm s
  | .cmpiNe c p a imm => Sys2Proof.Machine.execCmpiNe c p a imm s
  | .cmpiLt c p a imm => Sys2Proof.Machine.execCmpiLt c p a imm s
  | .cmpiGe c p a imm => Sys2Proof.Machine.execCmpiGe c p a imm s
  | .cmpiuEq c p a imm => Sys2Proof.Machine.execCmpiuEq c p a imm s
  | .cmpiuNe c p a imm => Sys2Proof.Machine.execCmpiuNe c p a imm s
  | .cmpiuLtu c p a imm => Sys2Proof.Machine.execCmpiuLtu c p a imm s
  | .cmpiuGeu c p a imm => Sys2Proof.Machine.execCmpiuGeu c p a imm s
  | .ext c d a pos len => Sys2Proof.Machine.execExt c d a pos len s
  | .exts c d a pos len => Sys2Proof.Machine.execExts c d a pos len s
  | .ins c d a pos len => Sys2Proof.Machine.execIns c d a pos len s
  | .clrf c d a pos len => Sys2Proof.Machine.execClrf c d a pos len s
  | .movx c d imm => Sys2Proof.Machine.execMovx c d imm s
  | .movxs c d imm => Sys2Proof.Machine.execMovxs c d imm s
  | .orhx c d a imm => Sys2Proof.Machine.execOrhx c d a imm s
  | .addx c d a imm => Sys2Proof.Machine.execAddx c d a imm s
  | .ld1 c d a imm => Sys2Proof.Machine.execLd1 c d a imm s
  | .ld2 c d a imm => Sys2Proof.Machine.execLd2 c d a imm s
  | .ld4 c d a imm => Sys2Proof.Machine.execLd4 c d a imm s
  | .ld8 c d a imm => Sys2Proof.Machine.execLd8 c d a imm s
  | .ld1s c d a imm => Sys2Proof.Machine.execLd1s c d a imm s
  | .ld2s c d a imm => Sys2Proof.Machine.execLd2s c d a imm s
  | .ld4s c d a imm => Sys2Proof.Machine.execLd4s c d a imm s
  | .st1 c d a imm => Sys2Proof.Machine.execSt1 c d a imm s
  | .st2 c d a imm => Sys2Proof.Machine.execSt2 c d a imm s
  | .st4 c d a imm => Sys2Proof.Machine.execSt4 c d a imm s
  | .st8 c d a imm => Sys2Proof.Machine.execSt8 c d a imm s
  | .aswap c d a b => Sys2Proof.Machine.execAswap c d a b s
  | .aadd c d a b => Sys2Proof.Machine.execAadd c d a b s
  | .aor c d a b => Sys2Proof.Machine.execAor c d a b s
  | .aand c d a b => Sys2Proof.Machine.execAand c d a b s
  | .acas c d a b => Sys2Proof.Machine.execAcas c d a b s
  | .nop c => Sys2Proof.Machine.execNop c s
  | .fence c => Sys2Proof.Machine.execFence c s
  | .endEvent c => Sys2Proof.Machine.execEnd c s
  | .mfs c d n => Sys2Proof.Machine.execMfs c d n s
  | .mts c n a => Sys2Proof.Machine.execMts c n a s
  | .bt c p disp => Sys2Proof.Machine.execBt c p disp s
  | .bf c p disp => Sys2Proof.Machine.execBf c p disp s
  | .branchB c disp => Sys2Proof.Machine.execB c disp s
  | .callt c p disp => Sys2Proof.Machine.execCallt c p disp s
  | .callf c p disp => Sys2Proof.Machine.execCallf c p disp s
  | .call c disp => Sys2Proof.Machine.execCall c disp s
  | .jr c d a => Sys2Proof.Machine.execJr c d a s
  | .pred c p neg n => Sys2Proof.Machine.execPred c p neg n s
  | .hdrFetch c d a => Sys2Proof.Machine.execHdrFetch c d a s
  | .hdrStore c d a => Sys2Proof.Machine.execHdrStore c d a s
  | .hdrPush c d a => Sys2Proof.Machine.execHdrPush c d a s
  | .hdrPull c d a => Sys2Proof.Machine.execHdrPull c d a s
  | .treeLookup c d a b t => Sys2Proof.Machine.execTreeLookup c d a b t s
  | .hash c d a b => Sys2Proof.Machine.execHash c d a b s
  | .hashix c d a => Sys2Proof.Machine.execHashix c d a s
  | .enqAir c d a b => Sys2Proof.Machine.execEnqAir c d a b s
  | .enqTmg c d a b => Sys2Proof.Machine.execEnqTmg c d a b s
  | .deqAir c d a => Sys2Proof.Machine.execDeqAir c d a s
  | .drop c d a => Sys2Proof.Machine.execDrop c d a s
  | .clone c d a => Sys2Proof.Machine.execClone c d a s
  | .cblkEnc c d a b => Sys2Proof.Machine.execCblkEnc c d a b s
  | .cblkDec c d a b => Sys2Proof.Machine.execCblkDec c d a b s
  | .clmul c d a b => Sys2Proof.Machine.execClmul c d a b s
  | .clmulh c d a b => Sys2Proof.Machine.execClmulh c d a b s
  | .wait c d a => Sys2Proof.Machine.execWait c d a s
  | .waitany c d => Sys2Proof.Machine.execWaitany c d s
  | .untilTime c d a => Sys2Proof.Machine.execUntil c d a s
  | .untilWake c => Sys2Proof.Machine.execUntilWake c s
  | .leaveAsk c d a b => Sys2Proof.Machine.execLeaveAsk c d a b s
  | .leaveGive c d a => Sys2Proof.Machine.execLeaveGive c d a s
  | .churn c => Sys2Proof.Machine.execChurn c s
  | .time c d => Sys2Proof.Machine.execTime c d s
  | .timefrac c d => Sys2Proof.Machine.execTimefrac c d s
  | .staLd c d a => Sys2Proof.Machine.execStaLd c d a s
  | .staAdd c d a b => Sys2Proof.Machine.execStaAdd c d a b s
  | .staOr c d a b => Sys2Proof.Machine.execStaOr c d a b s
  | .staAndn c d a b => Sys2Proof.Machine.execStaAndn c d a b s
  | .staCas c d a b => Sys2Proof.Machine.execStaCas c d a b s
  | .renq c d a b => Sys2Proof.Machine.execRenq c d a b s
  | .rmsg c d a b => Sys2Proof.Machine.execRmsg c d a b s
  | .unassignedInstruction c w => Sys2Proof.Machine.execUnassignedInstruction c w s
  | .engineOpComplete id => Sys2Proof.Machine.execEngineOpComplete id s
  | .airEnqueue op => Sys2Proof.Machine.execAirEnqueue op s
  | .airAgeScan => Sys2Proof.Machine.execAirAgeScan s
  | .airCtlWrite who v => Sys2Proof.Machine.execAirCtlWrite who v s
  | .airWheelSlot => Sys2Proof.Machine.execAirWheelSlot s
  | .planRequest x => Sys2Proof.Machine.execPlanRequest x s
  | .planPost x who v => Sys2Proof.Machine.execPlanPost x who v s
  | .planExpire x k => Sys2Proof.Machine.execPlanExpire x k s
  | .backoffSlotDecision x draws => Sys2Proof.Machine.execBackoffSlotDecision x draws s
  | .mpduModulationStart x k => Sys2Proof.Machine.execMpduModulationStart x k s
  | .ppduEnd x => Sys2Proof.Machine.execPpduEnd x s
  | .ackResponseReceive x n t sns => Sys2Proof.Machine.execAckResponseReceive x n t sns s
  | .ackTimeout x => Sys2Proof.Machine.execAckTimeout x s
  | .twtSpStart e => Sys2Proof.Machine.execTwtSpStart e s
  | .twtSpEnd e => Sys2Proof.Machine.execTwtSpEnd e s
  | .airTwtWrite e word who v => Sys2Proof.Machine.execAirTwtWrite e word who v s
  | .mpduReceive x b sat => Sys2Proof.Machine.execMpduReceive x b sat s
  | .mpduForwardArrive m body => Sys2Proof.Machine.execMpduForwardArrive m body s
  | .reorderHoldExpire n t => Sys2Proof.Machine.execReorderHoldExpire n t s
  | .blockackreqReceive x n t ssn => Sys2Proof.Machine.execBlockackreqReceive x n t ssn s
  | .wsUpdateReceive handle t ws => Sys2Proof.Machine.execWsUpdateReceive handle t ws s
  | .leaseRequest handle tid dev => Sys2Proof.Machine.execLeaseRequest handle tid dev s
  | .leaseGrantReceive handle tid sn len pn bar => Sys2Proof.Machine.execLeaseGrantReceive handle tid sn len pn bar s
  | .leaseDeferredGrant => Sys2Proof.Machine.execLeaseDeferredGrant s
  | .leaseClose handle tid dev sn used => Sys2Proof.Machine.execLeaseClose handle tid dev sn used s
  | .leaseRecall n t lastUse => Sys2Proof.Machine.execLeaseRecall n t lastUse s
  | .migrateStateArrive handle words leases => Sys2Proof.Machine.execMigrateStateArrive handle words leases s
  | .migrateGraceEnd n => Sys2Proof.Machine.execMigrateGraceEnd n s
  | .preambleDetect x level cover words => Sys2Proof.Machine.execPreambleDetect x level cover words s
  | .lsigCheck x lsig => Sys2Proof.Machine.execLsigCheck x lsig s
  | .sigFieldCheck x f crc => Sys2Proof.Machine.execSigFieldCheck x f crc s
  | .rxRestart x level => Sys2Proof.Machine.execRxRestart x level s
  | .ccaChange x sub level => Sys2Proof.Machine.execCcaChange x sub level s
  | .sysrefEdge off => Sys2Proof.Machine.execSysrefEdge off s
  | .felLinkEnable x who v => Sys2Proof.Machine.execFelLinkEnable x who v s
  | .felLinkUp x st => Sys2Proof.Machine.execFelLinkUp x st s
  | .felLinkLoss x lane => Sys2Proof.Machine.execFelLinkLoss x lane s
  | .txEnable x who v => Sys2Proof.Machine.execTxEnable x who v s
  | .txDisable x who v => Sys2Proof.Machine.execTxDisable x who v s
  | .sndPost x who v => Sys2Proof.Machine.execSndPost x who v s
  | .soundingExpire x => Sys2Proof.Machine.execSoundingExpire x s
  | .feedbackReceive x k ndpAt report => Sys2Proof.Machine.execFeedbackReceive x k ndpAt report s
  | .speSubmit who v => Sys2Proof.Machine.execSpeSubmit who v s
  | .speJobStart lane => Sys2Proof.Machine.execSpeJobStart lane s
  | .speJobDone lane => Sys2Proof.Machine.execSpeJobDone lane s
  | .precoderExpire e => Sys2Proof.Machine.execPrecoderExpire e s
  | .tlmEnable who v => Sys2Proof.Machine.execTlmEnable who v s
  | .tlmDisable who v => Sys2Proof.Machine.execTlmDisable who v s
  | .tlmSlotStart lock => Sys2Proof.Machine.execTlmSlotStart lock s
  | .tlmPreambleDetect syms level => Sys2Proof.Machine.execTlmPreambleDetect syms level s
  | .sfdFound window => Sys2Proof.Machine.execSfdFound window s
  | .sfdTimeout => Sys2Proof.Machine.execSfdTimeout s
  | .phrCheck soft => Sys2Proof.Machine.execPhrCheck soft s
  | .rxRearm syms level => Sys2Proof.Machine.execRxRearm syms level s
  | .tlmFrameReceive soft rssi => Sys2Proof.Machine.execTlmFrameReceive soft rssi s
  | .enhancedAckRelease ready => Sys2Proof.Machine.execEnhancedAckRelease ready s
  | .tlmTxpost who v => Sys2Proof.Machine.execTlmTxpost who v s
  | .tlmAckReceive b start draw => Sys2Proof.Machine.execTlmAckReceive b start draw s
  | .tlmAckWaitExpire draw => Sys2Proof.Machine.execTlmAckWaitExpire draw s
  | .tlmEntryExpire j => Sys2Proof.Machine.execTlmEntryExpire j s
  | .tlmRxfree who v => Sys2Proof.Machine.execTlmRxfree who v s
  | .neighbourValidate n who v => Sys2Proof.Machine.execNeighbourValidate n who v s
  | .neighbourInvalidate n who v => Sys2Proof.Machine.execNeighbourInvalidate n who v s
  | .refind n => Sys2Proof.Machine.execRefind n s
  | .ethModeWrite p who v => Sys2Proof.Machine.execEthModeWrite p who v s
  | .subportDisable p sp who => Sys2Proof.Machine.execSubportDisable p sp who s
  | .ethLinkChange p sp partner => Sys2Proof.Machine.execEthLinkChange p sp partner s
  | .ethFrameFate p sp b => Sys2Proof.Machine.execEthFrameFate p sp b s
  | .ethFrameEnd p sp => Sys2Proof.Machine.execEthFrameEnd p sp s
  | .pauseFrameReceive p sp b => Sys2Proof.Machine.execPauseFrameReceive p sp b s
  | .pauseTimerExpire p sp prio => Sys2Proof.Machine.execPauseTimerExpire p sp prio s
  | .pauseRefresh p sp prio => Sys2Proof.Machine.execPauseRefresh p sp prio s
  | .watchdogTrip p sp prio => Sys2Proof.Machine.execWatchdogTrip p sp prio s
  | .stormClear p sp prio => Sys2Proof.Machine.execStormClear p sp prio s
  | .txtsPop p who => Sys2Proof.Machine.execTxtsPop p who s
  | .frameTxStart p sp => Sys2Proof.Machine.execFrameTxStart p sp s
  | .frameTxEnd p sp => Sys2Proof.Machine.execFrameTxEnd p sp s
  | .skimmerPass => Sys2Proof.Machine.execSkimmerPass s
  | .skmIndirWrite j who v => Sys2Proof.Machine.execSkmIndirWrite j who v s
  | .indirRelease j => Sys2Proof.Machine.execIndirRelease j s
  | .tmgEnqueue op => Sys2Proof.Machine.execTmgEnqueue op s
  | .tmgAgeScan => Sys2Proof.Machine.execTmgAgeScan s
  | .calendarWheelSlot => Sys2Proof.Machine.execCalendarWheelSlot s
  | .gateEntry k => Sys2Proof.Machine.execGateEntry k s
  | .gateSwitchStart k => Sys2Proof.Machine.execGateSwitchStart k s
  | .strictAutoClear => Sys2Proof.Machine.execStrictAutoClear s
  | .policerWrite j word who v => Sys2Proof.Machine.execPolicerWrite j word who v s
  | .shaperWrite queue j who v => Sys2Proof.Machine.execShaperWrite queue j who v s
  | .cphAdmit op => Sys2Proof.Machine.execCphAdmit op s
  | .aesBlockDone aes => Sys2Proof.Machine.execAesBlockDone aes s
  | .cphMicrosecond => Sys2Proof.Machine.execCphMicrosecond s
  | .burstReturn => Sys2Proof.Machine.execBurstReturn s
  | .burstRetry => Sys2Proof.Machine.execBurstRetry s
  | .keyInstall k who v => Sys2Proof.Machine.execKeyInstall k who v s
  | .keyWithdraw k who v => Sys2Proof.Machine.execKeyWithdraw k who v s
  | .keyLimitWrite k who v => Sys2Proof.Machine.execKeyLimitWrite k who v s
  | .cipherJobDone who v => Sys2Proof.Machine.execCipherJobDone who v s
  | .cipherRxTimeout slot => Sys2Proof.Machine.execCipherRxTimeout slot s
  | .memPailWrite d word who v => Sys2Proof.Machine.execMemPailWrite d word who v s
  | .drcOrderWrite r who v => Sys2Proof.Machine.execDrcOrderWrite r who v s
  | .dramInitDone => Sys2Proof.Machine.execDramInitDone s
  | .retrainDue ch temp => Sys2Proof.Machine.execRetrainDue ch temp s
  | .retrainBatchEnd temp => Sys2Proof.Machine.execRetrainBatchEnd temp s
  | .retrainLate ch => Sys2Proof.Machine.execRetrainLate ch s
  | .whistle port a need arrive p sp sent => Sys2Proof.Machine.execWhistle port a need arrive p sp sent s
  | .scrubRead sram => Sys2Proof.Machine.execScrubRead sram s
  | .memInjectArm who v => Sys2Proof.Machine.execMemInjectArm who v s
  | .kickoffInstant dev set => Sys2Proof.Machine.execKickoffInstant dev set s
  | .kickDistributeReceive src set t items images => Sys2Proof.Machine.execKickDistributeReceive src set t items images s
  | .kickReady dev set => Sys2Proof.Machine.execKickReady dev set s
  | .kickCommitReceive src set => Sys2Proof.Machine.execKickCommitReceive src set s
  | .fabCtlWrite who v => Sys2Proof.Machine.execFabCtlWrite who v s
  | .fabLinkUp l => Sys2Proof.Machine.execFabLinkUp l s
  | .helloReceive l fabid plink id => Sys2Proof.Machine.execHelloReceive l fabid plink id s
  | .flitBlockReceive l seq ack nak c0 c1 ce bad head hops => Sys2Proof.Machine.execFlitBlockReceive l seq ack nak c0 c1 ce bad head hops s
  | .linkResendTimeout l => Sys2Proof.Machine.execLinkResendTimeout l s
  | .linkStateFlood => Sys2Proof.Machine.execLinkStateFlood s
  | .linkStateRecordReceive src links floor gen alias_ locked => Sys2Proof.Machine.execLinkStateRecordReceive src links floor gen alias_ locked s
  | .remoteOpExecute src seq m => Sys2Proof.Machine.execRemoteOpExecute src seq m s
  | .remoteMsgEvent src b => Sys2Proof.Machine.execRemoteMsgEvent src b s
  | .remoteMsgFrame src len off arg => Sys2Proof.Machine.execRemoteMsgFrame src len off arg s
  | .remoteCompletionReceive d seq st data ue => Sys2Proof.Machine.execRemoteCompletionReceive d seq st data ue s
  | .e2eResend d => Sys2Proof.Machine.execE2eResend d s
  | .lostTimeout d => Sys2Proof.Machine.execLostTimeout d s
  | .fabAttWrite who v => Sys2Proof.Machine.execFabAttWrite who v s
  | .timeExchange => Sys2Proof.Machine.execTimeExchange s
  | .timePairReceive t1 t2 t3 t4 => Sys2Proof.Machine.execTimePairReceive t1 t2 t3 t4 s
  | .bondHeartbeat => Sys2Proof.Machine.execBondHeartbeat s
  | .heartbeatMiss => Sys2Proof.Machine.execHeartbeatMiss s
  | .takeoverLeaseReport dev l => Sys2Proof.Machine.execTakeoverLeaseReport dev l s
  | .takeoverGrantResume => Sys2Proof.Machine.execTakeoverGrantResume s
  | .mirrorWriteReceive m => Sys2Proof.Machine.execMirrorWriteReceive m s
  | .mirrorAckReceive upTo => Sys2Proof.Machine.execMirrorAckReceive upTo s
  | .bndEnable who v => Sys2Proof.Machine.execBndEnable who v s
  | .bndDisable who v => Sys2Proof.Machine.execBndDisable who v s
  | .catchupStart => Sys2Proof.Machine.execCatchupStart s
  | .catchupDone => Sys2Proof.Machine.execCatchupDone s
  | .detach who v => Sys2Proof.Machine.execDetach who v s
  | .detachInstant => Sys2Proof.Machine.execDetachInstant s
  | .detachComplete => Sys2Proof.Machine.execDetachComplete s
  | .giveback who v => Sys2Proof.Machine.execGiveback who v s
  | .givebackInstant ok => Sys2Proof.Machine.execGivebackInstant ok s
  | .domainTargetOn d who => Sys2Proof.Machine.execDomainTargetOn d who s
  | .domainTargetRetention d who => Sys2Proof.Machine.execDomainTargetRetention d who s
  | .domainTargetOff d who => Sys2Proof.Machine.execDomainTargetOff d who s
  | .domainSwitchOn d => Sys2Proof.Machine.execDomainSwitchOn d s
  | .domainSwitchDown d => Sys2Proof.Machine.execDomainSwitchDown d s
  | .leaveGrant => Sys2Proof.Machine.execLeaveGrant s
  | .pwrRefBudgetWrite who v => Sys2Proof.Machine.execPwrRefBudgetWrite who v s
  | .resetPin low whole => Sys2Proof.Machine.execResetPin low whole s
  | .pwrReset who v => Sys2Proof.Machine.execPwrReset who v s
  | .watchdogExpire => Sys2Proof.Machine.execWatchdogExpire s
  | .pwrgdFall => Sys2Proof.Machine.execPwrgdFall s
  | .tapReset => Sys2Proof.Machine.execTapReset s
  | .pmcFreeze who freeze => Sys2Proof.Machine.execPmcFreeze who freeze s
  | .pmcClear who => Sys2Proof.Machine.execPmcClear who s
  | .tagSample core wait => Sys2Proof.Machine.execTagSample core wait s
  | .scbEvtAckWrite who v => Sys2Proof.Machine.execScbEvtAckWrite who v s
  | .scbTimeRecord => Sys2Proof.Machine.execScbTimeRecord s
  | .scbStop who v => Sys2Proof.Machine.execScbStop who v s
  | .extest scan => Sys2Proof.Machine.execExtest scan s
  | .samplePreload balls shifted => Sys2Proof.Machine.execSamplePreload balls shifted s
  | .clamp => Sys2Proof.Machine.execClamp s
  | .highz => Sys2Proof.Machine.execHighz s
  | .bypass ir => Sys2Proof.Machine.execBypass ir s
  | .bar2Write off n v => Sys2Proof.Machine.execBar2Write off n v s
  | .keyExpansionDone k => Sys2Proof.Machine.execKeyExpansionDone k s
  | .bondHeartbeatReceive => Sys2Proof.Machine.execBondHeartbeatReceive s
  | .bndAttWrite who v => Sys2Proof.Machine.execBndAttWrite who v s
  | .twinReportReceive code report => Sys2Proof.Machine.execTwinReportReceive code report s
  | .detachAgreeReceive t => Sys2Proof.Machine.execDetachAgreeReceive t s
  | .detachStateArrive handle words leases mpdus => Sys2Proof.Machine.execDetachStateArrive handle words leases mpdus s

end Sys2Proof.Machine
end

