-- ==== Sys2Proof/Machine/Replay.lean ====
section
/-! DEFINITION. Replay (R415-R417): the stream is read from its buffer, and each input, radio event, error and pace outcome enters
at its recorded tick, while the timebase waits for the crossings. -/

namespace Sys2Proof.Machine

/-- The state that a command goes on in. -/
def gone (s : State) (o : Host.Outcome State Fault Refusal) : State :=
  match o with
  | .next t => t
  | _ => s

/-! ## Reading the stream (R411, R415) -/

/-- The 64-bit word at a stream offset. -/
def State.streamWord (s : State) (off : Nat) : Nat :=
  leNat (s.bytes (s.fg SCB_BUF SCB_BUF_BASE * 2 ^ 24 + off % 2 ^ s.fg SCB_BUF SCB_BUF_SIZE_LOG2) 8)

/-- The next `n` bytes of the supply ring. -/
def State.supply (s : State) : Nat → Nat → Bytes
  | _, 0 => []
  | off, n + 1 =>
    s.byte (s.fg SCB_SUP_BUF SCB_SUP_BUF_BASE * 2 ^ 24 + off % 2 ^ s.fg SCB_SUP_BUF SCB_SUP_BUF_SIZE_LOG2) ::
      State.supply s (off + 1) n

/-- An item joins those that wait for their ticks. -/
def Replay.put (r : Replay) (at_ : Nat) (i : RepItem) : Replay :=
  { r with items := r.items ++ [(at_, i)], last := max r.last at_ }

/-- The crossings of one CROSS record: a delta of 0xF_FFFF advances and crosses nothing. -/
def Replay.delta (r : Replay) (k d : Nat) : Replay :=
  let t := SMap.get r.crossed k r.start + d
  let r1 := { r with crossed := SMap.ins r.crossed k t }
  if d = 0xFFFFF then r1 else { r1 with crosses := r1.crosses ++ [(k, t)], last := max r1.last (2 * t) }

/-- The lowest set bit of a byte mask. -/
def lowBit (m : Nat) : Nat := ((List.range 8).find? fun k => bitN m k).getD 0

/-- One record read: its first word `w`, its two further words, and its stream offset. -/
def Replay.take (r : Replay) (w w1 w2 off : Nat) : Replay :=
  let at_ := r.base + 2 * bits w 25 0
  let kind := bits w 63 60
  if kind = 2 then { r with base := bits w 55 0, last := max r.last (bits w 55 0) }
  else if kind = 3 then
    let point := bits w 55 50
    let inst := bits w 49 37
    if point = 39 then r.put at_ (.pace inst (bits w 34 26))
    else { r with contests := r.contests ++ [{ key := point * 8192 + inst, who := bits w 36 26, at_, off }], last := max r.last at_ }
  else if kind = 4 then
    let k := bits w 55 50 * 256 + bits w 49 42
    let r1 := r.delta k (bits w 19 0)
    if bits w 41 40 = 1 then r1.delta k (bits w 39 20) else r1
  else if kind = 5 then
    { r with want := some { src := bits w 55 52, sub := bits w1 47 32, len := bits w 46 26, crc := bits w1 31 0, at_, off } }
  else if kind = 7 then
    let m := bits w 33 26
    let n := popc 8 m
    r.put at_ (.host (w1 + lowBit m) n (w2 % 2 ^ (8 * n)))
  else if kind = 8 then r.put at_ (.phy (bits w 55 52) (bits w 51 44) (bits w 43 26))
  else if kind = 9 then r.put at_ (.error w1)
  else if kind = 10 then { r with values := r.values ++ [(bits w 51 26, BitVec.ofNat 64 w1)], last := max r.last at_ }
  else if kind = 11 then
    { r with checks := r.checks ++ [{ sink := bits w 55 52, len := bits w 46 26, crc := bits w1 31 0, at_, off }], last := max r.last at_ }
  else if kind = 12 then { r with ended := true }
  else r

/-- An INPUT has all its bytes: it joins the items, or stops the replay when they fail its CRC-32C (cause 0x8). -/
def State.inputWhole (s : State) (w : RepWant) (b : Bytes) : State :=
  if (crc32c b).toNat = w.crc then s.setRep ({ s.obs.rep with want := none }.put w.at_ (.input w.src w.sub b)) else s.repStop 8 w.off

/-- Read the bytes that an INPUT record waits for: PAYLOAD records of a FULL recording, else the supply ring. -/
def State.readWant (s : State) (w : RepWant) (head tail : Nat) : Option State :=
  if w.len ≤ w.got.length then some (s.inputWhole w (w.got.take w.len))
  else if s.obs.rep.full then
    let x := s.streamWord head
    let n := bits x 59 56
    if tail < head + 8 + 8 * n then none
    else if bits x 63 60 ≠ 6 then some (s.repStop 8 w.off)
    else
      let got := w.got ++ (List.range n).flatMap fun k => leBytes 8 (s.streamWord (head + 8 + 8 * k))
      some ((s.setRep { s.obs.rep with want := some { w with got } }).wg SCB_HEAD (BitVec.ofNat 64 (head + 8 + 8 * n)))
  else
    let sh := (s.rg SCB_SUP_HEAD).toNat
    if (s.rg SCB_SUP_TAIL).toNat < sh + w.len then none
    else some ((s.inputWhole w (s.supply sh w.len)).wg SCB_SUP_HEAD (BitVec.ofNat 64 (sh + w.len)))

/-- Read the next record; none while the buffer or the supply ring is empty, or once the stream has ended. -/
def State.readRecord (s : State) : Option State :=
  let r := s.obs.rep
  let head := (s.rg SCB_HEAD).toNat
  let tail := (s.rg SCB_TAIL).toNat
  if head = 0 then (if tail < 64 then none else some s.repStart)
  else
    match r.want with
    | some w => s.readWant w head tail
    | none =>
      if r.ended ∨ tail < head + 8 then none
      else
        let w := s.streamWord head
        let n := 8 + 8 * bits w 59 56
        if 13 ≤ bits w 63 60 then some (s.repStop 9 head)
        else if tail < head + n then none
        else some ((s.setRep (r.take w (s.streamWord (head + 8)) (s.streamWord (head + 16)) head)).wg SCB_HEAD
          (BitVec.ofNat 64 (head + n)))

/-! ## Bringing in an item (R416, R417) -/

/-- The command of a queue pair that waits for as many host bytes. -/
def State.hostWaits (s : State) (qp n : Nat) : Option HCmd :=
  s.hif.cmds.find? fun c =>
    let want := if c.op = 0x20 then 64 else if c.op = 0x11 then c.len0 + c.len1 else c.len0
    c.qp == qp && [1, 3, 0x10, 0x11, 0x20].contains c.op && n == want && (s.starting qp c.cseq c.op).isSome

/-- Bytes read from host memory for a queue pair: a command's data, or else its next entry. -/
def State.feedHost (s : State) (qp : Nat) (b : Bytes) : State :=
  match s.hostWaits qp b.length with
  | some c =>
    gone s (if c.op = 1 then execTxFrame qp c.cseq (some b) s
      else if c.op = 3 then execMemWrite qp c.cseq (some b) s
      else if c.op = 0x10 then execImageLoad qp c.cseq (some b) s
      else if c.op = 0x11 then execStageItems qp c.cseq (some b) s
      else execAttest qp c.cseq (some b) s)
  | none => gone s (execCommandFetch qp [(s.entryAddr qp, b)] s)

/-- A received telemetry frame: an acknowledgement for the entry that waits, or a frame for a receive entry, in the slot
present, by the lowest enabled profile; its power, which no record gives, is 0 (DESIGN CHOICE, assumption 158). -/
def State.feedTlm (s : State) (b : Bytes) : State :=
  match (if bits (leAt b 0 2) 2 0 = 2 then s.tlm.await.head? else none) with
  | some w => gone s (execTlmAckReceive b w.opens 0 s)
  | none =>
    match s.freeRxEntry, s.tlm.slot with
    | some i, some w =>
      let prof := ((List.range 4).find? fun p => s.flag TLM_PROF TLM_PROF_EN [p]).getD 0
      let fcs := if (fcsTaken true b).isSome then 4 else 2
      let start := s.now - s.profNs prof (8 * (b.length + 2))
      let r : TlmRx := { st := 3, prof, level := 0, at_ := s.now, slot := w, start, entry := i, len := b.length, fcs }
      (s.setTlm { s.tlm with rxSt := SMap.ins s.tlm.rxSt i 1 }).tlmFrame r b 0
    | _, _ => s

/-- A sub-port's frame: a pause frame, or one that arrives and ends. -/
def State.feedEth (s : State) (p sub : Nat) (b : Bytes) : State :=
  if isPause b then gone s (execPauseFrameReceive p sub b s)
  else
    let s1 := gone s (execEthFrameFate p sub b s)
    gone s1 (execEthFrameEnd p sub s1)

/-- An input of sources 0x0 to 0x4. -/
def State.feed_ (s : State) (src sub : Nat) (b : Bytes) : State :=
  if src ≤ 1 then s.feedEth src (sub % 4) b
  else if src = 2 then s.rxMpdu (sub % 3) b
  else if src = 3 then s.feedTlm b
  else s.feedHost sub b

/-- A unit's detection, restart, L-SIG failure, CCA change, or link change. -/
def State.feedPhy (s : State) (x ev arg : Nat) : State :=
  let r := (s.wbx x).rx
  if ev = 1 then (s.setRx x { r with st := 2, till := s.now + 5484000 }).bump WB_RX_DETECT [x]
  else if ev = 2 then (s.setRx x { r with st := 0 }).bump WB_RX_RESTART [x]
  else if ev = 3 then (s.setRx x { r with st := 0 }).bump WB_RX_LSIG_FAIL [x]
  else if ev = 4 then s.setRx x { r with busy := if bitN r.busy arg then r.busy else r.busy + 2 ^ arg }
  else if ev = 5 then s.setRx x { r with busy := if bitN r.busy arg then r.busy - 2 ^ arg else r.busy, idleAt := s.now }
  else if ev = 6 then (if s.felUp x then s.felDown x arg else s)
  else if ev = 7 then
    (s.fs FEL_LINK_STATUS FEL_LINK_STATUS_STATE 3 [x]).setRx x { r with idleAt := s.now }
  else s

/-- A detection, re-arm or PHR failure of the telemetry radio. -/
def State.feedTlmPhy (s : State) (ev : Nat) : State :=
  if ev = 1 then s.bump TLM_RX_DETECT
  else if ev = 2 then s.tlmDropRx.bump TLM_RX_REARM
  else if ev = 3 then s.tlmDropRx.bump TLM_RX_PHR_FAIL
  else s

/-- A pace outcome of point 39 (R410, R416). -/
def State.feedPace (s : State) (i code : Nat) : State :=
  if code = 1 ∧ i < 96 then (ctxsOf i).foldl (fun (t : State) c => t.reassign c) ((s.setBenched i true).slowEv i 1)
  else if code = 2 ∧ i < 96 then (ctxsOf i).foldl (fun (t : State) c => t.reassign c) (s.setBenched i false)
  else if code = 3 then (s.fs DRK_BENCH_STATUS DRK_BENCH_STATUS_REFUSED_SEEN 1).logEv 6 0x07 0 i
  else if code = 4 then s.markSlow (i % 16) true
  else if code = 5 then s.markSlow (i % 16) false
  else if code = 6 then
    (s.fs PWR_PACE_STATUS PWR_PACE_STATUS_STATE 2).fs PWR_PACE_STATUS PWR_PACE_STATUS_SAG_SEEN 1
  else if code = 7 then s.fs PWR_PACE_STATUS PWR_PACE_STATUS_STATE 1
  else s

/-- The difference that makes a checked word uncorrectable: both its first check symbols wrong. -/
def badWord : BitVec 32 := 0x00000101

/-- An item enters. -/
def State.enter (s : State) (i : RepItem) : State :=
  match i with
  | .host a n v => (s.busWrite .host a n v).1
  | .input src sub b => s.feed_ src sub b
  | .phy u ev arg => if u < 3 then s.feedPhy u ev arg else s.feedTlmPhy ev
  | .error a => if inMem a then s.setDiff (a / 32) badWord else s
  | .pace i c => s.feedPace i c

/-- An item that the stream itself supplies: all but the operations of the fabric and the messages of the bond, whose layouts
the spec gives in part; those are taken as their commands bring them (DESIGN CHOICE, assumption 158). -/
def RepItem.whole : RepItem → Bool
  | .input src _ _ => decide (src ≤ 4)
  | _ => true

/-! ## The step of a replay -/

/-- The stream's end is reached: everything recorded has entered and been met (cause 0x4). -/
def State.repOver (s : State) : Bool :=
  let r := s.obs.rep
  r.ended && r.items.isEmpty && r.crosses.isEmpty && decide (r.last ≤ s.now)

/-- The timebase may not leave this tick: a crossing, an input or a later part of the stream is awaited (R415, R416). -/
def State.repHolds (s : State) : Bool :=
  let r := s.obs.rep
  (r.crosses.any fun x => decide (x.2 ≤ s.now / 2)) || (r.items.any fun x => decide (x.1 ≤ s.now)) ||
    (!r.ended && decide (r.base < s.now + 2))

/-- A record of a contest or of an egress frame that this tick should have met and did not: cause 0x6 or 0x7. -/
def State.repUnmet (s : State) : Option (Nat × Nat) :=
  match s.obs.rep.contests.find? fun x => decide (x.at_ ≤ s.now) with
  | some x => some (6, x.off)
  | none =>
    match s.obs.rep.checks.find? fun x => decide (x.at_ ≤ s.now) with
    | some x => some (7, x.off)
    | none => none

/-- One step of a replay with no command waiting: read a record, or bring in an item that is due, or end, or let one tick pass
once nothing is awaited; with the state goes whether a tick has passed. -/
def State.repStep (s : State) : State × Bool :=
  match s.readRecord with
  | some t => (t, false)
  | none =>
    match s.obs.rep.items.find? fun x => decide (x.1 ≤ s.now) && x.2.whole with
    | some x =>
      let r := s.obs.rep
      let t := (s.setRep { r with items := r.items.erase x, fed := true }).enter x.2
      (t.setRep { t.obs.rep with fed := false }, false)
    | none =>
      if s.repOver then (s.repStop 4 (s.rg SCB_HEAD).toNat, false)
      else if s.repHolds then (s, false)
      else
        match s.repUnmet with
        | some (c, off) => (s.repStop c off, false)
        | none => (s.tick2, true)

end Sys2Proof.Machine
end

