-- ==== Sys2Proof/Machine/Clock.lean ====
section
/-! DEFINITION. The clock: the tick of the timebase, and the instants that the clocked parts reach at it (R53, R444). The timers
whose outcome needs something from outside (a draw, a temperature, an answer) are left to their commands. -/

namespace Sys2Proof.Machine

/-! ## Timers (R444) -/

/-- What takes effect at an instant of its own. -/
inductive Timer where
  | kick (dev set : Nat)
  | kickReady (dev set : Nat)
  | gateSwitch (k : Nat)
  | gate (k : Nat)
  | airWheel
  | calendar
  | wake (c : Nat)
  | airAge
  | tmgAge
  | slot
  | refind (n : Nat)
  | txEnds
  | entry (i : Nat)
  | sfd
  | plan (x k : Nat)
  | sound (x : Nat)
  | prec (e : Nat)
  | reorder (n t : Nat)
  | grace (n : Nat)
  | frames
  | pause (p sub prio : Nat)
  | refresh (p sub prio : Nat)
  | watchdog (p sub prio : Nat)
  | storm (p sub prio : Nat)
  | oversize (p sub : Nat)
  | strict
  | irq (qp : Nat)
  | rxJob (slot : Nat)
  | burstRetry
  | burstBack
  | micro
  | resume
  | beat
  | miss
  | detach
  | resend (l : Nat)
  | e2e (d : Nat)
  | lost (d : Nat)
  | flood
  | pair
  | record
  | retrain (ch : Nat)
  | holdover
  deriving DecidableEq, Repr

/-- The last multiple of a period, if the present tick reaches it. -/
def State.period (s : State) (n : Nat) (x : Timer) : List (Nat × Timer) :=
  let t := s.now / n * n
  if s.reaches t then [(t, x)] else []

/-- Kickoff: each set and each part at its T, and 100 µs before it the report that it is ready (R351, R352). -/
def State.dueKick (s : State) : List (Nat × Timer) :=
  let all := (s.kck.order.map fun k => ((s.kset k).instant, s.self, k)) ++ s.kck.parts.map fun p => (p.t, p.dev, p.set)
  (all.map fun (t, d, k) => (t, .kick d k)) ++
    (all.filter fun (t, _, _) => s.reaches (t - 100000)).map fun (t, d, k) => (t - 100000, .kickReady d k)

/-- The traffic manager's gates, wheel, age check and strict mode (R298, R302, R304, R308, R310). -/
def State.dueTmg (s : State) : List (Nat × Timer) :=
  if s.domOn .wired then
    ((List.range 8).filterMap fun k => (s.sp k).switch.map fun x => (x.2, .gateSwitch k)) ++
      ((List.range 8).filter fun k => s.fg TMG_SP_GATE TMG_SP_GATE_OPEN [k] != (s.gatesAt k s.now).1).map
        (fun k => (s.now, .gate k)) ++
      ((List.range 8).filterMap fun k => (s.sp k).till.map fun t => (t, .calendar)) ++
      (s.tmg.qs.filterMap fun q => q.2.till.map fun t => (t, .calendar)) ++ s.period 1000000 .tmgAge ++
      (s.tmg.recover.toList.map fun t => (t + 1000000, .strict))
  else []

/-- The ports' pause timers and watchdogs, and frames that pass their limit (R254, R261, R262). -/
def State.dueEth (s : State) : List (Nat × Timer) :=
  s.eth.flatMap fun (p, e) =>
    (e.pause.flatMap fun (i, x) =>
      let sub := i / 8
      let prio := i % 8
      let wd (f : Fld) : Nat := s.fg ETH_SP_WD f [p, sub] * 1000
      (x.till.toList.map fun t => (t, .pause p sub prio)) ++
        (x.since.toList.map fun t => (t + wd ETH_SP_WD_WD_TIME, .watchdog p sub prio)) ++
        (if x.sent.isSome then
          let (q, t) := SMap.get e.pauseSent i (0, 0)
          [(t + ceilDiv (q * 256) (s.lineRate p), .refresh p sub prio)]
        else []) ++
        (if s.storm p sub prio then [(x.lastRx + wd ETH_SP_WD_WD_REST, .storm p sub prio)] else [])) ++
      e.rxIn.filterMap fun (sub, i) =>
        match i with
        | some i => if s.overLim p i then some (s.now, .oversize p sub) else none
        | none => none

/-- AIR and WMAC (R158, R164, R167, R191, R196). -/
def State.dueAir (s : State) : List (Nat × Timer) :=
  if s.domOn .memory then
    (s.wheelItems.map fun x => (wheelSlot x.1, .airWheel)) ++ s.period 1000000 .airAge ++
      ((List.range 3).flatMap fun x => (List.range 4).filterMap fun k =>
        let p := s.pslot x k
        if p.st = 1 ∨ p.st = 2 then some (p.notAfter, .plan x k) else none) ++
      (s.wmac.reorder.filterMap fun (k, r) => r.gapTill.map fun t => (t, .reorder (k / 8) (k % 8))) ++
      (s.wmac.moves.filterMap fun (n, m) => if m.arrived then some (m.till, .grace n) else none) ++
      (if s.wmac.out.isEmpty then [] else [(s.now, .frames)])
  else []

/-- The wideband radios' soundings and the spatial engine's precoders (R221, R225). -/
def State.dueWb (s : State) : List (Nat × Timer) :=
  ((List.range 3).flatMap fun x => (s.wbx x).sounds.map fun r => (r.till, .sound x)) ++
    s.spe.precs.filterMap fun (e, p) =>
      if p.used then some (p.at_ + s.fg SPE_CFG SPE_CFG_PREC_LIFE * 1000000, .prec e) else none

/-- The valid TRACKING neighbours. -/
def State.tracking (s : State) : List Nat :=
  (s.csr.filterMap fun e =>
    let d := e.1 - TLM_NBR1.off
    if TLM_NBR1.off ≤ e.1 ∧ d < 4096 * 0x20 ∧ d % 0x20 = 0 then some (d / 0x20) else none).filter fun n =>
      s.nbValid n && s.nbState n == 1

/-- The telemetry radio (R233, R239, R243, R244). -/
def State.dueTlm (s : State) : List (Nat × Timer) :=
  if s.tlmOn then
    (match s.asnNow with
      | some asn => if s.tlm.served ≤ asn then [((s.rg TLM_EPOCH).toNat + asn * s.tsLen, .slot)] else []
      | none => []) ++
      (s.tracking.map fun n => (s.now, .refind n)) ++
      (s.tlm.air.filterMap fun b => b.ends.map fun _ => (b.till, .txEnds)) ++
      ((s.tlm.tx.filter fun e => e.lateAt s.now).map fun e => (e.notAfter + 1, .entry e.entry)) ++
      (s.tlm.rx.toList.filter fun r => r.st == 1 && s.sfdOver r).map fun _ => (s.now, .sfd)
  else []

/-- The host interface and CIPHER (R94, R316, R322). -/
def State.dueJobs (s : State) : List (Nat × Timer) :=
  (s.hif.qs.filterMap fun (n, q) =>
    if 0 < q.unsig then some (q.firstUnsig + s.fg HIF_QP_IRQ HIF_QP_IRQ_TIME [n] * 1000, .irq n) else none) ++
    (s.cph.slots.filterMap fun (i, x) => if x.tx ∨ x.done.isSome then none else x.till.map fun t => (t, .rxJob i)) ++
    (s.cph.retryAt.toList.map fun t => (t, .burstRetry)) ++
    (if s.burstHeld then s.period 1000 .burstBack else []) ++
    (if s.cph.wait.isEmpty then [] else s.period 1000 .micro)

/-- The fabric and the bond (R356, R359, R363, R364, R368, R378, R380, R384). -/
def State.dueFab (s : State) : List (Nat × Timer) :=
  if s.domOn .fabric then
    ((List.range 7).filterMap fun l =>
      let x := s.flink l
      if x.st = 2 then some (x.ackAt + 2000, .resend l) else none) ++
      ((List.range 16).flatMap fun d => (s.opsTo d).flatMap fun o =>
        [(o.sent + s.resendNs, .e2e d), (o.at_ + s.fg FAB_CTL FAB_CTL_LOST_TMO * 1000, .lost d)]) ++
      [(s.fab.floodAt + 64000, .flood)] ++ s.period 125000 .pair ++
      (s.bnd.resumeAt.toList.map fun t => (t, .resume)) ++
      (if s.bondUp then [(s.bnd.hbSent + 50000, .beat)] else []) ++
      (if s.expectsBeat then [(s.bnd.hbEdge + 50000, .miss)] else []) ++
      (s.bnd.detachAt.toList.filter s.reaches).map fun t => (t, .detach)
  else []

/-- Contexts that wait for an instant, retraining, holdover and TIME records (R54, R153, R332, R411). -/
def State.dueRest (s : State) : List (Nat × Timer) :=
  (s.drk.ctxs.filterMap fun (c, x) =>
    match x.st, x.blocked with
    | .waiting, .instant t _ => some (t, .wake c)
    | _, _ => none) ++
    (s.memst.dueAt.filterMap fun (ch, t) => t.map fun t => (t + s.rtPeriod, .retrain ch)) ++
    (s.tmb.ppsLast.toList.map fun t => (t + 1001000000, .holdover)) ++
    (if s.recording then [(s.obs.lastTime + 1000000, .record)] else [])

/-- Every instant that has a timer. Kickoff comes first among equal instants (R351). -/
def State.timers (s : State) : List (Nat × Timer) :=
  s.dueKick ++ s.dueTmg ++ s.dueEth ++ s.dueAir ++ s.dueWb ++ s.dueTlm ++ s.dueJobs ++ s.dueFab ++ s.dueRest

/-! ## Serving them -/

/-- A timer takes effect: its command's meaning. -/
def State.fire (s : State) (t : Nat) (x : Timer) : State :=
  gone s (match x with
    | .kick d k => execKickoffInstant d k s
    | .kickReady d k => execKickReady d k s
    | .gateSwitch k => execGateSwitchStart k s
    | .gate k => execGateEntry k s
    | .airWheel => .next (s.serveSlots t)
    | .calendar => execCalendarWheelSlot s
    | .wake c => execUntilWake c s
    | .airAge => execAirAgeScan s
    | .tmgAge => execTmgAgeScan s
    | .slot => .next s.slotBegins
    | .refind n => execRefind n s
    | .txEnds => .next s.tlmAirEnd
    | .entry i => execTlmEntryExpire i s
    | .sfd => execSfdTimeout s
    | .plan x k => execPlanExpire x k s
    | .sound x => execSoundingExpire x s
    | .prec e => execPrecoderExpire e s
    | .reorder n u => execReorderHoldExpire n u s
    | .grace n => execMigrateGraceEnd n s
    | .frames => .next (s.drainOut s.wmac.out)
    | .pause p sub prio => execPauseTimerExpire p sub prio s
    | .refresh p sub prio => execPauseRefresh p sub prio s
    | .watchdog p sub prio => execWatchdogTrip p sub prio s
    | .storm p sub prio => execStormClear p sub prio s
    | .oversize p sub => .next (s.oversizeDrop p sub)
    | .strict => execStrictAutoClear s
    | .irq qp => execIrqTimer qp s
    | .rxJob i => execCipherRxTimeout i s
    | .burstRetry => execBurstRetry s
    | .burstBack => execBurstReturn s
    | .micro => execCphMicrosecond s
    | .resume => execTakeoverGrantResume s
    | .beat => execBondHeartbeat s
    | .miss => execHeartbeatMiss s
    | .detach => execDetachInstant s
    | .resend l => execLinkResendTimeout l s
    | .e2e d => execE2eResend d s
    | .lost d => execLostTimeout d s
    | .flood => execLinkStateFlood s
    | .pair => execTimeExchange s
    | .record => execScbTimeRecord s
    | .retrain ch => execRetrainLate ch s
    | .holdover => execPpsHoldover s)

/-- The earlier of two timers, the first one at equal instants. -/
def sooner (a : Option (Nat × Timer)) (b : Nat × Timer) : Option (Nat × Timer) :=
  match a with
  | some x => if b.1 < x.1 then some b else some x
  | none => some b

/-- The next timer that has fallen due and has not been served at this tick. -/
def State.nextDue (s : State) (served : List (Nat × Timer)) : Option (Nat × Timer) :=
  (s.timers.filter fun x => decide (x.1 ≤ s.now) && !served.contains x).foldl sooner none

/-- Serve what has fallen due, in the order of the instants (R53), at most `n` timers. -/
def State.serveDue (s : State) : Nat → List (Nat × Timer) → State
  | 0, _ => s
  | n + 1, served =>
    match s.nextDue served with
    | some x => State.serveDue (s.fire x.1 x.2) n (x :: served)
    | none => s

/-! ## The tick -/

/-- One tick: the timebase counts, and every instant it has reached takes effect. One tick serves at most 65,536 timers. -/
def State.tickAll (s : State) : State := if s.tmb.running then s.tick2.serveDue 65536 [] else s

/-- What happens while no command waits: a replay goes on, a frozen unit stands (R416), and otherwise one tick passes (R51). -/
def State.clock (s : State) : State :=
  if s.obs.rep.frozen then s
  else if s.replaying then
    match s.repStep with
    | (t, true) => t.serveDue 65536 []
    | (t, false) => t
  else s.tickAll

end Sys2Proof.Machine
end

