-- ==== Sys2Proof/Safety.lean ====
section
/-! DEFINITION. What claims about the block speak of: a command that completes with an effect, a context that can issue an
instruction, the frame of an instruction, and the canonical form of memory. -/

namespace Sys2Proof.Machine

/-- Memory's canonical form: addresses rise strictly, and no entry equals what an unlisted address reads as, 0. -/
def Memory.wf (m : List Host.Cell) : Bool := SMap.sorted m && m.all fun e => e.2 != 0

/-- The same form for the check-symbol differences of checked words, an unlisted one being 0. -/
def Memory.chkWf (m : SMap (BitVec 32)) : Bool := SMap.sorted m && m.all fun e => e.2 != 0

/-- A command completes: it answers a next state, of which `P` holds. -/
def Gives (i : Instr) (s : State) (P : State → Prop) : Prop := ∃ t, exec i s = .next t ∧ P t

/-- A context can issue an instruction of `n` words that no guard covers: it runs on a core whose domain is on, budget is
left, and the words lie in its code section (R109, R134). -/
def Ready (s : State) (c n : Nat) : Prop :=
  s.canIssue c = true ∧ (s.ctx c).budget ≠ 0 ∧ (s.ctx c).guardN = 0 ∧ (s.ctx c).pc + n ≤ (s.coreImage (c / 4)).codeWords

/-- Two states differ at most in the contexts, in the core `n`'s instruction tag and in that core's event counters, with what
these counted in this instant (R406). -/
def OnlyCore (s t : State) (n : Nat) : Prop :=
  t = { s with csr := t.csr, drk := t.drk, obs := t.obs } ∧ t.obs = { s.obs with pmcUps := t.obs.pmcUps } ∧
    t.drk = { s.drk with ctxs := t.drk.ctxs, cores := t.drk.cores } ∧
    (∀ k, k ≠ n → t.core k = s.core k) ∧
    t.core n = { s.core n with tagGap := (t.core n).tagGap, lfsr := (t.core n).lfsr, tag := (t.core n).tag } ∧
    ∀ a d, (∀ j, j < 8 → a ≠ PMC_CORE_CNT.addr [n, j]) → SMap.get t.csr a d = SMap.get s.csr a d

/-- An instruction of `n` words retires: its context becomes `f` of what it was, goes on after the instruction, and has one
less of its budget; no other context changes, nor does anything else but the core's tag and its event counters. -/
def Retires (i : Instr) (s : State) (c n : Nat) (f : Ctx → Ctx) : Prop :=
  Gives i s fun t =>
    t.ctx c = { f (s.ctx c) with pc := (s.ctx c).pc + n, budget := (s.ctx c).budget - 1 } ∧
    (∀ k, k ≠ c → t.ctx k = s.ctx k) ∧ OnlyCore s t (c / 4)

/-- The unit does not replay a recording and is not frozen after a replay (R416). -/
def Live (s : State) : Prop := s.replaying = false ∧ s.obs.rep.frozen = false

/-- A write of a register by an initiator takes its effect: the indices name one, its domain is on (R394), the initiator may
write its block (R106, R365), no pending set holds it (R350), no replay runs and the unit is not frozen (R416). -/
def Writes (s : State) (r : Reg) (i : List Nat) (who : Init) : Prop :=
  inDims r.dims i = true ∧ s.domOn (r.domOf i) = true ∧ s.kickHolds (r.addr i) (r.width / 8) = false ∧
    (guardedBlock (r.addr i / 0x100000) = true → who = .host ∨ who = .mgc) ∧ Live s

/-- The registers that the log and the scorebook move: HIF_MSIX_PBA, SCB_STATUS, SCB_HEAD, SCB_DIVERGE and SCB_EVT_TOTAL. -/
def recordRegs : List Nat :=
  [HIF_MSIX_PBA.addr [], SCB_STATUS.addr [], SCB_HEAD.addr [], SCB_DIVERGE.addr [], SCB_EVT_TOTAL.addr []]

/-- Two states differ at most in what is recorded: the scorebook's own state and stream, the event log, the interrupt
messages, and the registers in which these count. Only a recording writes memory, only a replay moves the replay's own state,
and SCB_STATUS stands while neither runs. -/
def Recorded (s t : State) : Prop :=
  t = { s with csr := t.csr, mem := t.mem, chk := t.chk, obs := t.obs } ∧
    (s.recording = false → t.mem = s.mem ∧ t.chk = s.chk ∧ t.recording = false ∧
      (s.replaying = false → t.rg SCB_STATUS = s.rg SCB_STATUS)) ∧
    (s.replaying = false → t.replaying = false ∧ t.obs.rep = s.obs.rep) ∧
    ∀ a d, a ∉ recordRegs → SMap.get t.csr a d = SMap.get s.csr a d

end Sys2Proof.Machine
end

