-- ==== Sys2Proof/WellFormed.lean ====
section
/-! DEFINITION. Which commands are well formed: every operand within the range that the encoding, the register family or the
table it indexes gives it. -/

namespace Sys2Proof

open Machine

/-- A number fits `w` bits. -/
def fits (w v : Nat) : Bool := decide (v < 2 ^ w)
/-- A context ID, 0-383 (R101). -/
def ctxOk (c : Nat) : Bool := decide (c < 384)
/-- A general register number. -/
def regOk (r : Nat) : Bool := decide (r < 32)
/-- A predicate number. -/
def predOk (p : Nat) : Bool := decide (p < 8)
/-- A field of a register: 1 to 64 bits, none past bit 63 (R132). -/
def fieldOk (pos len : Nat) : Bool := decide (1 ≤ len) && decide (pos + len ≤ 64)
/-- The length of a guarded range, 1-4 (R133). -/
def guardOk (n : Nat) : Bool := decide (1 ≤ n) && decide (n ≤ 4)
/-- An index below a bound. -/
def idxOk (n i : Nat) : Bool := decide (i < n)
/-- A radio unit. -/
def unitOk (x : Nat) : Bool := idxOk 3 x
/-- A queue pair. -/
def qpOk (q : Nat) : Bool := idxOk 64 q
/-- A huddle member's device number. -/
def devOk (d : Nat) : Bool := idxOk 16 d
/-- A local station index. -/
def staOk (n : Nat) : Bool := idxOk 1024 n
/-- A station's TID. -/
def tidOk (t : Nat) : Bool := idxOk 8 t
/-- A 12-bit sequence number. -/
def snOk (n : Nat) : Bool := fits 12 n
/-- A lease's length (R194). -/
def leaseLenOk (n : Nat) : Bool := decide (1 ≤ n) && decide (n ≤ 512)
/-- An access of 1, 2, 4 or 8 bytes at an address aligned to it (R12, R105). -/
def accessOk (a n : Nat) : Bool := [1, 2, 4, 8].contains n && a % n == 0
/-- An Ethernet port and a sub-port of it. -/
def subOk (p sub : Nat) : Bool := idxOk 2 p && idxOk 4 sub
/-- An initiator: a context or a peer within its range. -/
def whoOk : Init → Bool
  | .ctx c => ctxOk c
  | .peer d => devOk d
  | .host => true
  | .mgc => true
  | .hw => true
/-- Bytes of a given number, when there are any. -/
def lenOk (n : Nat) : Option Bytes → Bool
  | some b => decide (b.length = n)
  | none => true
/-- A boundary FIFO that exists (Table PAC-4). -/
def fifoOk : BoundaryFifo → Bool
  | .jesdTx l => idxOk 16 l
  | .jesdRx l => idxOk 16 l
  | .tiqTx => true
  | .tiqRx => true
  | .ethTx p sub _ => subOk p sub
  | .ethRx p sub => subOk p sub
  | .linkTx l => idxOk 7 l
  | .linkRx l => idxOk 7 l

/-- Leases handed over: TID, holder, first SN, length. -/
def leasesOk (l : List (Nat × Nat × Nat × Nat)) : Bool :=
  l.all fun e => tidOk e.1 && devOk e.2.1 && snOk e.2.2.1 && leaseLenOk e.2.2.2
/-- Leases reported: station handle, TID, first SN, length. -/
def reportOk (l : List (Nat × Nat × Nat × Nat)) : Bool :=
  l.all fun e => fits 16 e.1 && tidOk e.2.1 && snOk e.2.2.1 && leaseLenOk e.2.2.2


/-- The command is well formed. -/
def Instr.wf : Instr → Bool
  | .csrWrite who off n _ => whoOk who && accessOk off n
  | .rcRead who _ off n => whoOk who && accessOk off n
  | .unmappedAccess who a n _ _ => whoOk who && accessOk a n
  | .downBlockAccess who a n _ _ => whoOk who && accessOk a n
  | .paceWindowEnd counts => decide (counts.length ≤ 128)
  | .avsEnable who _ _ _ => whoOk who
  | .avsDisable who _ => whoOk who
  | .avsIteration => true
  | .pmbusAttemptEnd _ => true
  | .refLost => true
  | .refReturn => true
  | .tmbRateWrite who _ => whoOk who
  | .timebaseStep who _ => whoOk who
  | .tmbTimeRead who _ => whoOk who
  | .ppsEdge _ => true
  | .ppsHoldover => true
  | .boundaryFifoEvent f => fifoOk f
  | .responseRelease x _ => unitOk x
  | .powerOnReset _ _ _ => true
  | .strapLatch refsel bootsrc fabid => fits 2 refsel && fits 2 bootsrc && fits 4 fabid
  | .fuseSense _ => true
  | .timebaseLock => true
  | .romStart => true
  | .hostPowerOn => true
  | .imageSlotCheck _ => true
  | .firmwareStart => true
  | .secRcvGo who _ => whoOk who
  | .secExtGo who _ => whoOk who
  | .mrExtend => true
  | .attestRequest source _ _ bytes => idxOk 3 source && lenOk 64 (some bytes)
  | .attestService => true
  | .attestReportDone _ => true
  | .hifBar2BaseWrite who _ => whoOk who
  | .queueEnable qp who _ => qpOk qp && whoOk who
  | .queueDisable qp who _ => qpOk qp && whoOk who
  | .queueDrained qp => qpOk qp
  | .sqDoorbell qp who _ => qpOk qp && whoOk who
  | .cqDoorbell qp who _ => qpOk qp && whoOk who
  | .commandFetch qp host => qpOk qp && host.all fun e => idxOk (2 ^ 64) e.1 && e.2.length == 64
  | .hifNop qp _ => qpOk qp
  | .txFrame qp _ _ => qpOk qp
  | .rxBuf qp _ => qpOk qp
  | .memWrite qp _ _ => qpOk qp
  | .memRead qp _ _ => qpOk qp
  | .imageLoad qp _ _ => qpOk qp
  | .imageUnload qp _ => qpOk qp
  | .stageItems qp _ _ => qpOk qp
  | .stageDiscard qp _ => qpOk qp
  | .kickoff qp _ => qpOk qp
  | .attest qp _ req => qpOk qp && lenOk 64 req
  | .completionPost qp _ => qpOk qp
  | .irqTimer qp => qpOk qp
  | .hostLoss cause v => idxOk 8 cause && fits 32 v
  | .hostQueueDeliver h _ => idxOk 256 h
  | .eventDispatch => true
  | .eventStart c => ctxOk c
  | .endDrainDone c => ctxOk c
  | .imageCommit => true
  | .coreSwitch n => idxOk 96 n
  | .benchHandover c => ctxOk c
  | .drkBenchRel who _ => whoOk who
  | .add c d a b => ctxOk c && regOk d && regOk a && regOk b
  | .sub c d a b => ctxOk c && regOk d && regOk a && regOk b
  | .and c d a b => ctxOk c && regOk d && regOk a && regOk b
  | .or c d a b => ctxOk c && regOk d && regOk a && regOk b
  | .xor c d a b => ctxOk c && regOk d && regOk a && regOk b
  | .andn c d a b => ctxOk c && regOk d && regOk a && regOk b
  | .shl c d a b => ctxOk c && regOk d && regOk a && regOk b
  | .shr c d a b => ctxOk c && regOk d && regOk a && regOk b
  | .sar c d a b => ctxOk c && regOk d && regOk a && regOk b
  | .mul c d a b => ctxOk c && regOk d && regOk a && regOk b
  | .mulhu c d a b => ctxOk c && regOk d && regOk a && regOk b
  | .min c d a b => ctxOk c && regOk d && regOk a && regOk b
  | .max c d a b => ctxOk c && regOk d && regOk a && regOk b
  | .minu c d a b => ctxOk c && regOk d && regOk a && regOk b
  | .maxu c d a b => ctxOk c && regOk d && regOk a && regOk b
  | .popc c d a => ctxOk c && regOk d && regOk a
  | .clz c d a => ctxOk c && regOk d && regOk a
  | .bswap c d a => ctxOk c && regOk d && regOk a
  | .bswap4 c d a => ctxOk c && regOk d && regOk a
  | .bswap2 c d a => ctxOk c && regOk d && regOk a
  | .sel c d a b p => ctxOk c && regOk d && regOk a && regOk b && predOk p
  | .cmpEq c p a b => ctxOk c && predOk p && regOk a && regOk b
  | .cmpNe c p a b => ctxOk c && predOk p && regOk a && regOk b
  | .cmpLt c p a b => ctxOk c && predOk p && regOk a && regOk b
  | .cmpGe c p a b => ctxOk c && predOk p && regOk a && regOk b
  | .cmpLtu c p a b => ctxOk c && predOk p && regOk a && regOk b
  | .cmpGeu c p a b => ctxOk c && predOk p && regOk a && regOk b
  | .cmpTst c p a b => ctxOk c && predOk p && regOk a && regOk b
  | .cmpNtst c p a b => ctxOk c && predOk p && regOk a && regOk b
  | .pand c p a b => ctxOk c && predOk p && regOk a && regOk b
  | .por c p a b => ctxOk c && predOk p && regOk a && regOk b
  | .pxor c p a b => ctxOk c && predOk p && regOk a && regOk b
  | .pandn c p a b => ctxOk c && predOk p && regOk a && regOk b
  | .pnot c p a => ctxOk c && predOk p && regOk a
  | .mfp c d => ctxOk c && regOk d
  | .mtp c a => ctxOk c && regOk a
  | .addi c d a imm => ctxOk c && regOk d && regOk a && fits 16 imm
  | .andi c d a imm => ctxOk c && regOk d && regOk a && fits 16 imm
  | .ori c d a imm => ctxOk c && regOk d && regOk a && fits 16 imm
  | .xori c d a imm => ctxOk c && regOk d && regOk a && fits 16 imm
  | .shli c d a n => ctxOk c && regOk d && regOk a && fits 6 n
  | .shri c d a n => ctxOk c && regOk d && regOk a && fits 6 n
  | .sari c d a n => ctxOk c && regOk d && regOk a && fits 6 n
  | .lui c d imm => ctxOk c && regOk d && fits 16 imm
  | .cmpiEq c p a imm => ctxOk c && predOk p && regOk a && fits 16 imm
  | .cmpiNe c p a imm => ctxOk c && predOk p && regOk a && fits 16 imm
  | .cmpiLt c p a imm => ctxOk c && predOk p && regOk a && fits 16 imm
  | .cmpiGe c p a imm => ctxOk c && predOk p && regOk a && fits 16 imm
  | .cmpiuEq c p a imm => ctxOk c && predOk p && regOk a && fits 16 imm
  | .cmpiuNe c p a imm => ctxOk c && predOk p && regOk a && fits 16 imm
  | .cmpiuLtu c p a imm => ctxOk c && predOk p && regOk a && fits 16 imm
  | .cmpiuGeu c p a imm => ctxOk c && predOk p && regOk a && fits 16 imm
  | .ext c d a pos len => ctxOk c && regOk d && regOk a && fieldOk pos len
  | .exts c d a pos len => ctxOk c && regOk d && regOk a && fieldOk pos len
  | .ins c d a pos len => ctxOk c && regOk d && regOk a && fieldOk pos len
  | .clrf c d a pos len => ctxOk c && regOk d && regOk a && fieldOk pos len
  | .movx c d imm => ctxOk c && regOk d && fits 32 imm
  | .movxs c d imm => ctxOk c && regOk d && fits 32 imm
  | .orhx c d a imm => ctxOk c && regOk d && regOk a && fits 32 imm
  | .addx c d a imm => ctxOk c && regOk d && regOk a && fits 32 imm
  | .ld1 c d a imm => ctxOk c && regOk d && regOk a && fits 16 imm
  | .ld2 c d a imm => ctxOk c && regOk d && regOk a && fits 16 imm
  | .ld4 c d a imm => ctxOk c && regOk d && regOk a && fits 16 imm
  | .ld8 c d a imm => ctxOk c && regOk d && regOk a && fits 16 imm
  | .ld1s c d a imm => ctxOk c && regOk d && regOk a && fits 16 imm
  | .ld2s c d a imm => ctxOk c && regOk d && regOk a && fits 16 imm
  | .ld4s c d a imm => ctxOk c && regOk d && regOk a && fits 16 imm
  | .st1 c d a imm => ctxOk c && regOk d && regOk a && fits 16 imm
  | .st2 c d a imm => ctxOk c && regOk d && regOk a && fits 16 imm
  | .st4 c d a imm => ctxOk c && regOk d && regOk a && fits 16 imm
  | .st8 c d a imm => ctxOk c && regOk d && regOk a && fits 16 imm
  | .aswap c d a b => ctxOk c && regOk d && regOk a && regOk b
  | .aadd c d a b => ctxOk c && regOk d && regOk a && regOk b
  | .aor c d a b => ctxOk c && regOk d && regOk a && regOk b
  | .aand c d a b => ctxOk c && regOk d && regOk a && regOk b
  | .acas c d a b => ctxOk c && regOk d && regOk a && regOk b
  | .nop c => ctxOk c
  | .fence c => ctxOk c
  | .endEvent c => ctxOk c
  | .mfs c d n => ctxOk c && regOk d && regOk n
  | .mts c n a => ctxOk c && regOk a && regOk n
  | .bt c p disp => ctxOk c && predOk p && fits 21 disp
  | .bf c p disp => ctxOk c && predOk p && fits 21 disp
  | .branchB c disp => ctxOk c && fits 21 disp
  | .callt c p disp => ctxOk c && predOk p && fits 21 disp
  | .callf c p disp => ctxOk c && predOk p && fits 21 disp
  | .call c disp => ctxOk c && fits 21 disp
  | .jr c d a => ctxOk c && regOk d && regOk a
  | .pred c p _ n => ctxOk c && predOk p && guardOk n
  | .hdrFetch c d a => ctxOk c && regOk d && regOk a
  | .hdrStore c d a => ctxOk c && regOk d && regOk a
  | .hdrPush c d a => ctxOk c && regOk d && regOk a
  | .hdrPull c d a => ctxOk c && regOk d && regOk a
  | .treeLookup c d a b t => ctxOk c && regOk d && regOk a && regOk b && idxOk 4 t
  | .hash c d a b => ctxOk c && regOk d && regOk a && regOk b
  | .hashix c d a => ctxOk c && regOk d && regOk a
  | .enqAir c d a b => ctxOk c && regOk d && regOk a && regOk b
  | .enqTmg c d a b => ctxOk c && regOk d && regOk a && regOk b
  | .deqAir c d a => ctxOk c && regOk d && regOk a
  | .drop c d a => ctxOk c && regOk d && regOk a
  | .clone c d a => ctxOk c && regOk d && regOk a
  | .cblkEnc c d a b => ctxOk c && regOk d && regOk a && regOk b
  | .cblkDec c d a b => ctxOk c && regOk d && regOk a && regOk b
  | .clmul c d a b => ctxOk c && regOk d && regOk a && regOk b
  | .clmulh c d a b => ctxOk c && regOk d && regOk a && regOk b
  | .wait c d a => ctxOk c && regOk d && regOk a
  | .waitany c d => ctxOk c && regOk d
  | .untilTime c d a => ctxOk c && regOk d && regOk a
  | .untilWake c => ctxOk c
  | .leaveAsk c d a b => ctxOk c && regOk d && regOk a && regOk b
  | .leaveGive c d a => ctxOk c && regOk d && regOk a
  | .churn c => ctxOk c
  | .time c d => ctxOk c && regOk d
  | .timefrac c d => ctxOk c && regOk d
  | .staLd c d a => ctxOk c && regOk d && regOk a
  | .staAdd c d a b => ctxOk c && regOk d && regOk a && regOk b
  | .staOr c d a b => ctxOk c && regOk d && regOk a && regOk b
  | .staAndn c d a b => ctxOk c && regOk d && regOk a && regOk b
  | .staCas c d a b => ctxOk c && regOk d && regOk a && regOk b
  | .renq c d a b => ctxOk c && regOk d && regOk a && regOk b
  | .rmsg c d a b => ctxOk c && regOk d && regOk a && regOk b
  | .unassignedInstruction c w => ctxOk c && fits 32 w
  | .engineOpComplete _ => true
  | .airEnqueue _ => true
  | .airAgeScan => true
  | .airCtlWrite who _ => whoOk who
  | .airWheelSlot => true
  | .planRequest x => unitOk x
  | .planPost x who _ => unitOk x && whoOk who
  | .planExpire x k => unitOk x && idxOk 4 k
  | .backoffSlotDecision x _ => unitOk x
  | .mpduModulationStart x _ => unitOk x
  | .ppduEnd x => unitOk x
  | .ackResponseReceive x n t sns => unitOk x && staOk n && tidOk t && (sns.all snOk)
  | .ackTimeout x => unitOk x
  | .twtSpStart e => idxOk 256 e
  | .twtSpEnd e => idxOk 256 e
  | .airTwtWrite e word who _ => idxOk 256 e && idxOk 2 word && whoOk who
  | .mpduReceive x _ _ => unitOk x
  | .mpduForwardArrive m _ => fits 16 m.handle && tidOk m.tid && snOk m.sn
  | .reorderHoldExpire n t => staOk n && tidOk t
  | .blockackreqReceive x n t ssn => unitOk x && staOk n && tidOk t && snOk ssn
  | .wsUpdateReceive handle t ws => fits 16 handle && tidOk t && snOk ws
  | .leaseRequest handle tid dev => fits 16 handle && tidOk tid && devOk dev
  | .leaseGrantReceive handle tid sn len pn _ => fits 16 handle && tidOk tid && snOk sn && leaseLenOk len && fits 48 pn
  | .leaseDeferredGrant => true
  | .leaseClose handle tid dev sn used => fits 16 handle && tidOk tid && devOk dev && snOk sn && decide (used ≤ 512)
  | .leaseRecall n t _ => staOk n && tidOk t
  | .migrateStateArrive handle _ leases => fits 16 handle && leasesOk leases
  | .migrateGraceEnd n => staOk n
  | .preambleDetect x _ cover _ => unitOk x && fits 16 cover
  | .lsigCheck x lsig => unitOk x && fits 24 lsig
  | .sigFieldCheck x _ _ => unitOk x
  | .rxRestart x _ => unitOk x
  | .ccaChange x sp _ => unitOk x && idxOk 16 sp
  | .sysrefEdge off => fits 3 off
  | .felLinkEnable x who _ => unitOk x && whoOk who
  | .felLinkUp x st => unitOk x && idxOk 4 st
  | .felLinkLoss x lane => unitOk x && idxOk 8 lane
  | .txEnable x who _ => unitOk x && whoOk who
  | .txDisable x who _ => unitOk x && whoOk who
  | .sndPost x who _ => unitOk x && whoOk who
  | .soundingExpire x => unitOk x
  | .feedbackReceive x _ _ _ => unitOk x
  | .speSubmit who _ => whoOk who
  | .speJobStart lane => idxOk 2 lane
  | .speJobDone lane => idxOk 2 lane
  | .precoderExpire e => idxOk 1024 e
  | .tlmEnable who _ => whoOk who
  | .tlmDisable who _ => whoOk who
  | .tlmSlotStart _ => true
  | .tlmPreambleDetect syms _ => decide (syms.length ≤ 4)
  | .sfdFound window => fits 16 window
  | .sfdTimeout => true
  | .phrCheck _ => true
  | .rxRearm syms _ => decide (syms.length ≤ 4)
  | .tlmFrameReceive _ _ => true
  | .enhancedAckRelease _ => true
  | .tlmTxpost who _ => whoOk who
  | .tlmAckReceive _ _ _ => true
  | .tlmAckWaitExpire _ => true
  | .tlmEntryExpire i => idxOk 1024 i
  | .tlmRxfree who _ => whoOk who
  | .neighbourValidate n who _ => idxOk 4097 n && whoOk who
  | .neighbourInvalidate n who _ => idxOk 4097 n && whoOk who
  | .refind n => idxOk 4097 n
  | .ethModeWrite p who _ => idxOk 2 p && whoOk who
  | .subportDisable p sp who => subOk p sp && whoOk who
  | .ethLinkChange p sp _ => subOk p sp
  | .ethFrameFate p sp _ => subOk p sp
  | .ethFrameEnd p sp => subOk p sp
  | .pauseFrameReceive p sp _ => subOk p sp
  | .pauseTimerExpire p sp prio => subOk p sp && idxOk 8 prio
  | .pauseRefresh p sp prio => subOk p sp && idxOk 8 prio
  | .watchdogTrip p sp prio => subOk p sp && idxOk 8 prio
  | .stormClear p sp prio => subOk p sp && idxOk 8 prio
  | .txtsPop p who => idxOk 2 p && whoOk who
  | .frameTxStart p sp => subOk p sp
  | .frameTxEnd p sp => subOk p sp
  | .skimmerPass => true
  | .skmIndirWrite i who _ => idxOk 512 i && whoOk who
  | .indirRelease i => idxOk 512 i
  | .tmgEnqueue _ => true
  | .tmgAgeScan => true
  | .calendarWheelSlot => true
  | .gateEntry k => idxOk 8 k
  | .gateSwitchStart k => idxOk 8 k
  | .strictAutoClear => true
  | .policerWrite i word who _ => idxOk 4096 i && idxOk 2 word && whoOk who
  | .shaperWrite queue i who _ => idxOk (if queue then 768 else 8) i && whoOk who
  | .cphAdmit _ => true
  | .aesBlockDone aes => idxOk 16 aes
  | .cphMicrosecond => true
  | .burstReturn => true
  | .burstRetry => true
  | .keyInstall k who _ => idxOk 4096 k && whoOk who
  | .keyWithdraw k who _ => idxOk 4096 k && whoOk who
  | .keyLimitWrite k who _ => idxOk 4096 k && whoOk who
  | .cipherJobDone who _ => whoOk who
  | .cipherRxTimeout slot => idxOk 4096 slot
  | .memPailWrite _ word who _ => idxOk 2 word && whoOk who
  | .drcOrderWrite r who _ => idxOk 8 r && whoOk who
  | .dramInitDone => true
  | .retrainDue ch _ => idxOk 8 ch
  | .retrainBatchEnd _ => true
  | .retrainLate ch => idxOk 8 ch
  | .whistle port _ _ _ p sp _ => idxOk 5 port && subOk p sp
  | .scrubRead _ => true
  | .memInjectArm who _ => whoOk who
  | .kickoffInstant dev set => devOk dev && idxOk 8 set
  | .kickDistributeReceive src set _ items images => devOk src && idxOk 8 set && (items.all fun b => lenOk 32 (some b)) && (images.all fun b => lenOk 256 (some b))
  | .kickReady dev set => devOk dev && idxOk 8 set
  | .kickCommitReceive src set => devOk src && idxOk 8 set
  | .fabCtlWrite who _ => whoOk who
  | .fabLinkUp l => idxOk 7 l
  | .helloReceive l fabid _ id => idxOk 7 l && devOk fabid && lenOk 16 (some id)
  | .flitBlockReceive l _ _ _ _ _ _ _ _ _ => idxOk 7 l
  | .linkResendTimeout l => idxOk 7 l
  | .linkStateFlood => true
  | .linkStateRecordReceive src links _ _ _ _ => devOk src && (links.all fun e => devOk e.2)
  | .remoteOpExecute src seq _ => devOk src && fits 32 seq
  | .remoteMsgEvent src b => devOk src && lenOk 64 (some b)
  | .remoteMsgFrame src _ _ _ => devOk src
  | .remoteCompletionReceive d seq _ _ _ => devOk d && fits 32 seq
  | .e2eResend d => devOk d
  | .lostTimeout d => devOk d
  | .fabAttWrite who _ => whoOk who
  | .timeExchange => true
  | .timePairReceive _ _ _ _ => true
  | .bondHeartbeat => true
  | .heartbeatMiss => true
  | .takeoverLeaseReport dev l => devOk dev && reportOk l
  | .takeoverGrantResume => true
  | .mirrorWriteReceive _ => true
  | .mirrorAckReceive _ => true
  | .bndEnable who _ => whoOk who
  | .bndDisable who _ => whoOk who
  | .catchupStart => true
  | .catchupDone => true
  | .detach who _ => whoOk who
  | .detachInstant => true
  | .detachComplete => true
  | .giveback who _ => whoOk who
  | .givebackInstant _ => true
  | .domainTargetOn d who => idxOk 13 d && whoOk who
  | .domainTargetRetention d who => idxOk 13 d && whoOk who
  | .domainTargetOff d who => idxOk 13 d && whoOk who
  | .domainSwitchOn d => idxOk 13 d
  | .domainSwitchDown d => idxOk 13 d
  | .leaveGrant => true
  | .pwrRefBudgetWrite who _ => whoOk who
  | .resetPin _ _ => true
  | .pwrReset who _ => whoOk who
  | .watchdogExpire => true
  | .pwrgdFall => true
  | .tapReset => true
  | .pmcFreeze who _ => whoOk who
  | .pmcClear who => whoOk who
  | .tagSample core _ => idxOk 96 core
  | .scbEvtAckWrite who _ => whoOk who
  | .scbTimeRecord => true
  | .scbStop who _ => whoOk who
  | .extest _ => true
  | .samplePreload balls shifted => fits 49 balls && fits 49 shifted
  | .clamp => true
  | .highz => true
  | .bypass ir => decide (4 ≤ ir.toNat)
  | .bar2Write off n _ => fits 30 off && accessOk off n
  | .keyExpansionDone k => idxOk 4096 k
  | .bondHeartbeatReceive => true
  | .bndAttWrite who _ => whoOk who
  | .twinReportReceive _ _ => true
  | .detachAgreeReceive _ => true
  | .detachStateArrive handle _ leases _ => fits 16 handle && leasesOk leases

end Sys2Proof
end

