-- ==== Sys2Proof/Certificates/Slice0/Obligations.lean ====
section
/-! DEFINITION. What is claimed of the block. Each statement's docstring names the rules of the spec it formalises. -/

open Sys2Proof Sys2Proof.Machine

/-! ## Dreka instructions (chapters 05 and 06) -/

/-- R101: g0 and p0 are constants, and any other register or predicate reads as last written, the others being left. -/
def Obligations.RegistersReadAsWritten : Prop :=
  ∀ (x : Ctx) (d k : Nat) (v : Word) (q : Bool),
    (x.setReg d v).reg k = (if k % 32 = 0 then 0 else if k % 32 = d % 32 then v else x.reg k) ∧
    (x.setPred d q).pred k = (if k % 8 = 0 then true else if k % 8 = d % 8 then q else x.pred k) ∧
    (x.setReg d v).p = x.p ∧ (x.setPred d q).g = x.g

/-- R136, Table DRI-3: the integer instructions. -/
def Obligations.IntegerInstructions : Prop :=
  ∀ (s : State) (c d a b p : Nat), Ready s c 1 →
    Retires (.add c d a b) s c 1 (fun x => x.setReg d (BitVec.ofNat 64 ((x.reg a).toNat + (x.reg b).toNat))) ∧
    Retires (.sub c d a b) s c 1 (fun x => x.setReg d (BitVec.ofInt 64 ((x.reg a).toNat - (x.reg b).toNat : Int))) ∧
    Retires (.and c d a b) s c 1 (fun x => x.setReg d (x.reg a &&& x.reg b)) ∧
    Retires (.or c d a b) s c 1 (fun x => x.setReg d (x.reg a ||| x.reg b)) ∧
    Retires (.xor c d a b) s c 1 (fun x => x.setReg d (x.reg a ^^^ x.reg b)) ∧
    Retires (.andn c d a b) s c 1 (fun x => x.setReg d (x.reg a &&& ~~~ x.reg b)) ∧
    Retires (.shl c d a b) s c 1 (fun x => x.setReg d (x.reg a <<< ((x.reg b).extractLsb 5 0).toNat)) ∧
    Retires (.shr c d a b) s c 1 (fun x => x.setReg d (x.reg a >>> ((x.reg b).extractLsb 5 0).toNat)) ∧
    Retires (.sar c d a b) s c 1 (fun x => x.setReg d ((x.reg a).sshiftRight ((x.reg b).extractLsb 5 0).toNat)) ∧
    Retires (.mul c d a b) s c 1 (fun x => x.setReg d (BitVec.ofNat 64 ((x.reg a).toNat * (x.reg b).toNat))) ∧
    Retires (.mulhu c d a b) s c 1 (fun x => x.setReg d (BitVec.ofNat 64 ((x.reg a).toNat * (x.reg b).toNat / 2 ^ 64))) ∧
    Retires (.min c d a b) s c 1 (fun x => x.setReg d (BitVec.ofInt 64 (min (x.reg a).toInt (x.reg b).toInt))) ∧
    Retires (.max c d a b) s c 1 (fun x => x.setReg d (BitVec.ofInt 64 (max (x.reg a).toInt (x.reg b).toInt))) ∧
    Retires (.minu c d a b) s c 1 (fun x => x.setReg d (BitVec.ofNat 64 (min (x.reg a).toNat (x.reg b).toNat))) ∧
    Retires (.maxu c d a b) s c 1 (fun x => x.setReg d (BitVec.ofNat 64 (max (x.reg a).toNat (x.reg b).toNat))) ∧
    Retires (.sel c d a b p) s c 1 (fun x => x.setReg d (if x.pred p then x.reg a else x.reg b))

/-- The value that POPC, CLZ and the byte swaps give bit by bit (Table DRI-3). -/
def Obligations.BitCountsAndByteSwaps : Prop :=
  ∀ (s : State) (c d a : Nat), Ready s c 1 →
    Retires (.popc c d a) s c 1 (fun x => x.setReg d
      (BitVec.ofNat 64 ((List.range 64).filter fun i => (x.reg a).getLsbD i).length)) ∧
    (∃ f : Word → Nat, Retires (.clz c d a) s c 1 (fun x => x.setReg d (BitVec.ofNat 64 (f (x.reg a)))) ∧
      ∀ v, f v ≤ 64 ∧ (∀ i, i < 64 → 64 - f v ≤ i → v.getLsbD i = false) ∧ (f v < 64 → v.getLsbD (63 - f v) = true)) ∧
    (∀ n i, (n, i) ∈ [(8, Instr.bswap c d a), (4, Instr.bswap4 c d a), (2, Instr.bswap2 c d a)] →
      ∃ f : Word → Word, Retires i s c 1 (fun x => x.setReg d (f (x.reg a))) ∧
        ∀ v j, j < 64 → (f v).getLsbD j = (decide (j < 8 * n) && v.getLsbD (8 * (n - 1 - j / 8) + j % 8)))

/-- R136, Table DRI-4: the compare and predicate instructions. -/
def Obligations.CompareAndPredicateInstructions : Prop :=
  ∀ (s : State) (c d p a b : Nat), Ready s c 1 →
    Retires (.cmpEq c p a b) s c 1 (fun x => x.setPred p (decide (x.reg a = x.reg b))) ∧
    Retires (.cmpNe c p a b) s c 1 (fun x => x.setPred p (decide (x.reg a ≠ x.reg b))) ∧
    Retires (.cmpLt c p a b) s c 1 (fun x => x.setPred p (decide ((x.reg a).toInt < (x.reg b).toInt))) ∧
    Retires (.cmpGe c p a b) s c 1 (fun x => x.setPred p (decide ((x.reg b).toInt ≤ (x.reg a).toInt))) ∧
    Retires (.cmpLtu c p a b) s c 1 (fun x => x.setPred p (decide ((x.reg a).toNat < (x.reg b).toNat))) ∧
    Retires (.cmpGeu c p a b) s c 1 (fun x => x.setPred p (decide ((x.reg b).toNat ≤ (x.reg a).toNat))) ∧
    Retires (.cmpTst c p a b) s c 1 (fun x => x.setPred p (decide (x.reg a &&& x.reg b ≠ 0))) ∧
    Retires (.cmpNtst c p a b) s c 1 (fun x => x.setPred p (decide (x.reg a &&& x.reg b = 0))) ∧
    Retires (.pand c p a b) s c 1 (fun x => x.setPred p (x.pred a && x.pred b)) ∧
    Retires (.por c p a b) s c 1 (fun x => x.setPred p (x.pred a || x.pred b)) ∧
    Retires (.pxor c p a b) s c 1 (fun x => x.setPred p (xor (x.pred a) (x.pred b))) ∧
    Retires (.pandn c p a b) s c 1 (fun x => x.setPred p (x.pred a && !x.pred b)) ∧
    Retires (.pnot c p a) s c 1 (fun x => x.setPred p (!x.pred a)) ∧
    (∃ f : Ctx → Word, Retires (.mfp c d) s c 1 (fun x => x.setReg d (f x)) ∧
      ∀ x j, j < 64 → (f x).getLsbD j = (decide (j < 8) && x.pred j)) ∧
    (∃ f : Ctx → Ctx, Retires (.mtp c a) s c 1 f ∧
      ∀ x k, (f x).pred k = (if k % 8 = 0 then true else (x.reg a).getLsbD (k % 8)) ∧ (f x).g = x.g)

/-- R136, Table DRI-6, and R132: the field instructions on a field of `len` bits from `pos`, bit by bit. -/
def Obligations.FieldInstructions : Prop :=
  ∀ (s : State) (c d a pos len : Nat), Ready s c 1 → 1 ≤ len → pos + len ≤ 64 →
    ∃ f g h k : Word → Word → Word,
      Retires (.ext c d a pos len) s c 1 (fun x => x.setReg d (f (x.reg d) (x.reg a))) ∧
      Retires (.exts c d a pos len) s c 1 (fun x => x.setReg d (g (x.reg d) (x.reg a))) ∧
      Retires (.ins c d a pos len) s c 1 (fun x => x.setReg d (h (x.reg d) (x.reg a))) ∧
      Retires (.clrf c d a pos len) s c 1 (fun x => x.setReg d (k (x.reg d) (x.reg a))) ∧
      ∀ u v j, j < 64 →
        (f u v).getLsbD j = (decide (j < len) && v.getLsbD (pos + j)) ∧
        (g u v).getLsbD j = (if j < len then v.getLsbD (pos + j) else v.getLsbD (pos + len - 1)) ∧
        (h u v).getLsbD j = (if pos ≤ j ∧ j < pos + len then v.getLsbD (j - pos) else u.getLsbD j) ∧
        (k u v).getLsbD j = (if pos ≤ j ∧ j < pos + len then false else v.getLsbD j)

/-- R136, Tables DRI-5 and DRI-7: the immediate instructions, whose immediate is sign-extended or zero-extended from its 16 bits,
and the wide immediates, which take two words and count once. -/
def Obligations.ImmediateInstructions : Prop :=
  (∀ (s : State) (c d p a : Nat) (imm : BitVec 16) (n : BitVec 6), Ready s c 1 →
    Retires (.addi c d a imm.toNat) s c 1 (fun x => x.setReg d (x.reg a + imm.signExtend 64)) ∧
    Retires (.andi c d a imm.toNat) s c 1 (fun x => x.setReg d (x.reg a &&& imm.setWidth 64)) ∧
    Retires (.ori c d a imm.toNat) s c 1 (fun x => x.setReg d (x.reg a ||| imm.setWidth 64)) ∧
    Retires (.xori c d a imm.toNat) s c 1 (fun x => x.setReg d (x.reg a ^^^ imm.setWidth 64)) ∧
    Retires (.shli c d a n.toNat) s c 1 (fun x => x.setReg d (x.reg a <<< n.toNat)) ∧
    Retires (.shri c d a n.toNat) s c 1 (fun x => x.setReg d (x.reg a >>> n.toNat)) ∧
    Retires (.sari c d a n.toNat) s c 1 (fun x => x.setReg d ((x.reg a).sshiftRight n.toNat)) ∧
    Retires (.lui c d imm.toNat) s c 1 (fun x => x.setReg d ((imm ++ (0 : BitVec 16)).signExtend 64)) ∧
    Retires (.cmpiEq c p a imm.toNat) s c 1 (fun x => x.setPred p (decide (x.reg a = imm.signExtend 64))) ∧
    Retires (.cmpiNe c p a imm.toNat) s c 1 (fun x => x.setPred p (decide (x.reg a ≠ imm.signExtend 64))) ∧
    Retires (.cmpiLt c p a imm.toNat) s c 1 (fun x => x.setPred p (decide ((x.reg a).toInt < imm.toInt))) ∧
    Retires (.cmpiGe c p a imm.toNat) s c 1 (fun x => x.setPred p (decide (imm.toInt ≤ (x.reg a).toInt))) ∧
    Retires (.cmpiuEq c p a imm.toNat) s c 1 (fun x => x.setPred p (decide ((x.reg a).toNat = imm.toNat))) ∧
    Retires (.cmpiuNe c p a imm.toNat) s c 1 (fun x => x.setPred p (decide ((x.reg a).toNat ≠ imm.toNat))) ∧
    Retires (.cmpiuLtu c p a imm.toNat) s c 1 (fun x => x.setPred p (decide ((x.reg a).toNat < imm.toNat))) ∧
    Retires (.cmpiuGeu c p a imm.toNat) s c 1 (fun x => x.setPred p (decide (imm.toNat ≤ (x.reg a).toNat)))) ∧
  ∀ (s : State) (c d a : Nat) (imm : BitVec 32), Ready s c 2 →
    Retires (.movx c d imm.toNat) s c 2 (fun x => x.setReg d (imm.setWidth 64)) ∧
    Retires (.movxs c d imm.toNat) s c 2 (fun x => x.setReg d (imm.signExtend 64)) ∧
    Retires (.orhx c d a imm.toNat) s c 2 (fun x => x.setReg d (x.reg a ||| (imm ++ (0 : BitVec 32)).setWidth 64)) ∧
    Retires (.addx c d a imm.toNat) s c 2 (fun x => x.setReg d (x.reg a + imm.signExtend 64))

/-- R114, R115, Table DRK-5: where a program's fault is taken, the context enters its image's fault entry with the fault's code,
the faulting word's offset and its address in s6, s7 and s8 and 64 instructions more of budget. -/
def Faults (i : Instr) (s : State) (c code : Nat) (addr : Word) : Prop :=
  Gives i s fun t =>
    t.ctx c = { s.ctx c with
      pc := (s.coreImage (c / 4)).faultEntry, budget := (s.ctx c).budget - 1 + 64, faultCode := code, faultPc := (s.ctx c).pc,
      faultAddr := addr, inFault := true, blocked := .nothing, guardN := 0, guardSquash := false } ∧
    ∀ k, k ≠ c → t.ctx k = s.ctx k

/-- A program's fault is taken by its image's fault entry: there is one, and the event does not run from it already. -/
def TakesFaults (s : State) (c : Nat) : Prop :=
  (s.coreImage (c / 4)).faultEntry ≠ noEntry ∧ (s.ctx c).inFault = false ∧ (s.ctx c).blocked = .nothing

/-- R140: a transfer of control continues at `t` with the return word `r` in register `link` (g0 for none). -/
def ContinuesAt (i : Instr) (s : State) (c t link : Nat) : Prop :=
  Gives i s fun u =>
    u.ctx c = { (s.ctx c).setReg link (BitVec.ofNat 64 ((s.ctx c).pc + 1)) with
      pc := t, budget := (s.ctx c).budget - 1, guardN := 0, guardSquash := false } ∧
    (∀ k, k ≠ c → u.ctx k = s.ctx k) ∧ OnlyCore s u (c / 4)

/-- R140, Table DRI-11: a branch or call whose condition holds continues at its own word offset plus the displacement, a call
writes the return word to g31, and one whose condition fails goes on, as one on p0 with NEG = 1 always does; jr sets d to the return
word and continues at g[a]; a target outside the code section, or a g[a] with any bit of [63:32] set, raises CODE_RANGE. -/
def Obligations.ControlTransfers : Prop :=
  (∀ (s : State) (c p d a t : Nat) (disp : BitVec 21), Ready s c 1 →
    t < (s.coreImage (c / 4)).codeWords →
    ((t : Int) = (s.ctx c).pc + disp.toInt →
      ((s.ctx c).pred p = true → ContinuesAt (.bt c p disp.toNat) s c t 0 ∧ ContinuesAt (.callt c p disp.toNat) s c t 31) ∧
      ((s.ctx c).pred p = false → ContinuesAt (.bf c p disp.toNat) s c t 0 ∧ ContinuesAt (.callf c p disp.toNat) s c t 31) ∧
      ContinuesAt (.branchB c disp.toNat) s c t 0 ∧ ContinuesAt (.call c disp.toNat) s c t 31) ∧
    ((s.ctx c).pred p = false → Retires (.bt c p disp.toNat) s c 1 id ∧ Retires (.callt c p disp.toNat) s c 1 id) ∧
    ((s.ctx c).pred p = true → Retires (.bf c p disp.toNat) s c 1 id ∧ Retires (.callf c p disp.toNat) s c 1 id) ∧
    ((s.ctx c).reg a = BitVec.ofNat 64 t → t < 2 ^ 32 → ContinuesAt (.jr c d a) s c t d)) ∧
  ∀ (s : State) (c p d a : Nat) (disp : BitVec 21), Ready s c 1 → TakesFaults s c →
    ((s.ctx c).pc + disp.toInt < 0 ∨ ((s.coreImage (c / 4)).codeWords : Int) ≤ (s.ctx c).pc + disp.toInt →
      ((s.ctx c).pred p = true → Faults (.bt c p disp.toNat) s c 0xC 0 ∧ Faults (.callt c p disp.toNat) s c 0xC 0) ∧
      ((s.ctx c).pred p = false → Faults (.bf c p disp.toNat) s c 0xC 0 ∧ Faults (.callf c p disp.toNat) s c 0xC 0) ∧
      Faults (.branchB c disp.toNat) s c 0xC 0 ∧ Faults (.call c disp.toNat) s c 0xC 0) ∧
    ((s.coreImage (c / 4)).codeWords ≤ ((s.ctx c).reg a).toNat ∨ 2 ^ 32 ≤ ((s.ctx c).reg a).toNat → Faults (.jr c d a) s c 0xC 0)

/-- R133: an instruction in a guarded range whose test failed is squashed, whatever it is, an unassigned word included: it takes one
of the budget and one of the range, and the context goes on after its words, with no other effect but the core's counters and tag. -/
def Obligations.SquashedInstructionsHaveNoEffect : Prop :=
  ∀ (s : State) (c d a b p imm m n w : Nat) (neg : Bool), s.canIssue c = true → (s.ctx c).budget ≠ 0 → (s.ctx c).guardN ≠ 0 →
    (s.ctx c).guardSquash = true → (s.ctx c).pc + 1 ≤ (s.coreImage (c / 4)).codeWords →
    let Skips := fun (i : Instr) (k : Nat) => Gives i s fun t =>
      t.ctx c = { s.ctx c with
        pc := (s.ctx c).pc + k, budget := (s.ctx c).budget - 1, guardN := (s.ctx c).guardN - 1 } ∧
      (∀ k, k ≠ c → t.ctx k = s.ctx k) ∧ OnlyCore s t (c / 4)
    (∀ i ∈
        [Instr.add c d a b, .sub c d a b, .and c d a b, .or c d a b, .xor c d a b, .andn c d a b, .shl c d a b, .shr c d a b,
         .sar c d a b, .mul c d a b, .mulhu c d a b, .min c d a b, .max c d a b, .minu c d a b, .maxu c d a b, .popc c d a,
         .clz c d a, .bswap c d a, .bswap4 c d a, .bswap2 c d a, .sel c d a b p, .cmpEq c p a b, .cmpNe c p a b,
         .cmpLt c p a b, .cmpGe c p a b, .cmpLtu c p a b, .cmpGeu c p a b, .cmpTst c p a b, .cmpNtst c p a b, .pand c p a b,
         .por c p a b, .pxor c p a b, .pandn c p a b, .pnot c p a, .mfp c d, .mtp c a, .addi c d a imm, .andi c d a imm,
         .ori c d a imm, .xori c d a imm, .shli c d a n, .shri c d a n, .sari c d a n, .lui c d imm, .cmpiEq c p a imm,
         .cmpiNe c p a imm, .cmpiLt c p a imm, .cmpiGe c p a imm, .cmpiuEq c p a imm, .cmpiuNe c p a imm, .cmpiuLtu c p a imm,
         .cmpiuGeu c p a imm, .ext c d a m n, .exts c d a m n, .ins c d a m n, .clrf c d a m n, .ld1 c d a imm, .ld2 c d a imm,
         .ld4 c d a imm, .ld8 c d a imm, .ld1s c d a imm, .ld2s c d a imm, .ld4s c d a imm, .st1 c d a imm, .st2 c d a imm,
         .st4 c d a imm, .st8 c d a imm, .aswap c d a b, .aadd c d a b, .aor c d a b, .aand c d a b, .acas c d a b, .nop c,
         .fence c, .endEvent c, .mfs c d n, .mts c n a, .bt c p imm, .bf c p imm, .branchB c imm, .callt c p imm,
         .callf c p imm, .call c imm, .jr c d a, .pred c p neg n, .hdrFetch c d a, .hdrStore c d a, .hdrPush c d a,
         .hdrPull c d a, .treeLookup c d a b m, .hash c d a b, .hashix c d a, .enqAir c d a b, .enqTmg c d a b, .deqAir c d a,
         .drop c d a, .clone c d a, .cblkEnc c d a b, .cblkDec c d a b, .clmul c d a b, .clmulh c d a b, .wait c d a,
         .waitany c d, .untilTime c d a, .leaveAsk c d a b, .leaveGive c d a, .churn c, .time c d, .timefrac c d, .staLd c d a,
         .staAdd c d a b, .staOr c d a b, .staAndn c d a b, .staCas c d a b, .renq c d a b, .rmsg c d a b],
      Skips i 1) ∧
    (∀ i ∈ [Instr.movx c d imm, .movxs c d imm, .orhx c d a imm, .addx c d a imm], Skips i 2) ∧
    (assigned w = false → Skips (.unassignedInstruction c w) (if w / 2 ^ 26 = 0x30 then 2 else 1))

/-- R101, R102, R107, R133, R140, R141: nop; mfs of each special register, which reads 0 from a reserved one (of TICK while no replay
runs); mts of the KEEP registers, and its ILLEGAL fault for an RO or reserved one; pred, which samples its predicate once; end starts
the event's drain; and fence waits while the context has stores through the fabric window on their way, and goes on when it has none. -/
def Obligations.SystemInstructions : Prop :=
  (∀ (s : State) (c d a n p : Nat) (neg : Bool), Ready s c 1 →
    Retires (.nop c) s c 1 id ∧
    (n < 32 → n ≠ 9 → Retires (.mfs c d n) s c 1 (fun x => x.setReg d
      (if n = 0 then BitVec.ofNat 64 c else if n = 1 then BitVec.ofNat 64 (c / 32)
       else if n = 2 then BitVec.ofNat 64 (s.coreImage (c / 4)).id else if n = 3 then BitVec.ofNat 64 x.event
       else if n = 4 then BitVec.ofNat 64 (x.budget - 1) else if n = 5 then BitVec.ofNat 64 x.epoch
       else if n = 6 then BitVec.ofNat 64 x.faultCode else if n = 7 then BitVec.ofNat 64 x.faultPc
       else if n = 8 then x.faultAddr else if 16 ≤ n ∧ n < 24 then SMap.get x.keep (n - 16) 0 else 0))) ∧
    (s.replaying = false → Gives (.mfs c d 9) s fun t =>
      t.ctx c = { (s.ctx c).setReg d (s.rg PMC_CORE_TICK [c / 4]) with
        pc := (s.ctx c).pc + 1, budget := (s.ctx c).budget - 1 } ∧ ∀ k, k ≠ c → t.ctx k = s.ctx k) ∧
    (16 ≤ n → n < 24 → Retires (.mts c n a) s c 1 (fun x => { x with keep := SMap.set x.keep (n - 16) (x.reg a) 0 })) ∧
    (n < 16 ∨ (24 ≤ n ∧ n < 32) → TakesFaults s c → Faults (.mts c n a) s c 0x1 0) ∧
    (1 ≤ n → n ≤ 4 → Retires (.pred c p neg n) s c 1 (fun x =>
      { x with guardN := n, guardSquash := decide (x.pred p = neg) }))) ∧
  ∀ (s : State) (c : Nat), Ready s c 1 →
    (Gives (.endEvent c) s fun t =>
      t.ctx c = { s.ctx c with st := .waiting, blocked := .drain, budget := (s.ctx c).budget - 1 } ∧
      (∀ k, k ≠ c → t.ctx k = s.ctx k) ∧ OnlyCore s t (c / 4)) ∧
    (s.storesBefore c s.drk.nextOp = false → Retires (.fence c) s c 1 id) ∧
    (s.storesBefore c s.drk.nextOp = true → Gives (.fence c) s fun t =>
      t.ctx c = { s.ctx c with st := .waiting, blocked := .fence, budget := (s.ctx c).budget - 1 } ∧
      (∀ k, k ≠ c → t.ctx k = s.ctx k) ∧ OnlyCore s t (c / 4))

/-! ## Accesses of programs (R104, R105, R137-R139) -/

/-- R104, R105: an aligned access of `n` bytes lies in local memory (1), in the core's shared section (2) or in the header
window (3), at an offset of its space. -/
def Near (s : State) (c : Nat) (a : Word) (n sp off : Nat) : Prop :=
  a.toNat = sp * 2 ^ 40 + off ∧ off % n = 0 ∧
    ((sp = 1 ∧ off + n ≤ 65536) ∨ (sp = 2 ∧ off + n ≤ (s.coreImage (c / 4)).sharedLen ∧ off < 2 ^ 40) ∨ (sp = 3 ∧ off + n ≤ 256))

/-- The byte that context `k` reads at an offset of a near space. -/
def nearByte (s : State) (k sp o : Nat) : Byte := getAt (s.nearBytes k sp o 1) 0 0

/-- The location that context `k` names in a near space is among the `n` bytes that context `c` names from `off`. -/
def SameNear (s : State) (c sp off n k sq o : Nat) : Prop :=
  sq = sp ∧ off ≤ o ∧ o < off + n ∧
    ((sp = 1 ∧ k / 4 = c / 4) ∨ (sp = 2 ∧ s.sharedKey k = s.sharedKey c) ∨ (sp = 3 ∧ k = c))

/-- R113, R137, Table DRI-8: a load from a near space puts the little-endian value, extended, into d and changes no memory; a store to
one writes the low bytes of its register there, least significant first, and nothing else; the header window takes stores from byte
64 on. -/
def Obligations.NearLoadsAndStores : Prop :=
  (∀ (s : State) (c d a sp off : Nat) (imm : BitVec 16) (n : Nat) (sg : Bool) (i : Instr),
    (n, sg, i) ∈ [(1, false, Instr.ld1 c d a imm.toNat), (2, false, .ld2 c d a imm.toNat), (4, false, .ld4 c d a imm.toNat),
      (8, false, .ld8 c d a imm.toNat), (1, true, .ld1s c d a imm.toNat), (2, true, .ld2s c d a imm.toNat),
      (4, true, .ld4s c d a imm.toNat)] →
    Ready s c 1 → Near s c ((s.ctx c).reg a + imm.signExtend 64) n sp off →
    Gives i s fun t =>
      t.ctx c = { (s.ctx c).setReg d
          (if sg then (BitVec.ofNat (8 * n) (leNat (s.nearBytes c sp off n))).signExtend 64
           else BitVec.ofNat 64 (leNat (s.nearBytes c sp off n))) with
        pc := (s.ctx c).pc + 1, budget := (s.ctx c).budget - 1 } ∧
      (∀ k, k ≠ c → t.ctx k = s.ctx k) ∧ (∀ k sq o, nearByte t k sq o = nearByte s k sq o) ∧
      (s.recording = false → ∀ x, t.byte x = s.byte x)) ∧
  ∀ (s : State) (c d a sp off : Nat) (imm : BitVec 16) (n : Nat) (i : Instr),
    (n, i) ∈ [(1, Instr.st1 c d a imm.toNat), (2, .st2 c d a imm.toNat), (4, .st4 c d a imm.toNat), (8, .st8 c d a imm.toNat)] →
    Ready s c 1 → Near s c ((s.ctx c).reg a + imm.signExtend 64) n sp off → (sp = 3 → 64 ≤ off) →
    Gives i s fun t =>
      t.ctx c = { s.ctx c with
        pc := (s.ctx c).pc + 1, budget := (s.ctx c).budget - 1, win := (t.ctx c).win, winDirty := (t.ctx c).winDirty } ∧
      (∀ k, k ≠ c → t.ctx k = s.ctx k) ∧
      (sp ≠ 3 → (t.ctx c).winDirty = (s.ctx c).winDirty) ∧
      t.nearBytes c sp off n = leBytes n ((s.ctx c).reg d).toNat ∧
      (∀ k sq o, 1 ≤ sq → sq ≤ 3 → ¬ SameNear s c sp off n k sq o → nearByte t k sq o = nearByte s k sq o) ∧
      (s.recording = false → ∀ x, t.byte x = s.byte x)

/-- None of the `n` bytes at `x` belongs to the READY field of a protection job's descriptor, whose store lets a waiting receive
job go on (R322). -/
def MissesReady (s : State) (x n : Nat) : Prop :=
  ∀ slot j, SMap.find s.cph.slots slot = some j → x + n ≤ s.descAddr slot + 100 ∨ s.descAddr slot + 104 ≤ x

/-- R139, Table DRI-10: an atomic reads and writes its aligned 8-byte location, in a near space or in device memory, as one step and
puts the old value into d, leaving every other location; one on the header window raises WINDOW_RANGE, one on a CSR or the fabric
window UNMAPPED, and a misaligned one MISALIGNED. -/
def Obligations.AtomicInstructions : Prop :=
  ∀ (s : State) (c d a b : Nat) (x : Word) (i : Instr) (f : Word → Word),
    (i, f) ∈ [(Instr.aswap c d a b, fun _ => (s.ctx c).reg b), (.aadd c d a b, fun o => o + (s.ctx c).reg b),
      (.aor c d a b, fun o => o ||| (s.ctx c).reg b), (.aand c d a b, fun o => o &&& (s.ctx c).reg b),
      (.acas c d a b, fun o => if o = (s.ctx c).reg d then (s.ctx c).reg b else o)] →
    Ready s c 1 → (s.ctx c).reg a = x →
    (∀ sp off, Near s c x 8 sp off → sp ≠ 3 → Gives i s fun t =>
      t.ctx c = { (s.ctx c).setReg d (BitVec.ofNat 64 (leNat (s.nearBytes c sp off 8))) with
        pc := (s.ctx c).pc + 1, budget := (s.ctx c).budget - 1 } ∧
      (∀ k, k ≠ c → t.ctx k = s.ctx k) ∧
      t.nearBytes c sp off 8 = leBytes 8 (f (BitVec.ofNat 64 (leNat (s.nearBytes c sp off 8)))).toNat ∧
      (∀ k sq o, 1 ≤ sq → sq ≤ 3 → ¬ SameNear s c sp off 8 k sq o → nearByte t k sq o = nearByte s k sq o) ∧
      (s.recording = false → ∀ y, t.byte y = s.byte y)) ∧
    (x.toNat % 8 = 0 → inMem x.toNat = true → s.domOn .memory = true → s.diff (x.toNat / 32) = 0 → s.recording = false →
      s.flag MEM_INJECT MEM_INJECT_ARM = false → MissesReady s x.toNat 8 → Gives i s fun t =>
        t.ctx c = { (s.ctx c).setReg d (BitVec.ofNat 64 (leNat (s.bytes x.toNat 8))) with
          pc := (s.ctx c).pc + 1, budget := (s.ctx c).budget - 1 } ∧
        (∀ k, k ≠ c → t.ctx k = s.ctx k) ∧
        t.bytes x.toNat 8 = leBytes 8 (f (BitVec.ofNat 64 (leNat (s.bytes x.toNat 8)))).toNat ∧
        (∀ y, y < x.toNat ∨ x.toNat + 8 ≤ y → t.byte y = s.byte y) ∧
        ∀ k sq o, nearByte t k sq o = nearByte s k sq o) ∧
    (TakesFaults s c →
      (x.toNat < 2 ^ 42 → x.toNat % 8 ≠ 0 → Faults i s c 0x3 x) ∧
      (x.toNat % 8 = 0 → 3 * 2 ^ 40 ≤ x.toNat → x.toNat < 2 ^ 42 → Faults i s c 0x6 x) ∧
      (x.toNat % 8 = 0 → 0x8000000000 ≤ x.toNat → x.toNat < 0x8004000000 → Faults i s c 0x2 x) ∧
      (x.toNat % 8 = 0 → 0xC000000000 ≤ x.toNat → x.toNat < 2 ^ 40 → Faults i s c 0x2 x))

/-- R104, R334, R337: an aligned 8-byte load of device memory, while MEMORY is on and the checked word has no error, gives its bytes
and changes none; an aligned 8-byte store there that misses the READY fields of protection jobs writes its register least
significant byte first, and changes no other byte. Nothing records. -/
def Obligations.MemoryAccesses : Prop :=
  ∀ (s : State) (c d a x : Nat) (imm : BitVec 16), Ready s c 1 →
    ((s.ctx c).reg a + imm.signExtend 64).toNat = x → x % 8 = 0 → inMem x = true → s.domOn .memory = true →
    s.diff (x / 32) = 0 → s.recording = false → s.flag MEM_INJECT MEM_INJECT_ARM = false →
    (Gives (.ld8 c d a imm.toNat) s fun t =>
      (t.ctx c).reg d = (if d % 32 = 0 then 0 else BitVec.ofNat 64 (leNat (s.bytes x 8))) ∧
      (t.ctx c).pc = (s.ctx c).pc + 1 ∧ ∀ y, t.byte y = s.byte y) ∧
    (MissesReady s x 8 → Gives (.st8 c d a imm.toNat) s fun t =>
      t.bytes x 8 = leBytes 8 ((s.ctx c).reg d).toNat ∧ (t.ctx c).pc = (s.ctx c).pc + 1 ∧
      (∀ k, k ≠ c → t.ctx k = s.ctx k) ∧ ∀ y, y < x ∨ x + 8 ≤ y → t.byte y = s.byte y)

/-- R102, R105, R132, R138, R140, R144: an unassigned word and mts of SR0 to SR15 raise ILLEGAL; jr with any bit of [63:32] set
raises CODE_RANGE; a misaligned ld8 or st8 raises MISALIGNED with its address; hdr.fetch, hdr.push and churn of an event with no
frame, and wait and waitany with no operation issued, raise ENGINE_ARG; enq.tmg, drop and clone of an event that owns no pail raise
PAIL_OWNER. -/
def Obligations.OperandFaults : Prop :=
  ∀ (s : State) (c d a n w : Nat) (imm : BitVec 16), Ready s c 1 → (s.coreImage (c / 4)).faultEntry ≠ noEntry →
    (s.ctx c).inFault = false → (s.ctx c).blocked = .nothing →
    (assigned w = false → Faults (.unassignedInstruction c w) s c 0x1 0) ∧
    (n < 16 → Faults (.mts c n a) s c 0x1 0) ∧
    (2 ^ 32 ≤ ((s.ctx c).reg a).toNat → Faults (.jr c d a) s c 0xC 0) ∧
    (((s.ctx c).reg a + imm.signExtend 64).toNat < 2 ^ 42 → ((s.ctx c).reg a + imm.signExtend 64).toNat % 8 ≠ 0 →
      Faults (.ld8 c d a imm.toNat) s c 0x3 ((s.ctx c).reg a + imm.signExtend 64) ∧
      Faults (.st8 c d a imm.toNat) s c 0x3 ((s.ctx c).reg a + imm.signExtend 64)) ∧
    ((s.ctx c).frame = none → Faults (.hdrFetch c d a) s c 0xA 0 ∧ Faults (.hdrPush c d a) s c 0xA 0 ∧ Faults (.churn c) s c 0xA 0) ∧
    ((s.ctx c).owned = [] → Faults (.enqTmg c d a 0) s c 0xB 0 ∧ Faults (.drop c d a) s c 0xB 0 ∧ Faults (.clone c d a) s c 0xB 0) ∧
    ((∀ k, k < 8 → (s.ctx c).ticket k = .free) → Faults (.waitany c d) s c 0xA 0 ∧ Faults (.wait c d 0) s c 0xA 0)

/-! ## Engine operations (R142-R154, Table DRI-12) -/

/-- R143: a blocking engine operation answers the result word of a status and a value in d, and the context goes on; its
other registers and predicates are left. -/
def Answers (i : Instr) (s : State) (c d st val : Nat) (P : State → Prop) : Prop :=
  Gives i s fun t =>
    (t.ctx c).st = .running ∧ (t.ctx c).pc = (s.ctx c).pc + 1 ∧ (t.ctx c).budget = (s.ctx c).budget - 1 ∧
      (t.ctx c).reg d = (if d % 32 = 0 then 0 else BitVec.ofNat 64 (st * 2 ^ 56 + val % 2 ^ 52)) ∧
      (∀ r, r % 32 ≠ d % 32 → (t.ctx c).reg r = (s.ctx c).reg r) ∧ (t.ctx c).p = (s.ctx c).p ∧ P t

/-- R145: the header-window operations on the event's own frame, which the event holds and whose window it has not stored to:
hdr.fetch and hdr.store answer the bytes moved, up to 64, and keep the frame; hdr.push of 1 to 128 bytes into a first pail with room
for them and hdr.pull of 1 byte to all but one answer the new length, which the event's frame then has. -/
def Obligations.HeaderWindowOperations : Prop :=
  ∀ (s : State) (c d a v : Nat) (f : Frame), Ready s c 1 → (s.ctx c).frame = some f → (s.ctx c).gone = false →
    (s.ctx c).winDirty = false → ((s.ctx c).reg a).toNat = v →
    (v < f.len → Answers (.hdrFetch c d a) s c d 0 (min 64 (f.len - v)) (fun t => (t.ctx c).frame = some f)) ∧
    (v < f.len → Answers (.hdrStore c d a) s c d 0 (min 64 (f.len - v)) (fun t => (t.ctx c).frame = some f)) ∧
    (1 ≤ v → v ≤ 128 → f.len + v ≤ 16383 → v ≤ (s.link f.pail).2.1 →
      Answers (.hdrPush c d a) s c d 0 (f.len + v) (fun t => (t.ctx c).frame = some { f with len := f.len + v })) ∧
    (1 ≤ v → v < f.len → Answers (.hdrPull c d a) s c d 0 (f.len - v)
      (fun t => (t.ctx c).frame.map Frame.len = some (f.len - v)))

/-- R146, R147, R282, R272: a tree lookup on a key of 8 to 64 bytes in eights walks the tree of the rule set that the event's epoch
names, or of the current one for an event without a frame: a match answers its rule and action, and no match, or no such rule set,
NO_MATCH. A hash of 1 to 64 bytes is the Toeplitz hash, and hashix reads the indirection table's CTX. While WIRED is not on, a lookup
answers DOMAIN_DOWN and hash and hashix read 0. -/
def Obligations.TreesAndHashes : Prop :=
  ∀ (s : State) (c d a b t k : Nat) (m : Bytes), Ready s c 1 →
    (s.engineBytes c ((s.ctx c).reg a) ((s.ctx c).reg b).toNat 8 = some m →
      8 ≤ ((s.ctx c).reg b).toNat → ((s.ctx c).reg b).toNat ≤ 64 → ((s.ctx c).reg b).toNat % 8 = 0 →
      (s.domOn .wired = false → Answers (.treeLookup c d a b t) s c d 1 0 (fun _ => True)) ∧
      (s.domOn .wired = true → (s.ctx c).frame.isSome = true → s.setSlot (s.ctx c).epoch = none →
        Answers (.treeLookup c d a b t) s c d 4 0 (fun _ => True)) ∧
      (s.domOn .wired = true →
        (if (s.ctx c).frame.isSome then s.setSlot (s.ctx c).epoch else some (s.fg SKM_EPOCH SKM_EPOCH_CUR_SLOT)) = some k →
        s.treeKeyLen k (t % 4) = ((s.ctx c).reg b).toNat →
        (∀ u r act, s.treeWalk k (t % 4) m = (u, .match_ r act) →
          Answers (.treeLookup c d a b t) s c d 0 (r % 2 ^ 16 + act % 2 ^ 32 * 2 ^ 16) (fun _ => True)) ∧
        ((∀ u r act, s.treeWalk k (t % 4) m ≠ (u, .match_ r act)) →
          Answers (.treeLookup c d a b t) s c d 4 0 (fun _ => True)))) ∧
    (s.engineBytes c ((s.ctx c).reg a) ((s.ctx c).reg b).toNat 1 = some m →
      1 ≤ ((s.ctx c).reg b).toNat → ((s.ctx c).reg b).toNat ≤ 64 →
      Retires (.hash c d a b) s c 1 (fun x =>
        x.setReg d (if s.domOn .wired then BitVec.ofNat 64 (toeplitz s.hashKey m) else 0))) ∧
    (((s.ctx c).reg a).toNat ≤ 511 → Retires (.hashix c d a) s c 1 (fun x =>
      x.setReg d (if s.domOn .wired then BitVec.ofNat 64 (s.fg SKM_INDIR SKM_INDIR_CTX [((s.ctx c).reg a).toNat]) else 0)))

/-- R152, R153: the two halves of the carry-less product, the latched fraction, and, while no replay runs, a read of the timebase,
which latches it. -/
def Obligations.ProductsAndTime : Prop :=
  ∀ (s : State) (c d a b : Nat), Ready s c 1 →
    (∃ lo hi : Word → Word → Word,
      Retires (.clmul c d a b) s c 1 (fun x => x.setReg d (lo (x.reg a) (x.reg b))) ∧
      Retires (.clmulh c d a b) s c 1 (fun x => x.setReg d (hi (x.reg a) (x.reg b))) ∧
      ∀ u v j, j < 64 →
        (lo u v).getLsbD j = ((List.range 64).foldl (fun z k => xor z (v.getLsbD k && decide (k ≤ j) && u.getLsbD (j - k))) false) ∧
        (hi u v).getLsbD j =
          ((List.range 64).foldl (fun z k => xor z (v.getLsbD k && u.getLsbD (j + 64 - k))) false)) ∧
    Retires (.timefrac c d) s c 1 (fun x => x.setReg d (BitVec.ofNat 64 x.frac)) ∧
    (s.replaying = false → Gives (.time c d) s fun t =>
      t.ctx c = { (s.ctx c).setReg d s.tmb.ns with
        pc := (s.ctx c).pc + 1, budget := (s.ctx c).budget - 1, frac := s.nowFrac, st := .running, blocked := .nothing } ∧
      ∀ k, k ≠ c → t.ctx k = s.ctx k)

/-- R142: a posted operation takes the lowest free ticket slot, which d names, and the context goes on at once. -/
def Posts (i : Instr) (s : State) (c d : Nat) (kind : OpKind) (f : Option Frame) : Prop :=
  ∀ slot, (s.ctx c).freeSlot = some slot →
    Gives i s fun t =>
      (t.ctx c).pc = (s.ctx c).pc + 1 ∧ (t.ctx c).st = .running ∧
        (t.ctx c).ticket slot = .pending s.drk.nextOp ∧ t.drk.nextOp = s.drk.nextOp + 1 ∧
        (t.ctx c).reg d = (if d % 32 = 0 then 0 else BitVec.ofNat 64 slot) ∧
        (∀ g, f = some g → ∀ h ∈ (t.ctx c).owned, h.pail ≠ g.pail) ∧
        ∃ o, SMap.find t.drk.ops s.drk.nextOp = some o ∧ o.ctx = c ∧ o.slot = slot ∧ o.kind = kind ∧ o.orphan = false

/-- R148-R151, R153, R154: what enq.air, enq.tmg, clone, renq to another device, cblk.enc, cblk.dec, rmsg and leave.ask post, of an
event that has not stored to its window; a frame handed off leaves the event. -/
def Obligations.PostedOperations : Prop :=
  ∀ (s : State) (c d a b : Nat) (f : Frame) (m : Bytes), Ready s c 1 → (s.ctx c).winDirty = false →
    (f ∈ (s.ctx c).owned → f.pail ≠ 0 → (∀ g ∈ (s.ctx c).owned, g.pail = f.pail → g = f) →
      ((s.ctx c).reg a).toNat = f.pail →
      (((s.ctx c).reg b).toNat < 2 ^ 19 →
        Posts (.enqAir c d a b) s c d
          (.enqAir (((s.ctx c).reg b).toNat % 2 ^ 16) (bits ((s.ctx c).reg b).toNat 18 16)) (some f)) ∧
      (((s.ctx c).reg b).toNat % 1024 < 768 → ((s.ctx c).reg b).toNat < 3072 →
        Posts (.enqTmg c d a b) s c d (.enqTmg ((s.ctx c).reg b).toNat ((s.ctx c).winBytes 248 8)) (some f)) ∧
      Posts (.clone c d a) s c d .clone (some f) ∧
      (((s.ctx c).reg b).toNat < 2 ^ 24 → bitN ((s.ctx c).reg b).toNat 19 = false →
        bits ((s.ctx c).reg b).toNat 23 20 ≠ s.self →
        Posts (.renq c d a b) s c d (.renq (((s.ctx c).reg b).toNat % 2 ^ 16) (bits ((s.ctx c).reg b).toNat 18 16)
          (bits ((s.ctx c).reg b).toNat 23 20)) (some f))) ∧
    (((s.ctx c).reg b).toNat < 2 ^ 12 → s.localInput c ((s.ctx c).reg a) 32 32 = some m →
      Posts (.cblkEnc c d a b) s c d (.cblk true ((s.ctx c).reg b).toNat (offsetOf ((s.ctx c).reg a)) (slice m 0 16)) none ∧
      Posts (.cblkDec c d a b) s c d (.cblk false ((s.ctx c).reg b).toNat (offsetOf ((s.ctx c).reg a)) (slice m 0 16)) none) ∧
    (((s.ctx c).reg b).toNat ≤ 15 → s.localInput c ((s.ctx c).reg a) 64 8 = some m →
      Posts (.rmsg c d a b) s c d (.rmsg ((s.ctx c).reg b).toNat m) none) ∧
    (((s.ctx c).reg a).toNat = 7 → 1 ≤ ((s.ctx c).reg b).toNat → ((s.ctx c).reg b).toNat ≤ 65535 →
      Posts (.leaveAsk c d a b) s c d .leave none)

/-- R148, R149, R153: deq.air answers EMPTY of an empty queue, DOMAIN_DOWN while MEMORY is not on, and else the head frame's handle
and length, a frame not over its age limit, which leaves its queue for the event; drop takes a frame from the event; leave.give takes
the grant from it. -/
def Obligations.QueueAndLeaveOperations : Prop :=
  ∀ (s : State) (c d a : Nat) (f : Frame), Ready s c 1 →
    (((s.ctx c).reg a).toNat ≤ 8191 → s.domOn .memory = true → (s.aq ((s.ctx c).reg a).toNat).frames = [] →
      Answers (.deqAir c d a) s c d 8 0 (fun t => (t.ctx c).owned = (s.ctx c).owned)) ∧
    (((s.ctx c).reg a).toNat ≤ 8191 → s.domOn .memory = false →
      Answers (.deqAir c d a) s c d 1 0 (fun t => (t.ctx c).owned = (s.ctx c).owned)) ∧
    (∀ q h r, ((s.ctx c).reg a).toNat = q → q ≤ 8191 → s.domOn .memory = true → (s.aq q).frames = h :: r →
      s.airOld q h = false →
      Answers (.deqAir c d a) s c d 0 (h.frame.pail + h.frame.len * 2 ^ 32)
        (fun t => (t.ctx c).owned = (s.ctx c).owned ++ [h.frame] ∧ (t.aq q).frames = r)) ∧
    (f ∈ (s.ctx c).owned → f.pail ≠ 0 → ((s.ctx c).reg a).toNat = f.pail →
      Gives (.drop c d a) s fun t =>
        (t.ctx c).pc = (s.ctx c).pc + 1 ∧ (t.ctx c).reg d = 0 ∧ ∀ g ∈ (t.ctx c).owned, g.pail ≠ f.pail) ∧
    (((s.ctx c).reg a).toNat ∈ (s.ctx c).grants →
      Gives (.leaveGive c d a) s fun t =>
        (t.ctx c).pc = (s.ctx c).pc + 1 ∧ (t.ctx c).reg d = 0 ∧ ((s.ctx c).reg a).toNat ∉ (t.ctx c).grants)

/-- R142: a context takes the completed result of a ticket slot: the slot is free again and d holds the result word. -/
def Collects (i : Instr) (s : State) (c slot d : Nat) (w : Word) (left : Nat) : Prop :=
  Gives i s fun t =>
    (t.ctx c).st = .running ∧ (t.ctx c).pc = (s.ctx c).pc + 1 ∧ (t.ctx c).budget = left ∧
      (t.ctx c).ticket slot = .free ∧ (∀ j, j ≠ slot → (t.ctx c).ticket j = (s.ctx c).ticket j) ∧
      (t.ctx c).reg d = (if d % 32 = 0 then 0 else w) ∧
      (∀ r, r % 32 ≠ d % 32 → (t.ctx c).reg r = (s.ctx c).reg r) ∧ (t.ctx c).p = (s.ctx c).p ∧
      ∀ k, k ≠ c → t.ctx k = s.ctx k

/-- A context waits: it keeps its registers and its place, and the instruction counted. -/
def WaitsFor (i : Instr) (s : State) (c : Nat) (b : Blocked) : Prop :=
  Gives i s fun t =>
    t.ctx c = { s.ctx c with st := .waiting, blocked := b, budget := (s.ctx c).budget - 1 } ∧
      (∀ k, k ≠ c → t.ctx k = s.ctx k) ∧ OnlyCore s t (c / 4)

/-- R142, R153: wait takes its ticket's result at once or waits for it, waitany takes the lowest completed slot or waits for the
first, until waits for an instant up to 1 ms ahead and continues from it on with the timebase read (while no replay runs), and churn
of a frame churned less than three times starts the event's drain. -/
def Obligations.WaitingInstructions : Prop :=
  ∀ (s : State) (c d a i n : Nat) (w : Word) (f : Frame),
    (Ready s c 1 →
      (((s.ctx c).reg a).toNat = i → i < 8 →
        ((s.ctx c).ticket i = .ready w → Collects (.wait c d a) s c i d w ((s.ctx c).budget - 1)) ∧
        ((s.ctx c).ticket i = .pending n → WaitsFor (.wait c d a) s c (.ticket i d))) ∧
      (i < 8 → (s.ctx c).ticket i = .ready w → (∀ j, j < i → ∀ v, (s.ctx c).ticket j ≠ .ready v) →
        Collects (.waitany c d) s c i d w ((s.ctx c).budget - 1)) ∧
      (i < 8 → (s.ctx c).ticket i = .pending n → (∀ j, j < 8 → ∀ v, (s.ctx c).ticket j ≠ .ready v) →
        WaitsFor (.waitany c d) s c (.anyTicket d)) ∧
      (((s.ctx c).reg a).toNat ≤ s.now → s.replaying = false → Gives (.untilTime c d a) s fun t =>
        t.ctx c = { (s.ctx c).setReg d s.tmb.ns with
          pc := (s.ctx c).pc + 1, budget := (s.ctx c).budget - 1, st := .running, blocked := .nothing } ∧
        ∀ k, k ≠ c → t.ctx k = s.ctx k) ∧
      (s.now < ((s.ctx c).reg a).toNat → ((s.ctx c).reg a).toNat ≤ s.now + 1000000 →
        WaitsFor (.untilTime c d a) s c (.instant ((s.ctx c).reg a).toNat d)) ∧
      ((s.ctx c).frame = some f → (s.ctx c).gone = false → (s.ctx c).winByte 2 ≠ 3 →
        WaitsFor (.churn c) s c .drainChurn)) ∧
    ((s.ctx c).st = .waiting → (s.ctx c).blocked = .instant n d → n ≤ s.now → s.replaying = false →
      Gives (.untilWake c) s fun t =>
      t.ctx c = { (s.ctx c).setReg d s.tmb.ns with pc := (s.ctx c).pc + 1, st := .running, blocked := .nothing } ∧
      ∀ k, k ≠ c → t.ctx k = s.ctx k)

/-- R142, R143: an answered operation completes: it is over, and its result word reaches its ticket slot, or at once the
context that waits for it. R141: the drain of an event that has no operation and no store left ends it: its grants return
and its context is idle, with its registers, KEEP registers and FIFO as they were. -/
def Obligations.OperationsAndEventsEnd : Prop :=
  ∀ (s : State) (id c d st v : Nat) (o : Op),
    (SMap.find s.drk.ops id = some o → o.res = some (st, v) → o.orphan = false → o.frame = none → o.ctx = c → o.slot < 8 →
      ((s.ctx c).st = .waiting → (s.ctx c).blocked = .ticket o.slot d ∨ (s.ctx c).blocked = .anyTicket d →
        Collects (.engineOpComplete id) s c o.slot d
          (BitVec.ofNat 64 (st * 2 ^ 56 + o.slot * 2 ^ 52 + v % 2 ^ 52)) (s.ctx c).budget) ∧
      ((s.ctx c).st = .running → Gives (.engineOpComplete id) s fun t =>
        (t.ctx c).ticket o.slot = .ready (BitVec.ofNat 64 (st * 2 ^ 56 + o.slot * 2 ^ 52 + v % 2 ^ 52)) ∧
        t.ctx c = { s.ctx c with tickets := (t.ctx c).tickets } ∧
        SMap.find t.drk.ops id = none ∧ (∀ j, j ≠ id → SMap.find t.drk.ops j = SMap.find s.drk.ops j) ∧
        ∀ k, k ≠ c → t.ctx k = s.ctx k)) ∧
    ((s.ctx c).st = .waiting → (s.ctx c).blocked = .drain → (s.ctx c).owned = [] →
      (∀ e ∈ s.drk.ops, e.2.ctx = c → e.2.orphan = true) → s.storesBefore c s.drk.nextOp = false →
      Gives (.endDrainDone c) s fun t =>
        (t.ctx c).st = .idle ∧ (t.ctx c).g = (s.ctx c).g ∧ (t.ctx c).p = (s.ctx c).p ∧ (t.ctx c).keep = (s.ctx c).keep ∧
        (t.ctx c).fifo = (s.ctx c).fifo ∧ (t.ctx c).owned = [] ∧ (t.ctx c).grants = [] ∧
        (∀ k, k ≠ c → t.ctx k = s.ctx k) ∧ ∀ e ∈ t.pwr.grants, e.2.id ∉ (s.ctx c).grants)

/-- R153, R182, Table WMC-3: a station operation on a context that this device holds for the handle reads the word's old value
into d, the home words of a link context reading 0, and sets p7; sta.add, sta.or, sta.andn and sta.cas write the peer-view words 27
and 28, and no other word of the context. A handle with no context here clears p7, reads 0 and writes nothing. -/
def Obligations.StationOperations : Prop :=
  ∀ (s : State) (c d a b n m : Nat) (f : Word → Word) (i : Instr),
    (i, f) ∈ [(Instr.staAdd c d a b, fun o => o + (s.ctx c).reg b), (.staOr c d a b, fun o => o ||| (s.ctx c).reg b),
      (.staAndn c d a b, fun o => o &&& ~~~ (s.ctx c).reg b),
      (.staCas c d a b, fun o => if o = (s.ctx c).reg d then (s.ctx c).reg b else o)] →
    Ready s c 1 → ((s.ctx c).reg a).toNat = n + m * 2 ^ 16 → n < 2 ^ 16 → s.domOn .memory = true →
    (m < 32 → s.ctxFor n = false → Gives (.staLd c d a) s fun t =>
      t.ctx c = { ((s.ctx c).setPred 7 false).setReg d 0 with
        pc := (s.ctx c).pc + 1, budget := (s.ctx c).budget - 1 } ∧ ∀ j, t.rg WMAC_CTX [n % 1024, j] = s.rg WMAC_CTX [n % 1024, j]) ∧
    (m < 32 → s.ctxFor n = true → Gives (.staLd c d a) s fun t =>
      t.ctx c = { ((s.ctx c).setPred 7 true).setReg d
          (if s.ctxRole (n % 1024) = 2 ∧ (m = 4 ∨ m = 6 ∨ m = 7 ∨ 16 ≤ m ∧ m ≤ 24) then 0 else s.rg WMAC_CTX [n % 1024, m]) with
        pc := (s.ctx c).pc + 1, budget := (s.ctx c).budget - 1 } ∧ ∀ j, t.rg WMAC_CTX [n % 1024, j] = s.rg WMAC_CTX [n % 1024, j]) ∧
    ((m = 27 ∨ m = 28) → s.ctxFor n = true → Gives i s fun t =>
      t.ctx c = { ((s.ctx c).setPred 7 true).setReg d (s.rg WMAC_CTX [n % 1024, m]) with
        pc := (s.ctx c).pc + 1, budget := (s.ctx c).budget - 1 } ∧
      t.rg WMAC_CTX [n % 1024, m] = f (s.rg WMAC_CTX [n % 1024, m]) ∧
      ∀ j, j < 32 → j ≠ m → t.rg WMAC_CTX [n % 1024, j] = s.rg WMAC_CTX [n % 1024, j]) ∧
    ((m = 27 ∨ m = 28) → s.ctxFor n = false → Gives i s fun t =>
      t.ctx c = { ((s.ctx c).setPred 7 false).setReg d 0 with
        pc := (s.ctx c).pc + 1, budget := (s.ctx c).budget - 1 } ∧ ∀ j, t.rg WMAC_CTX [n % 1024, j] = s.rg WMAC_CTX [n % 1024, j])

/-! ## Words of instructions (R131-R133, Tables DRI-1 to DRI-12) -/

/-- R131-R133: decoding the word of a well-formed instruction gives that instruction back, every operand included, whatever
word follows; a wide immediate's second word is its operand. -/
def Obligations.EncodedInstructionsDecode : Prop :=
  ∀ (i : Instr) (w next : Nat), i.wf = true →
    (encodeDreka i = some w → w < 2 ^ 32 ∧ ∃ c, decodeDreka c w next = some i) ∧
    (encodeWide i = some (w, next) → w < 2 ^ 32 ∧ next < 2 ^ 32 ∧ ∃ c, decodeDreka c w next = some i)

/-- R132, Table DRI-2: the words that decode are those whose encoding is assigned; any other is itself the command of an
unassigned word, which raises ILLEGAL. -/
def Obligations.AssignedWordsDecode : Prop :=
  ∀ c w next, w < 2 ^ 32 →
    (assigned w = true → ∃ i, decodeDreka c w next = some i ∧ fetchedDreka c w next = i) ∧
    (assigned w = false → fetchedDreka c w next = .unassignedInstruction c w)

/-- Words of Table DRI-14 stand for the instructions beside them (sanity). -/
def Obligations.WordsOfTheEncodingTable : Prop :=
  decodeDreka 5 0x04A63800 0 = some (.add 5 5 6 7) ∧ decodeDreka 5 0x04840013 0 = some (.bswap2 5 4 4) ∧
    decodeDreka 5 0x49610008 0 = some (.ld4 5 11 1 8) ∧ decodeDreka 5 0x2D240800 0 = some (.cmpiuNe 5 1 4 0x800) ∧
    decodeDreka 5 0x310940B0 0 = some (.ext 5 8 9 16 12) ∧ decodeDreka 5 0x80200009 0 = some (.bt 5 1 9) ∧
    decodeDreka 5 0x825FFFFB 0 = some (.bf 5 2 0x1FFFFB) ∧ decodeDreka 5 0xA1063840 0 = some (.treeLookup 5 8 6 7 0) ∧
    decodeDreka 5 0xA14B60C0 0 = some (.enqAir 5 10 11 12) ∧ decodeDreka 5 0xC0A00000 0x0C001234 = some (.movx 5 5 0x0C001234) ∧
    decodeDreka 5 0xF9800000 0 = some (.pred 5 3 false 1)

/-! ## Steps -/

/-- A step runs the command at the front of the queue on the queue's rest. -/
def Obligations.StepRunsTheFrontCommand : Prop :=
  ∀ (s : State) (i : Instr) (q : List Instr), s.pending = i :: q → step s = exec i { s with pending := q }

/-- R20, R394: no command stops the block: each answers a next state. -/
def Obligations.EveryCommandCompletes : Prop :=
  ∀ (s : State) (i : Instr), ∃ t, exec i s = .next t

/-! ## Registers and addresses (chapters 01 and 19) -/

/-- R20: the entry of an unmapped access that the event log takes, with no other entry before it where nothing is recorded: its
address, and the initiator by its contender code (the model's choice, assumption 145). -/
def LogsUnmapped (s t : State) (a : Nat) (who : Init) : Prop :=
  s.recording = false → ∃ e, SMap.find t.obs.log ((s.rg SCB_EVT_TOTAL).toNat % 1024) = some e ∧
    e.time = s.now ∧ e.kind = 9 ∧ e.arg0 = a ∧ e.arg1 = who.contender

/-- R11, R14, R20, R394, while no replay runs: a write of TMB_CTRL, a plain register, stores its RW fields and leaves its other bits;
a read of PWR_DOWN_CNT, an RC field, returns it and clears it, and changes no other register but the scorebook's. An aligned address
outside every region of Table ARC-2, in the check-symbol area or at an unassigned CSR index is unmapped; of an unmapped address a
write does nothing but log, a read gives 0 and logs, the entry holding the address and the initiator, and a program's 8-byte load
or store takes the UNMAPPED fault. An 8-byte access to MEMORY while it is not on is dropped, or reads 0x0BAD_0FF0 in each 32 bits,
and PWR_DOWN_ACC holds its address and kind. -/
def Obligations.RegisterAccesses : Prop :=
  ∀ (s : State) (who : Init) (a : Nat) (v : Word), Live s → s.domOn .aon = true →
    (s.kickHolds 0x300020 4 = false → Gives (.csrWrite who 0x300020 4 v) s fun t =>
      t.rg TMB_CTRL = (s.rg TMB_CTRL &&& ~~~ 0x133) ||| (v &&& 0x133) ∧
      ∃ m, Recorded s m ∧ t = m.wg TMB_CTRL (t.rg TMB_CTRL)) ∧
    (Gives (.rcRead who false 0x130008 4) s fun t =>
      SMap.find t.rdata who.key = some (BitVec.ofNat 64 ((s.rg PWR_DOWN_CNT).toNat % 2 ^ 32)) ∧
      t.fg PWR_DOWN_CNT PWR_DOWN_CNT_COUNT = 0 ∧
      ∀ b d, b ≠ 0x130008 → b ∉ recordRegs → SMap.get t.csr b d = SMap.get s.csr b d) ∧
    (a % 8 = 0 → (0x1C0000000 ≤ a ∧ a < 0x4000000000) ∨ (0x4003000000 ≤ a ∧ a < 0x8000000000) ∨ (0x8004000000 ≤ a ∧ a < 0xC000000000) ∨
        0x10000000000 ≤ a ∨ (0x8000000000 ≤ a ∧ a < 0x8004000000 ∧ blockAssigned ((a - 0x8000000000) / 0x100000) = false) →
      s.isUnmapped a 8 = true) ∧
    (∀ k, blockAssigned k = true ↔ k ∈ [0, 1, 2, 3, 4, 5, 6, 7, 8, 0x10, 0x11, 0x12, 0x13, 0x14, 0x15, 0x16, 0x18, 0x20, 0x21, 0x22,
      0x23, 0x24, 0x28, 0x29, 0x30, 0x31]) ∧
    (a % 8 = 0 → s.isUnmapped a 8 = true →
      (Gives (.unmappedAccess who a 8 true v) s fun t => Recorded s t ∧ LogsUnmapped s t a who) ∧
      (Gives (.unmappedAccess who a 8 false v) s fun t =>
        SMap.find t.rdata who.key = some 0 ∧ Recorded s { t with rdata := s.rdata } ∧ LogsUnmapped s t a who) ∧
      ∀ c d r (imm : BitVec 16), Ready s c 1 → TakesFaults s c → a < 2 ^ 40 →
        ((s.ctx c).reg r + imm.signExtend 64).toNat = a →
        Faults (.ld8 c d r imm.toNat) s c 0x2 (BitVec.ofNat 64 a) ∧
        (guardedBlock ((a - 0x8000000000) / 0x100000) = false ∨ inCsr a = false →
          Faults (.st8 c d r imm.toNat) s c 0x2 (BitVec.ofNat 64 a))) ∧
    (s.domOn .memory = false → inMem a = true → a % 8 = 0 →
      (Gives (.downBlockAccess who a 8 true v) s fun t =>
        (s.recording = false → ∀ b, t.byte b = s.byte b) ∧ t.fg PWR_DOWN_ACC PWR_DOWN_ACC_ADDR = a ∧
        t.fg PWR_DOWN_ACC PWR_DOWN_ACC_DOMAIN = 10 ∧ t.fg PWR_DOWN_ACC PWR_DOWN_ACC_INIT = who.code ∧
        t.fg PWR_DOWN_ACC PWR_DOWN_ACC_WRITE = 1) ∧
      (Gives (.downBlockAccess who a 8 false v) s fun t =>
        SMap.find t.rdata who.key = some 0x0BAD0FF00BAD0FF0 ∧ t.fg PWR_DOWN_ACC PWR_DOWN_ACC_ADDR = a ∧
        t.fg PWR_DOWN_ACC PWR_DOWN_ACC_WRITE = 0))

/-- R79, R334, while MEMORY is on, neither recording nor replay runs and the checked word has no error: a host write through BAR2 that
misses the READY fields of protection jobs stores its bytes, least significant first, in the window that HIF_BAR2_BASE selects, and
no other byte of memory; a read there returns the bytes and changes none. -/
def Obligations.HostWindowWrites : Prop :=
  ∀ (s : State) (who : Init) (off n x : Nat) (v : Word), n ∈ [1, 2, 4, 8] → off < 2 ^ 30 → off % n = 0 →
    s.fg HIF_BAR2_BASE HIF_BAR2_BASE_WIN * 2 ^ 30 + off = x → inMem x = true → s.domOn .memory = true →
    Live s → s.recording = false → s.diff (x / 32) = 0 →
    s.flag MEM_INJECT MEM_INJECT_ARM = false →
    (MissesReady s x n → Gives (.bar2Write off n v) s fun t =>
      t.bytes x n = leBytes n v.toNat ∧ ∀ y, y < x ∨ x + n ≤ y → t.byte y = s.byte y) ∧
    (Gives (.rcRead who true off n) s fun t =>
      SMap.find t.rdata who.key = some (BitVec.ofNat 64 (leNat (s.bytes x n))) ∧ ∀ y, t.byte y = s.byte y)

/-! ## The timebase, pace and the core's supply (chapter 02) -/

/-- The timebase in units of 2^-32 ns. -/
def timeIn32 (s : State) : Nat := s.now * 2 ^ 32 + s.tmb.frac.toNat

/-- R51-R53, while no replay runs: a step with no command waiting is a 500 MHz tick (the model's choice, assumption 8), in which
the running timebase gains 2 ns, twice ADJ and the first step that waits, where nothing else falls due, and a standing one nothing;
TMB_RATE takes an ADJ within ±500 ppm that nothing steers; a write of TMB_STEP other than 0 waits for a tick of its own, one
backward only with ALLOW_BACK, and changes nothing else; a read of TMB_TIME returns the nanoseconds and latches the fraction for its
requester; the loss and the return of the reference change nothing but REF_LOST and the log. -/
def Obligations.TimebaseCountsAndSteps : Prop :=
  ∀ (s : State) (who : Init) (v : Word) (adj : BitVec 32) (n : Int), Live s →
    (s.pending = [] → s.tmb.running = true → s.fg TMB_RATE TMB_RATE_ADJ = adj.toNat →
      n = timeIn32 s + 2 * 2 ^ 32 + 2 * adj.toInt + getAt s.tmb.steps 0 0 * 2 ^ 32 → 0 ≤ n → n < 2 ^ 96 →
      s.tick2.nextDue [] = none →
      ∃ t, step s = .next t ∧ (timeIn32 t : Int) = n ∧ t.tmb.steps = s.tmb.steps.tail) ∧
    (s.pending = [] → s.tmb.running = false → step s = .next s) ∧
    (Writes s TMB_RATE [] who → s.ppsSteers = false → s.fabSteers = false →
      -2147483 ≤ (v.setWidth 32).toInt → (v.setWidth 32).toInt ≤ 2147483 → Gives (.tmbRateWrite who v) s fun t =>
        t.fg TMB_RATE TMB_RATE_ADJ = v.toNat % 2 ^ 32 ∧ ∃ m, Recorded s m ∧ t = m.wg TMB_RATE (t.rg TMB_RATE)) ∧
    (Writes s TMB_STEP [] who → v ≠ 0 → (0 < v.toInt ∨ s.flag TMB_CTRL TMB_CTRL_ALLOW_BACK = true) →
      Gives (.timebaseStep who v) s fun t =>
        ∃ m, Recorded s m ∧ t = { m with tmb := { s.tmb with steps := s.tmb.steps ++ [v.toInt] } }) ∧
    (Writes s TMB_STEP [] who → v = 0 ∨ v.toInt < 0 ∧ s.flag TMB_CTRL TMB_CTRL_ALLOW_BACK = false →
      Gives (.timebaseStep who v) s fun t => Recorded s t) ∧
    (Gives (.tmbTimeRead who false) s fun t =>
      SMap.find t.rdata who.key = some s.tmb.ns ∧ SMap.get t.tmb.fracLatch who.key 0 = s.tmb.frac.toNat / 2 ^ 16 ∧
      t.tmb.ns = s.tmb.ns ∧ t.tmb.frac = s.tmb.frac ∧ t.tmb.running = s.tmb.running) ∧
    (Gives .refLost s fun t =>
      t.flag TMB_STATUS TMB_STATUS_REF_LOST = true ∧ t.tmb = s.tmb ∧ (s.flag TMB_STATUS TMB_STATUS_REF_LOST = true → t = s) ∧
      (s.flag TMB_STATUS TMB_STATUS_REF_LOST = false → Recorded (s.wg TMB_STATUS (t.rg TMB_STATUS)) t)) ∧
    (Gives .refReturn s fun t => t.flag TMB_STATUS TMB_STATUS_REF_LOST = false ∧ t = s.wg TMB_STATUS (t.rg TMB_STATUS))

/-- R51, R54, while no replay runs: an edge of PPS that PPS_EDGE does not select changes nothing; a selected one less than 999 ms
after the last accepted one changes nothing but the count of ignored edges; the first edge, or one 1 s ± 1 ms after the last, is
stamped, and with PPS_MODE 0b01 only that. With PPS_MODE 0b10 an edge within 100 µs of a whole second sets ADJ to
I − e·2^32 ÷ (2·10^9), I having moved by −e·2^32 ÷ (16·10^9), both within ±500 ppm, and one further off that may step the timebase
steps it by −e and sets I to 0; with no edge for 1.001 s the rate is I and the lock is lost. -/
def Obligations.PpsServo : Prop :=
  ∀ (s : State) (e i : Int) (x : Nat) (f : Bool), Live s → s.flag TMB_CTRL TMB_CTRL_PPS_EDGE = f →
    (Gives (.ppsEdge !f) s fun t => t = s) ∧
    (s.fg TMB_CTRL TMB_CTRL_PPS_MODE ≠ 0 → s.tmb.ppsLast = some x → s.now < x + 999000000 →
      Gives (.ppsEdge f) s fun t => t = { s with tmb := { s.tmb with ppsIgnored := s.tmb.ppsIgnored + 1 } }) ∧
    (s.fg TMB_CTRL TMB_CTRL_PPS_MODE = 1 ∨ s.fg TMB_CTRL TMB_CTRL_PPS_MODE = 2 →
      (s.tmb.ppsLast = none ∨ s.tmb.ppsLast = some x ∧ x + 999000000 ≤ s.now ∧ s.now ≤ x + 1001000000) →
      Gives (.ppsEdge f) s fun t =>
        t.rg TMB_PPS_STAMP = s.tmb.ns ∧ t.tmb.ns = s.tmb.ns ∧ t.tmb.ppsLast = some s.now ∧
        (s.fg TMB_CTRL TMB_CTRL_PPS_MODE = 1 → t.rg TMB_RATE = s.rg TMB_RATE ∧ t.tmb.steps = s.tmb.steps) ∧
        (s.ppsSteers = true → ((s.now : Int) + -e) % 1000000000 = 0 → -100000 ≤ e → e ≤ 100000 →
          i = max (-2147483) (min 2147483 (s.tmb.integ - e * 2 ^ 32 / 16000000000)) →
          t.tmb.integ = i ∧ t.tmb.steps = s.tmb.steps ∧
          (BitVec.ofNat 32 (t.fg TMB_RATE TMB_RATE_ADJ)).toInt = max (-2147483) (min 2147483 (i - e * 2 ^ 32 / 2000000000)) ∧
          t.tmb.ppsRun = (if -20 ≤ e ∧ e ≤ 20 then s.tmb.ppsRun + 1 else 0)) ∧
        (s.ppsSteers = true → ((s.now : Int) + -e) % 1000000000 = 0 → -500000000 ≤ e → e < 500000000 →
          (e < -100000 ∨ 100000 < e ∧ s.flag TMB_CTRL TMB_CTRL_ALLOW_BACK = true) →
          t.tmb.steps = s.tmb.steps ++ [-e] ∧ t.tmb.integ = 0)) ∧
    (s.ppsSteers = true → s.tmb.ppsHold = false → s.tmb.ppsLast = some x → x + 1001000000 ≤ s.now → s.tmb.integ = i →
      -2147483 ≤ i → i ≤ 2147483 → Gives .ppsHoldover s fun t =>
        (BitVec.ofNat 32 (t.fg TMB_RATE TMB_RATE_ADJ)).toInt = i ∧ t.flag TMB_STATUS TMB_STATUS_PPS_LOCK = false ∧
        t.tmb.ppsLast = none ∧ t.tmb.ns = s.tmb.ns)

/-- R39, R40, R42-R44: at a window's end a live monitor's VALUE is its count, another's 0, and FLOOR is the least of the candidates.
While no replay runs: a write of PWR_AVS_CFG out of range only sets CFG_REJ; ENABLE := 0 in a write in range stops the loop with
VCORE as it was; ENABLE := 1 reads the regulator, each read in at most three attempts, and starts the loop, while three that fail are a
fault; an iteration moves the voltage up or down by STEP when the floor is more than 16 from the target, keeps it within VMIN and
VMAX and writes it if it is not VCORE's; an accepted write makes VCORE_MV its voltage, a failed attempt is repeated, and the third
failure is a fault. -/
def Obligations.PaceAndSupply : Prop :=
  ∀ (s : State) (who : Init) (v : Word) (counts : List Nat) (j k u : Nat) (b : PmbusTry) (m : Nat),
    (counts.length = 128 → (∀ x ∈ counts, x < 4096) → j < 128 → Gives (.paceWindowEnd counts) s fun t =>
      t.fg PWR_PACE_MON PWR_PACE_MON_VALUE [j] = (if s.monLive j then getAt counts j 0 else 0) ∧
      (∀ x ∈ (s.setMons counts (List.range 128)).floorCands, t.fg PWR_PACE_STATUS PWR_PACE_STATUS_FLOOR ≤ x.1) ∧
      ((s.setMons counts (List.range 128)).floorCands ≠ [] →
        ∃ x ∈ (s.setMons counts (List.range 128)).floorCands, t.fg PWR_PACE_STATUS PWR_PACE_STATUS_FLOOR = x.1)) ∧
    (Writes s PWR_AVS_CFG [] who → s.fg PWR_AVS_CFG PWR_AVS_CFG_ENABLE = 1 → avsCfgOk v = true →
      Gives (.avsDisable who v) s fun t =>
        t.fg PWR_AVS_CFG PWR_AVS_CFG_ENABLE = 0 ∧ t.fg PWR_AVS_CFG PWR_AVS_CFG_TARGET = fld v 11 0 ∧
        t.fg PWR_PACE_STATUS PWR_PACE_STATUS_STATE = 0 ∧
        t.fg PWR_PACE_STATUS PWR_PACE_STATUS_VCORE_MV = s.fg PWR_PACE_STATUS PWR_PACE_STATUS_VCORE_MV) ∧
    (Writes s PWR_AVS_CFG [] who → avsCfgOk v = false → s.pace.enabling = false →
      Gives (.avsEnable who v [] []) s fun t =>
        t.rg PWR_AVS_CFG = s.rg PWR_AVS_CFG ∧ t.flag PWR_PACE_STATUS PWR_PACE_STATUS_CFG_REJ = true) ∧
    (Writes s PWR_AVS_CFG [] who → s.fg PWR_AVS_CFG PWR_AVS_CFG_ENABLE = 0 → avsCfgOk v = true → fld v 15 15 = 1 →
      s.pace.enabling = false → s.pace.busy = none →
      (m < 65536 → k < 3 → u < 3 →
        Gives (.avsEnable who v (List.replicate k none ++ [some 0x17]) (List.replicate u none ++ [some m])) s fun t =>
          t.fg PWR_AVS_CFG PWR_AVS_CFG_ENABLE = 1 ∧
          (t.fg PWR_PACE_STATUS PWR_PACE_STATUS_STATE = 1 ∨ t.fg PWR_PACE_STATUS PWR_PACE_STATUS_STATE = 2) ∧
          t.pace.vout = some m ∧ t.pace.voutN = -9) ∧
      (Gives (.avsEnable who v [none, none, none] []) s fun t =>
        t.fg PWR_AVS_CFG PWR_AVS_CFG_ENABLE = 1 ∧ t.fg PWR_PACE_STATUS PWR_PACE_STATUS_STATE = 3 ∧
        t.flag PWR_PACE_STATUS PWR_PACE_STATUS_FAULT_SEEN = true)) ∧
    (s.avsDue = true → s.fg PWR_PACE_STATUS PWR_PACE_STATUS_STATE = 1 → 0x400 ≤ s.fg PWR_PACE_STATUS PWR_PACE_STATUS_FLOOR →
      m = min (max
          (if s.fg PWR_PACE_STATUS PWR_PACE_STATUS_FLOOR + 16 < s.fg PWR_AVS_CFG PWR_AVS_CFG_TARGET
            then s.pace.v + s.fg PWR_AVS_CFG PWR_AVS_CFG_STEP
           else if s.fg PWR_AVS_CFG PWR_AVS_CFG_TARGET + 16 < s.fg PWR_PACE_STATUS PWR_PACE_STATUS_FLOOR
            then s.pace.v - s.fg PWR_AVS_CFG PWR_AVS_CFG_STEP
           else s.pace.v) (s.fg PWR_AVS_CFG PWR_AVS_CFG_VMIN)) (s.fg PWR_AVS_CFG PWR_AVS_CFG_VMAX) →
      Gives .avsIteration s fun t =>
        t.pace.v = m ∧ t.pace.iterAt = s.now + s.fg PWR_AVS_CFG PWR_AVS_CFG_PERIOD * 10000 ∧
        t.fg PWR_PACE_STATUS PWR_PACE_STATUS_STATE = 1 ∧
        t.pace.busy = (if m = s.fg PWR_PACE_STATUS PWR_PACE_STATUS_VCORE_MV then none else some ⟨m, 0⟩)) ∧
    (Live s → s.pace.busy = some b →
      (b.mv < 1024 → Gives (.pmbusAttemptEnd true) s fun t =>
        t.fg PWR_PACE_STATUS PWR_PACE_STATUS_VCORE_MV = b.mv ∧ t.pace.busy = none) ∧
      (s.flag PWR_AVS_CFG PWR_AVS_CFG_ENABLE = true →
        (b.failed < 2 → Gives (.pmbusAttemptEnd false) s fun t =>
          t = { s with pace := t.pace } ∧ t.pace.busy = some { b with failed := b.failed + 1 }) ∧
        (b.failed = 2 → Gives (.pmbusAttemptEnd false) s fun t =>
          t.fg PWR_PACE_STATUS PWR_PACE_STATUS_STATE = 3 ∧ t.flag PWR_PACE_STATUS PWR_PACE_STATUS_FAULT_SEEN = true ∧
          t.fg PWR_PACE_STATUS PWR_PACE_STATUS_VCORE_MV = s.fg PWR_PACE_STATUS PWR_PACE_STATUS_VCORE_MV)))

/-! ## Start-up, measurement and attestation (chapter 03) -/

/-- R60-R66, R428: the steps of start-up. The straps go into SEC_STRAPS, TMB_STATUS.REFSEL and the fabric identity; the fuses
are sensed; the timebase starts from 0, or start-up stops at REFSEL 0b11 or BOOTSRC 0b11; the ROM extends MR0 and tries the slots
of BOOTSRC, an extend being performed behind those that wait; a slot whose flash does not answer or whose image fails a check leaves
its code and the next is tried, or RECOVERY is entered; an image read at its slot's offset that passes is accepted, and starts as
firmware, with MR1 extended and the UDS locked. HOST's base leave counts from its power-on. -/
def Obligations.StartUpSequence : Prop :=
  ∀ (s : State) (x y z k : Nat) (f : Fuses) (fl : List (Nat × Bytes)) (l : List Nat),
    (s.sec.boot = .reset → x < 4 → y < 4 → z < 16 → Gives (.strapLatch x y z) s fun t =>
      t.sec = { s.sec with boot := .strapped } ∧ t.fg SEC_STRAPS SEC_STRAPS_REFSEL = x ∧ t.fg SEC_STRAPS SEC_STRAPS_BOOTSRC = y ∧
      t.fg SEC_STRAPS SEC_STRAPS_FABID = z ∧ t.fg TMB_STATUS TMB_STATUS_REFSEL = x ∧ t.fg FAB_HUDDLE FAB_HUDDLE_SELF = z) ∧
    (s.sec.boot = .strapped → f.grade < 16 → f.step < 16 → Gives (.fuseSense f) s fun t =>
      t.sec.boot = .fused ∧ t.sec.fuses = f ∧ t.sec.udsLocked = false ∧ t.fg SEC_PART_ID SEC_PART_ID_GRADE = f.grade ∧
      t.fg SEC_PART_ID SEC_PART_ID_STEP = f.step ∧ t.fg SEC_PART_ID SEC_PART_ID_PART = s.fg SEC_PART_ID SEC_PART_ID_PART) ∧
    (s.sec.boot = .fused → Gives .timebaseLock s fun t =>
      if s.fg SEC_STRAPS SEC_STRAPS_REFSEL = 3 then t.sec.boot = .stopped ∧ t.stage = 4 ∧ t.tmb = s.tmb
      else t.sec.boot = .locked ∧ t.tmb = { s.tmb with ns := 0, frac := 0, running := true }) ∧
    (s.sec.boot = .locked → Gives .romStart s fun t =>
      if s.fg SEC_STRAPS SEC_STRAPS_BOOTSRC = 3 then t.sec.boot = .stopped ∧ t.stage = 5
      else t.mr 0 = sha384 ((s.extendAll s.sec.extends_.length).mr 0 ++ sha384 (Config.digestOf Config.romDigest ++ sha384 (fuseConfig s.sec.fuses))) ∧
        (s.fg SEC_STRAPS SEC_STRAPS_BOOTSRC = 0 → t.sec.boot = .slots [0, 1] ∧ t.stage = 0) ∧
        (s.fg SEC_STRAPS SEC_STRAPS_BOOTSRC = 1 → t.sec.boot = .slots [1, 0] ∧ t.stage = 0) ∧
        (s.fg SEC_STRAPS SEC_STRAPS_BOOTSRC = 2 → t.sec.boot = .recovery ∧ t.stage = 3)) ∧
    (s.sec.boot = .slots (k :: l) → k < 2 →
      (∀ flash code, (flash = none ∧ code = 1) ∨
          (flash = some fl ∧ code = fwCheck s.sec.fuses (SMap.get fl (k * 0x200000) []) ∧ code ≠ 0) →
        Gives (.imageSlotCheck flash) s fun t =>
          (if k = 0 then t.fg SEC_BOOT_STATUS SEC_BOOT_STATUS_FAIL_A else t.fg SEC_BOOT_STATUS SEC_BOOT_STATUS_FAIL_B) = code ∧
          (l = [] → t.sec.boot = .recovery ∧ t.stage = 3) ∧ (l ≠ [] → t.sec.boot = .slots l)) ∧
      (fwCheck s.sec.fuses (SMap.get fl (k * 0x200000) []) = 0 → Gives (.imageSlotCheck (some fl)) s fun t =>
        t.sec.boot = .accepted ∧ t.fg SEC_BOOT_STATUS SEC_BOOT_STATUS_SLOT = k + 1 ∧
        t.fg SEC_FW_INFO SEC_FW_INFO_VERSION = leAt (SMap.get fl (k * 0x200000) []) 4 2 ∧
        t.fg SEC_FW_INFO SEC_FW_INFO_SVN = leAt (SMap.get fl (k * 0x200000) []) 6 2)) ∧
    (s.sec.boot = .accepted → s.sec.pendingWarm = false → Gives .firmwareStart s fun t =>
      t.sec.boot = .firmware ∧ t.stage = 1 ∧ t.sec.udsLocked = true ∧ 
      t.mr 1 = sha384 ((s.extendAll s.sec.extends_.length).mr 1 ++ sha384 s.sec.fwImage) ∧
      t.sec.aliasPub = ecPub t.sec.aliasKey ∧ t.fg PWR_DOM_CTL PWR_DOM_CTL_TARGET [10] = 2) ∧
    (s.hostMay = true → Gives .hostPowerOn s fun t => t.domHeld .host = 4000)

/-- R63, R67-R69, R74, R76: SEC's commands. SEC_RCV_GO in RECOVERY accepts the host image that passes the checks as slot 3, or
leaves the failing check's code in FAIL_B; SEC_EXT_GO of the host captures six words of digest, or only sets EXT_BUSY while one is
pending, and is discarded and logged for the management core, and where start-up has stopped; an extend makes its register SHA-384
of its value and the digest, counts one log entry while the log has room, and leaves the other registers; a request of a huddle
member or of the twin that is accepted waits, one of a source not enabled is answered REFUSED, a request is served with one snapshot
of the registers, the log count and the time, and its report is sent. -/
def Obligations.MeasurementAndAttestation : Prop :=
  ∀ (s : State) (who : Init) (v : Word) (x : Extend) (l : List Extend) (r : AttReq) (q : List AttReq) (a b : Nat)
      (m : Bytes) (z : AttServe),
    (Writes s SEC_RCV_GO [] who → s.sec.boot = .recovery → v.getLsbD 0 = true →
      m = s.rcvBytes 0 512 ++ s.rcvBytes 512 (min 1048576 (leAt (s.rcvBytes 0 512) 8 4)) → Gives (.secRcvGo who v) s fun t =>
        (fwCheck s.sec.fuses m = 0 → t.sec.boot = .accepted ∧ t.fg SEC_BOOT_STATUS SEC_BOOT_STATUS_SLOT = 3) ∧
        (fwCheck s.sec.fuses m ≠ 0 → t.sec = s.sec ∧ t.fg SEC_BOOT_STATUS SEC_BOOT_STATUS_FAIL_B = fwCheck s.sec.fuses m)) ∧
    (Writes s SEC_EXT_GO [] .mgc → v.getLsbD 0 = true → Gives (.secExtGo .mgc v) s fun t => Recorded s t) ∧
    (Writes s SEC_EXT_GO [] .host → v.getLsbD 0 = true → s.sec.boot = .stopped → Gives (.secExtGo .host v) s fun t => Recorded s t) ∧
    (Writes s SEC_EXT_GO [] .host → v.getLsbD 0 = true → s.sec.boot ≠ .stopped → s.sec.hostExt = false → Gives (.secExtGo .host v) s fun t =>
      t.sec.hostExt = true ∧ ∃ d, t.sec.extends_ = s.sec.extends_ ++ [d] ∧ d.mr = 7 ∧ d.source = 2 ∧
        d.digest = ((List.range 6).map fun i => leBytes 8 (s.rg SEC_EXT_DATA [i]).toNat).flatten) ∧
    (Writes s SEC_EXT_GO [] .host → v.getLsbD 0 = true → s.sec.boot ≠ .stopped → s.sec.hostExt = true → Gives (.secExtGo .host v) s fun t =>
      t.sec = s.sec ∧ t.flag SEC_LOG_STATUS SEC_LOG_STATUS_EXT_BUSY = true) ∧
    (s.sec.extends_ = x :: l → s.sec.boot ≠ .stopped → Gives .mrExtend s fun t =>
      t.sec.extends_ = l ∧ t.mr x.mr = sha384 (s.mr x.mr ++ x.digest) ∧ (∀ k, k ≠ x.mr → t.mr k = s.mr k) ∧
      (s.sec.count < 1024 → t.sec.count = s.sec.count + 1 ∧ t.fg SEC_LOG_STATUS SEC_LOG_STATUS_COUNT = s.sec.count + 1) ∧
      (1024 ≤ s.sec.count → t.sec.count = s.sec.count ∧ t.sec.log = s.sec.log)) ∧
    (s.stage = 2 → s.sec.attPending.length < 8 → s.sec.attServing = none → m.length = 64 → attWellFormed m = true →
      (s.attEnabled 2 = true → bitN (s.fg FAB_HUDDLE FAB_HUDDLE_MEMBERS) a = true → Gives (.attestRequest 2 a b m) s fun t =>
        t.sec = { s.sec with attPending := s.sec.attPending ++ [⟨2, a, b, 0, m⟩] }) ∧
      (s.attEnabled 1 = true → Gives (.attestRequest 1 a b m) s fun t =>
        t.sec = { s.sec with attPending := s.sec.attPending ++ [⟨1, a, b, 0, m⟩] })) ∧
    (s.attEnabled 1 = false → Gives (.attestRequest 1 a b m) s fun t =>
      t.sec = { s.sec with attSent := s.sec.attSent ++ [(1, a + b * 2 ^ 16 + 2 * 2 ^ 60, [])] }) ∧
    (s.sec.attServing = none → s.sec.attPending = r :: q → Gives .attestService s fun t =>
      t = { s with sec := { s.sec with attPending := q, attServing := some ⟨r, (List.range 8).map s.mr, s.sec.count, s.now⟩ } }) ∧
    (s.sec.attServing = some z → z.req.source ≠ 0 → Gives (.attestReportDone true) s fun t =>
      t.sec.attServing = none ∧
      t.sec.attSent = s.sec.attSent ++ [(z.req.source, z.req.tagA + z.req.tagB * 2 ^ 16, s.attReport z)])

/-! ## The host interface (chapter 04) -/

/-- R79, R81, R87: the window register takes a window onto DRAM data or SRAM, and another value is only logged; a queue is enabled with
a valid configuration while DISABLED, its indices at 0 and its sequence numbers one before SEQ_INIT; disabling clears ENABLE and ends
the RX_BUF commands in flight, and a queue with ENABLE 0 is DISABLED when nothing of it is in flight; a doorbell of an ACTIVE queue
announces commands or releases completions, and one out of range halts the queue. -/
def Obligations.QueuesAndDoorbells : Prop :=
  ∀ (s : State) (who : Init) (n : Nat) (v : Word),
    (Writes s HIF_BAR2_BASE [] who → (fld v 9 0 ≤ 6 ∨ fld v 9 0 = 0x100) → Gives (.hifBar2BaseWrite who v) s fun t =>
      t.fg HIF_BAR2_BASE HIF_BAR2_BASE_WIN = fld v 9 0) ∧
    (Writes s HIF_BAR2_BASE [] who → ¬(fld v 9 0 ≤ 6 ∨ fld v 9 0 = 0x100) → Gives (.hifBar2BaseWrite who v) s fun t =>
      Recorded s t) ∧
    (Writes s HIF_QP_CFG [n] who → s.flag HIF_QP_CFG HIF_QP_CFG_ENABLE [n] = false → s.qState n = 0 →
      4 ≤ fld v 7 4 → fld v 7 4 ≤ fld v 11 8 → fld v 11 8 ≤ 12 → fld v 3 1 = 0 → fld v 15 12 = 0 → fld v 31 22 = 0 →
      Gives (.queueEnable n who v) s fun t =>
        t.qState n = 1 ∧ t.flag HIF_QP_CFG HIF_QP_CFG_ENABLE [n] = true ∧ t.sqSize n = 2 ^ fld v 7 4 ∧ t.cqSize n = 2 ^ fld v 11 8 ∧
        t.hq n = {} ∧ (t.fg HIF_QP_SEQ HIF_QP_SEQ_CONS [n] + 1) % 2 ^ 32 = s.fg HIF_QP_SEQ_INIT HIF_QP_SEQ_INIT_CMD [n] ∧
        (t.fg HIF_QP_SEQ HIF_QP_SEQ_POST [n] + 1) % 2 ^ 32 = s.fg HIF_QP_SEQ_INIT HIF_QP_SEQ_INIT_CPL [n]) ∧
    (Writes s HIF_QP_CFG [n] who → s.flag HIF_QP_CFG HIF_QP_CFG_ENABLE [n] = true → Gives (.queueDisable n who v) s fun t =>
      t.flag HIF_QP_CFG HIF_QP_CFG_ENABLE [n] = false ∧ t.qState n = s.qState n ∧
      (∀ c ∈ t.hif.cmds, c.qp = n → c.op = 2 → c.done ≠ none)) ∧
    (s.flag HIF_QP_CFG HIF_QP_CFG_ENABLE [n] = false → s.qCmds n = [] → Gives (.queueDrained n) s fun t => t.qState n = 0) ∧
    (Writes s HIF_QP_SQDB [n] who → s.qState n = 1 → fld v 11 0 < s.sqSize n → Gives (.sqDoorbell n who v) s fun t =>
      t.hq n = { s.hq n with
        tail := fld v 11 0, avail := (s.hq n).avail + (fld v 11 0 + s.sqSize n - (s.hq n).tail) % s.sqSize n }) ∧
    (Writes s HIF_QP_SQDB [n] who → s.qState n = 1 → s.sqSize n ≤ fld v 11 0 → Gives (.sqDoorbell n who v) s fun t =>
      t.qState n = 3 ∧ t.fg HIF_QP_STATUS HIF_QP_STATUS_ERR [n] = 2) ∧
    (Writes s HIF_QP_CQDB [n] who → s.qState n = 1 → fld v 11 0 < s.cqSize n → (s.hq n).head < s.cqSize n →
      (fld v 11 0 + s.cqSize n - (s.hq n).head) % s.cqSize n ≤ (s.hq n).used → Gives (.cqDoorbell n who v) s fun t =>
        t.hq n = { s.hq n with
          head := fld v 11 0, used := (s.hq n).used - (fld v 11 0 + s.cqSize n - (s.hq n).head) % s.cqSize n }) ∧
    (Writes s HIF_QP_CQDB [n] who → s.qState n = 1 → (s.hq n).head < s.cqSize n →
      (s.cqSize n ≤ fld v 11 0 ∨ (s.hq n).used < (fld v 11 0 + s.cqSize n - (s.hq n).head) % s.cqSize n) →
      Gives (.cqDoorbell n who v) s fun t => t.qState n = 3 ∧ t.fg HIF_QP_STATUS HIF_QP_STATUS_ERR [n] = 2)

/-- A command in flight ends with a status and a result, and no other command's end changes. -/
def Ends (s t : State) (qp cseq status result : Nat) : Prop :=
  ∃ c ∈ t.hif.cmds, c.qp = qp ∧ c.cseq = cseq ∧ c.started = true ∧
    c.done = some { status, result } ∧
    ∀ d ∈ t.hif.cmds, ¬(d.qp = qp ∧ d.cseq = cseq) → d ∈ s.hif.cmds

/-- R82, R83, R91-R93, while no replay runs and, but for NOP, host memory can be reached: NOP ends; an MEM_WRITE of one checked word
stores its bytes in device memory and no others, and an MEM_READ of up to one writes device bytes to the host; each ends, and
MEM_WRITE with DOMAIN_DOWN while MEMORY is not on; TX_FRAME puts the frame, stored in pails, at the skimmer's HIF input, and ends with
HOST_UNREACHABLE where its data cannot be read; RX_BUF is offered; ATTEST reaches SEC, or ends as SEC refuses it. -/
def Obligations.HostCommands : Prop :=
  ∀ (s : State) (qp cseq : Nat) (c : HCmd) (b : Bytes) (u : State) (hs : List Nat), Live s →
    (s.starting qp cseq 0 = some c → Gives (.hifNop qp cseq) s fun t => Ends s t qp cseq 0 0) ∧
    (s.starting qp cseq 2 = some c → Gives (.rxBuf qp cseq) s fun t =>
      (∃ d ∈ t.hif.cmds, d = { c with started := true }) ∧ t = { s with hif := t.hif }) ∧
    (s.starting qp cseq 3 = some c → s.domOn .memory = false → Gives (.memWrite qp cseq (some b)) s fun t =>
      Ends s t qp cseq 7 0 ∧ ∀ y, t.byte y = s.byte y) ∧
    (s.starting qp cseq 3 = some c → s.domOn .memory = true → s.hostGone qp = false → b.length = c.len0 → c.len0 = 32 →
      c.addr1 % 32 = 0 → inMem c.addr1 = true → s.recording = false → s.flag MEM_INJECT MEM_INJECT_ARM = false →
      Gives (.memWrite qp cseq (some b)) s fun t =>
        Ends s t qp cseq 0 0 ∧ t.bytes c.addr1 32 = b ∧ ∀ y, y < c.addr1 ∨ c.addr1 + 32 ≤ y → t.byte y = s.byte y) ∧
    (s.starting qp cseq 4 = some c → s.domOn .memory = true → s.hostGone qp = false → 1 ≤ c.len0 → c.len0 ≤ 32 →
      c.addr1 % 32 = 0 → inMem c.addr1 = true → s.diff (c.addr1 / 32) = 0 → Gives (.memRead qp cseq true) s fun t =>
        Ends s t qp cseq 0 0 ∧ (∀ j, j < c.len0 → SMap.get t.hif.hostMem (c.addr0 + j) 0 = s.byte (c.addr1 + j)) ∧
        (∀ y, y < c.addr0 ∨ c.addr0 + c.len0 ≤ y → SMap.get t.hif.hostMem y 0 = SMap.get s.hif.hostMem y 0)) ∧
    (s.starting qp cseq 1 = some c → Gives (.txFrame qp cseq none) s fun t => Ends s t qp cseq 8 0) ∧
    (s.starting qp cseq 1 = some c → s.hostGone qp = false → s.recording = false → b.length = c.len0 →
      s.storeFrame 517 b = some (u, hs) → Gives (.txFrame qp cseq (some b)) s fun t =>
        t.mem = u.mem ∧ t.memst = u.memst ∧
        (∃ f : Frame, SMap.get t.skm.inputs 4 [] = SMap.get u.skm.inputs 4 [] ++ [f] ∧ f.pail = getAt hs 0 0 ∧ f.len = c.len0 ∧
          f.source = 0x3000 + qp ∧ f.arg = c.target ∧ f.ts = if bitN c.flags 1 then some (qp, cseq, c.stampTag) else none) ∧
        (bitN c.flags 1 = false → Ends s t qp cseq 0 0) ∧
        (bitN c.flags 1 = true → ∃ d ∈ t.hif.cmds, d = { c with started := true })) ∧
    (s.starting qp cseq 0x20 = some c → s.attEnabled 0 = false → s.hostGone qp = false → Gives (.attest qp cseq (some b)) s fun t =>
      Ends s t qp cseq 0 2) ∧
    (s.starting qp cseq 0x20 = some c → s.attEnabled 0 = true → s.hostGone qp = false → s.stage = 2 → attWellFormed b = true →
      s.sec.attPending.length < 8 → s.sec.attServing = none → Gives (.attest qp cseq (some b)) s fun t =>
        t.sec.attPending = s.sec.attPending ++ [⟨0, qp, cseq, c.addr1, b⟩] ∧
        ∃ d ∈ t.hif.cmds, d = { c with started := true })

/-- R84-R88, R92, R94-R96, R307, R437: the fetch arbiter takes the first queue that can fetch, round-robin, and no other; a command
fetched from the queue's next entry that passes its checks is taken in flight; a read that fails or a CSEQ out of order halts the
queue. While no replay runs and host memory can be reached, a completion leaves the commands in flight, advances POST, and is written
to the journal and to the completion ring; the interrupt timer sends the queue's message; and a host queue's head frame goes to the
buffer offered first, or ends it with OVERSIZE. The link's loss, a reset of the function, a low pulse of 500 ns on PERST_N, D3hot and
the clearing of Bus Master Enable suspend an ACTIVE queue, the first three clearing the pending bits; a shorter pulse does nothing. -/
def Obligations.FetchingAndCompletion : Prop :=
  ∀ (s : State) (n cseq h v : Nat) (b : Bytes) (c : HCmd) (d : HDone) (e : TmgFrame) (l : List TmgFrame)
      (host : List (Nat × Bytes)), n < 64 →
    (s.fetchPick = some n → s.canFetch n = true ∧
      ∀ m, m < 64 → s.canFetch m = true → (n + 64 - s.hif.next % 64) % 64 ≤ (m + 64 - s.hif.next % 64) % 64) ∧
    (s.fetchPick ≠ some n → Gives (.commandFetch n host) s fun t => t = s) ∧
    (s.fetchPick = some n → (∀ x ∈ host, x.1 ≠ s.entryAddr n) → Gives (.commandFetch n host) s fun t =>
      t.qState n = 3 ∧ t.fg HIF_QP_STATUS HIF_QP_STATUS_ERR [n] = 4 ∧ t.hif = { s.hif with next := (n + 1) % 64 }) ∧
    (s.fetchPick = some n → (cmdOf n b).cseq = (s.fg HIF_QP_SEQ HIF_QP_SEQ_CONS [n] + 1) % 2 ^ 32 →
      s.cmdCheck (cmdOf n b) (leAt b 38 2) = none → (∀ x ∈ s.hif.feeder, x.2 < 64) →
      Gives (.commandFetch n [(s.entryAddr n, b)]) s fun t =>
        t.hif.cmds = s.hif.cmds ++ [cmdOf n b] ∧ t.hif.next = (n + 1) % 64 ∧ t.fg HIF_QP_SEQ HIF_QP_SEQ_CONS [n] = (cmdOf n b).cseq ∧
        t.hq n = { s.hq n with sq := ((s.hq n).sq + 1) % s.sqSize n, avail := (s.hq n).avail - 1 }) ∧
    (s.fetchPick = some n → (cmdOf n b).cseq ≠ (s.fg HIF_QP_SEQ HIF_QP_SEQ_CONS [n] + 1) % 2 ^ 32 →
      Gives (.commandFetch n [(s.entryAddr n, b)]) s fun t =>
        t.qState n = 3 ∧ t.fg HIF_QP_STATUS HIF_QP_STATUS_ERR [n] = 1 ∧ t.hif.cmds = s.hif.cmds) ∧
    (c ∈ s.hif.cmds → c.qp = n → c.cseq = cseq → (∀ x ∈ s.hif.cmds, x.qp = n → x.cseq = cseq → x = c) → c.done = some d →
      s.hostGone n = false → s.replaying = false → Gives (.completionPost n cseq) s fun t =>
        (∀ x, x ∈ t.hif.cmds ↔ x ∈ s.hif.cmds ∧ x ≠ c) ∧
        t.fg HIF_QP_SEQ HIF_QP_SEQ_POST [n] = (s.fg HIF_QP_SEQ HIF_QP_SEQ_POST [n] + 1) % 2 ^ 32 ∧
        SMap.find t.hif.journal ((s.rg HIF_JRN_TOTAL).toNat % 256) =
          some (cplEntry (t.fg HIF_QP_SEQ HIF_QP_SEQ_POST [n]) cseq c.tag n d false) ∧
        (∀ j, j < 32 →
          SMap.get t.hif.hostMem (s.fg HIF_QP_CQ_BASE HIF_QP_CQ_BASE_ADDR [n] * 4096 + 32 * (s.hq n).cq + j) 0 =
            getAt (cplEntry (t.fg HIF_QP_SEQ HIF_QP_SEQ_POST [n]) cseq c.tag n d false) j 0) ∧
        (t.hq n).used = (s.hq n).used + 1) ∧
    (s.fg HIF_QP_IRQ HIF_QP_IRQ_TIME [n] ≠ 0 → 0 < (s.hq n).unsig →
      (s.hq n).firstUnsig + s.fg HIF_QP_IRQ HIF_QP_IRQ_TIME [n] * 1000 ≤ s.now →
      s.hostGone n = false → s.replaying = false → s.hif.pcie.msixEn = true → s.hif.pcie.funcMask = false →
      s.flag HIF_MSIX_CTRL HIF_MSIX_CTRL_MASK [s.fg HIF_QP_CFG HIF_QP_CFG_VEC [n]] = false → Gives (.irqTimer n) s fun t =>
        (t.hq n).unsig = 0 ∧ SMap.get t.obs.msix (s.fg HIF_QP_CFG HIF_QP_CFG_VEC [n]) 0 =
          SMap.get s.obs.msix (s.fg HIF_QP_CFG HIF_QP_CFG_VEC [n]) 0 + 1) ∧
    (Gives (.hostLoss 3 3) s fun t => (t.qState n = if s.qState n = 1 then 2 else s.qState n) ∧ t.hif.pcie.power = 3) ∧
    (bitN v 2 = false → Gives (.hostLoss 4 v) s fun t =>
      (t.qState n = if s.qState n = 1 then 2 else s.qState n) ∧ t.hif.pcie.busMaster = false) ∧
    ((h < 3 ∨ h = 5 ∧ 500 ≤ v) → Gives (.hostLoss h v) s fun t =>
      (t.qState n = if s.qState n = 1 then 2 else s.qState n) ∧ t.rg HIF_MSIX_PBA = 0) ∧
    (v < 500 → Gives (.hostLoss 5 v) s fun t => t = s) ∧
    (h < 256 → s.replaying = false → (s.tq (512 + h)).frames = e :: l → (s.domOn .wired = true → s.tooOld (512 + h) e = false) →
      s.rxBuf h = some c → e.frame.ts = none → s.recording = false → s.chk = [] →
      (c.len0 < e.frame.len → Gives (.hostQueueDeliver h true) s fun t =>
        (t.tq (512 + h)).frames = l ∧ Ends s t c.qp c.cseq 12 e.frame.len) ∧
      (e.frame.len ≤ c.len0 → Gives (.hostQueueDeliver h true) s fun t =>
        (t.tq (512 + h)).frames = l ∧ (∃ x ∈ t.hif.cmds, x.qp = c.qp ∧ x.cseq = c.cseq ∧
          x.done = some { status := 0, result := e.frame.len, stampNs := e.frame.stampNs, stampFrac := e.frame.stampFrac }) ∧
        ∀ j, j < e.frame.len → SMap.get t.hif.hostMem (c.addr0 + j) 0 = getAt (s.peek e.frame) j 0))

/-! ## Program images and events on the cores (chapter 05) -/

/-- R118-R121: an image that fails a check is refused with that check's code; one that passes is staged with its digest; its
commit measures it and its cores begin to switch; a drained core takes the image; and an unload makes the selected cores that are
bound to the image leave it, or is refused with code 7 when there is none. -/
def Obligations.ProgramImages : Prop :=
  ∀ (s : State) (qp cseq n k : Nat) (c : HCmd) (b : Bytes) (x : Load),
    (s.starting qp cseq 0x10 = some c → s.drk.loads = [] → (∀ d ∈ c.domains, s.domOn d = true) → Live s →
      s.hostGone qp = false → b.length = c.len0 → c.loadMode = 0 →
      (imageCheck b c.len0 ≠ 0 → Gives (.imageLoad qp cseq (some b)) s fun t =>
        Ends s t qp cseq 11 (imageCheck b c.len0) ∧ t.drk = s.drk) ∧
      (imageCheck b c.len0 = 0 → (∀ j, j < 12 → s.clusterUsed j = 0) → (imageOf b).code.length + (imageOf b).sharedLen ≤ 524288 → Gives (.imageLoad qp cseq (some b)) s fun t =>
          ∃ y, t.drk.loads = [y] ∧ y.mask = c.coreMask ∧ y.digest = sha384 b ∧ y.committed = false ∧ y.image = leAt b 6 2)) ∧
    (s.starting qp cseq 0x10 = some c → s.drk.loads = [] → (∀ d ∈ c.domains, s.domOn d = true) → c.loadMode = 1 →
      (∀ j, j < 96 → bitN c.coreMask j = true → (s.core j).bound = 0 ∨ (s.coreImage j).id ≠ c.target) →
      Gives (.imageUnload qp cseq) s fun t => Ends s t qp cseq 11 7 ∧ t.drk = s.drk) ∧
    (s.starting qp cseq 0x10 = some c → s.drk.loads = [] → (∀ d ∈ c.domains, s.domOn d = true) → c.loadMode = 1 →
      n < 96 → bitN c.coreMask n = true → (s.core n).bound ≠ 0 → (s.coreImage n).id = c.target →
      Gives (.imageUnload qp cseq) s fun t => (t.core n).switching = some 0) ∧
    (s.drk.loads = [x] → x.num ≠ 0 → x.committed = false → s.sec.extends_ = [] →
      (∀ j, j < 96 → bitN x.mask j = true → s.domOn (Dom.ofCore j) = true) → n < 96 → Gives .imageCommit s fun t =>
        t.mr x.mr = sha384 (s.mr x.mr ++ x.digest) ∧
        (t.core n).switching = (if bitN x.mask n then some x.num else (s.core n).switching)) ∧
    ((s.core n).switching = some k → (∀ j, j < 4 → (s.ctx (4 * n + j)).quiet = true) → Gives (.coreSwitch n) s fun t =>
      (t.core n).bound = k ∧ (t.core n).switching = none ∧ ∀ j, j < 4 → (t.ctx (4 * n + j)).keep = [])

/-- R103, R110-R112, R122-R124: a pinned event goes to the end of the FIFO of the context that serves its context, and is
dropped and counted when that core's domain is not on; an idle context takes the head of its FIFO and begins at its image's entry
with the registers and predicates at their values of R103; a benched context's service passes on once the context that served it
is quiet; and the host releases a benched core whose monitor is at least 60 % of its cluster's median, while a core below it and an index of
a core not benched only set REL_REJ. -/
def Obligations.EventsOnCores : Prop :=
  ∀ (s : State) (c n : Nat) (e : Ev) (l : List Ev) (v : Word),
    (s.drk.raised = e :: l → e.pinned = some c → c < 384 → e.frame = none →
      (s.domOn (Dom.ofCore (c / 4)) = true → (s.core (c / 4)).bound ≠ 0 → (s.coreImage (c / 4)).takes e = true →
        s.canPlace c = true → (s.ctx c).held = [] → Gives .eventDispatch s fun t =>
          t.drk.raised = l ∧ (t.ctx (s.serving c)).fifo = (s.ctx (s.serving c)).fifo ++ [e] ∧
          ∀ k, k ≠ s.serving c → t.ctx k = s.ctx k) ∧
      (s.domOn (Dom.ofCore (c / 4)) = false → Gives .eventDispatch s fun t =>
        t.drk.raised = l ∧ (t.rg DRK_DROP_DOWN).toNat = min 0xFFFFFFFF ((s.rg DRK_DROP_DOWN).toNat + 1) ∧
        ∀ k, t.ctx k = s.ctx k)) ∧
    (s.domOn (Dom.ofCore (c / 4)) = true → (s.ctx c).st = .idle → (s.ctx c).fifo = e :: l → e.frame = none →
      (∀ k, (s.ctx k).held = []) → Gives (.eventStart c) s fun t =>
        (t.ctx c).st = .running ∧ (t.ctx c).fifo = l ∧ (t.ctx c).pc = (s.coreImage (c / 4)).entryOf e.typ ∧
        (t.ctx c).budget = (s.coreImage (c / 4)).budget ∧ (t.ctx c).event = e.typ ∧ (t.ctx c).keep = (s.ctx c).keep ∧
        (t.ctx c).reg 1 = 0x30000000000 ∧
        (t.ctx c).reg 2 = BitVec.ofNat 64 (e.typ % 256 + e.source % 65536 * 2 ^ 32 + e.length % 65536 * 2 ^ 48) ∧
        (∀ r, 3 ≤ r → r < 32 → (t.ctx c).reg r = 0) ∧ (∀ k, (t.ctx c).pred k = decide (k % 8 = 0)) ∧
        (t.ctx c).owned = [] ∧ ∀ k, k ≠ c → t.ctx k = s.ctx k) ∧
    (s.wanted c ≠ s.serving c → (s.ctx (s.serving c)).quiet = true → (s.ctx c).held = [] → Gives (.benchHandover c) s fun t =>
      t.serving c = s.wanted c ∧ (∀ k, k ≠ c → t.serving k = s.serving k) ∧ ∀ k, t.ctx k = s.ctx k) ∧
    (Writes s DRK_BENCH_REL [] .host → fld v 6 0 = n → n < 96 → s.benched n = true → s.paceBack n = true →
      Gives (.drkBenchRel .host v) s fun t => t.benched n = false ∧ ∀ k, k < 96 → k ≠ n → t.benched k = s.benched k) ∧
    (Writes s DRK_BENCH_REL [] .host → fld v 6 0 = n → s.benched n = false ∨ s.paceBack n = false → Gives (.drkBenchRel .host v) s fun t =>
      t.fg DRK_BENCH_STATUS DRK_BENCH_STATUS_REL_REJ = 1 ∧ t.rg DRK_BENCHED_LO = s.rg DRK_BENCHED_LO ∧
      t.rg DRK_BENCHED_HI = s.rg DRK_BENCHED_HI)

/-! ## Kickoff (chapter 16) -/

/-- R347-R349, R351, R352: STAGE_ITEMS appends its items and images to a set and answers the items now held; with mode 1 it empties the
set, or is refused with SET_BUSY while the set is PENDING. On sets of memory items: a KICKOFF of an empty set is refused with EMPTY;
one that passes with T = 0 makes the set PENDING for the end of its check plus 50 µs; at its instant the masked bytes are written, the
set is EMPTY and the KICKOFF completes. A device takes the items sent to it, re-checks at T − 100 µs and reports ready, takes the
commit, and applies nothing at T without it. -/
def Obligations.KickoffCommands : Prop :=
  (∀ (s : State) (qp cseq k : Nat) (c : HCmd) (b : Bytes) (items images : List Bytes),
    s.starting qp cseq 0x11 = some c → leAt c.arg 0 1 = k →
    (leAt c.arg 1 1 = 0 → s.domOn .memory = true → Live s → s.hostGone qp = false → b.length = c.len0 + c.len1 → s.kState k ≠ 2 →
      items = pieces 32 (b.take c.len0) → images = pieces 256 (b.drop c.len0) → (∀ x ∈ items, itOk images.length x = true) →
      (s.kset k).items.length + items.length ≤ 65536 → (s.kset k).images.length + images.length ≤ 4096 →
      Gives (.stageItems qp cseq (some b)) s fun t =>
        (t.kset k).items = (s.kset k).items ++ items.map (itRebase (s.kset k).images.length) ∧
        (t.kset k).images = (s.kset k).images ++ images ∧ (∀ j, j ≠ k → t.kset j = s.kset j) ∧ t.kck.order = s.kck.order ∧
        Ends s t qp cseq 0 (((s.kset k).items.length + items.length) % 65536 * 2 ^ 32)) ∧
    (leAt c.arg 1 1 = 1 → s.kState k ≠ 2 → Gives (.stageDiscard qp cseq) s fun t =>
      t.kState k = 0 ∧ (∀ j, j ≠ k → t.kset j = s.kset j) ∧ Ends s t qp cseq 0 0) ∧
    (leAt c.arg 1 1 = 1 → s.kState k = 2 → Gives (.stageDiscard qp cseq) s fun t =>
      t.kck = s.kck ∧ Ends s t qp cseq 11 (2 + s.self * 2 ^ 8 + 0xFFFF * 2 ^ 16))) ∧
  ∀ (s : State) (qp cseq k dev n : Nat) (c : HCmd) (b : Bytes) (items images : List Bytes) (p : KckPart),
    s.domOn .memory = true → s.recording = false → Live s →
    (s.starting qp cseq 0x12 = some c → leAt c.arg 0 1 = k → (s.kset k).items = [] → Gives (.kickoff qp cseq) s fun t =>
      t.kck = s.kck ∧ Ends s t qp cseq 11 (1 + s.self * 2 ^ 8 + 0xFFFF * 2 ^ 16)) ∧
    (s.starting qp cseq 0x12 = some c → leAt c.arg 0 1 = k → leAt c.arg 1 1 = 0 → leAt c.arg 8 8 = 0 → s.kck.order = [] →
      s.kck.parts = [] → (s.kset k).items ≠ [] → (∀ x ∈ (s.kset k).items, itType x = 2 ∧ itOk (s.kset k).images.length x = true) →
      Gives (.kickoff qp cseq) s fun t =>
        t.kck.order = [k] ∧ t.kState k = 2 ∧ (t.kset k).items = (s.kset k).items ∧
        (t.kset k).instant = s.now + 2000 + 30 * (s.kset k).items.length + 50000 ∧ ∀ y, t.byte y = s.byte y) ∧
    (s.kck.order = [k] → (s.kset k).items = [b] → (s.kset k).fabric = false → (s.kset k).instant ≤ s.now → itType b = 2 →
      inMem (itAddr b) = true → itAddr b % 8 = 0 → s.diff (itAddr b / 32) = 0 → s.flag MEM_INJECT MEM_INJECT_ARM = false →
      Gives (.kickoffInstant s.self k) s fun t =>
        t.kState k = 0 ∧
        t.bytes (itAddr b) 8 = leBytes 8 ((BitVec.ofNat 64 (leNat (s.bytes (itAddr b) 8)) &&& ~~~ BitVec.ofNat 64 (itMask b)) |||
          (BitVec.ofNat 64 (itVal b) &&& BitVec.ofNat 64 (itMask b))).toNat ∧
        (∀ y, y < itAddr b ∨ itAddr b + 8 ≤ y → t.byte y = s.byte y) ∧
        ∀ d ∈ s.hif.cmds, d.qp = (s.kset k).queue → d.cseq = (s.kset k).cseq → d.done = none →
          { d with done := some { status := 0 } } ∈ t.hif.cmds) ∧
    (s.member dev = true → dev < 16 → s.kck.order = [] → s.kck.parts = [] →
      (∀ x ∈ items, itType x = 2 ∧ itOk images.length x = true) → Gives (.kickDistributeReceive dev k n items images) s fun t =>
        t.kck.parts = [{ dev, set := k, t := n, items, images }] ∧
        SMap.get t.fab.expect dev 0 = (SMap.get s.fab.expect dev 0 + 1) % 2 ^ 32 ∧
        SMap.find t.fab.given (dev * 2 ^ 32 + SMap.get s.fab.expect dev 0) = some (0, 0)) ∧
    (s.kState k = 2 → (s.kset k).fabric = true → (s.kset k).instant ≤ s.now + 100000 →
      (∀ x ∈ (s.kset k).items, itType x = 2) → Gives (.kickReady s.self k) s fun t =>
        s.self ∈ SMap.get t.kck.ready k []) ∧
    (s.partOf dev k = some p → dev ≠ s.self → p.t ≤ s.now + 100000 → (∀ x ∈ p.items, itType x = 2) → s.member dev = true →
      aliasOf dev s.fab.recs = none → s.route dev ≠ 7 → s.opsTo dev = [] → s.fab.wait = [] →
      Gives (.kickReady dev k) s fun t => ∃ o, t.opsTo dev = [o] ∧ o.msg = .kickReady k ∧ t.kck = s.kck) ∧
    (s.partOf dev k = some p → s.member dev = true → dev < 16 → Gives (.kickCommitReceive dev k) s fun t =>
      t.partOf dev k = some { p with committed := true } ∧
      SMap.find t.fab.given (dev * 2 ^ 32 + SMap.get s.fab.expect dev 0) = some (0, 0)) ∧
    (s.partOf dev k = some p → dev ≠ s.self → p.t ≤ s.now → p.committed = false → Gives (.kickoffInstant dev k) s fun t =>
      t.partOf dev k = none ∧ ∀ y, t.byte y = s.byte y)

/-! ## Domains, the referee and resets (chapter 19) -/

/-- R390-R392, R396, R398, R443: a write of TARGET = on to a domain that is down, whose dependencies are on and whose leave can fit, asks
for that leave; with a dependency down it leaves TARGET and STATE and sets REJ; one of retention or off to a domain that is on, that
nothing needs and no pending set holds, starts its way down, with its grants returned and its requests withdrawn. With no request
waiting, a domain granted leave switches on in turn; the domains 4 to 11 but MEMORY have their registers at their reset values when
they were off, and MEMORY begins its fill. A domain on its way to retention, and any but a core domain on its way to off, takes its new
STATE and leave; MEMORY is on when its fill ends. The referee grants only a request that fits; a power-up grant takes its request from
the queue, holds its amount, counts, and lets the domain take its turn to switch on; a budget in range applies, and one out of range
only is logged. -/
def Obligations.DomainsAndReferee : Prop :=
  (∀ (s : State) (who : Init) (d : Nat) (m : Dom) (l : List Nat) (r : Bool), 2 ≤ d → d < 13 → m = Dom.ofNum d →
    (Writes s PWR_DOM_CTL [d] who → s.domState m = 0 ∨ s.domState m = 1 → s.depsOn m = true →
      s.fixedSum + (domBase m - s.domHeld m) ≤ s.budget → s.pwr.queue.length < 256 → Gives (.domainTargetOn d who) s fun t =>
        t.domState m = 3 ∧ t.domTarget m = 2 ∧ t.moveOf m = some (.waitLeave false) ∧
        t.pwr.queue = s.pwr.queue ++ [{ cls := 2, amount := domBase m - s.domHeld m, req := 0, index := d, since := s.now }]) ∧
    (Writes s PWR_DOM_CTL [d] who → s.domState m = 0 → s.depsOn m = false → Gives (.domainTargetOn d who) s fun t =>
      t.domState m = 0 ∧ t.domTarget m = s.domTarget m ∧ t.pwr = s.pwr ∧ t.fg PWR_DOM_STATUS PWR_DOM_STATUS_REJ [d] = 3 ∧
      t.flag PWR_DOM_STATUS PWR_DOM_STATUS_REJ_SEEN [d] = true) ∧
    (Writes s PWR_DOM_CTL [d] who → s.domState m = 2 → s.needed m = false → s.kickDom m = false →
      (m = .memory → ∀ k, k < 8 → s.kState k = 0) → (m = .fabric → s.bndState ≠ 1 ∧ s.bndState ≠ 2 ∧ s.bndState ≠ 5) →
      Gives (.domainTargetRetention d who) s fun t =>
        t.moveOf m = some (.down true) ∧ (∀ e ∈ t.pwr.grants, leaveDom e.2 ≠ some m) ∧ (∀ e ∈ t.pwr.queue, leaveDom e ≠ some m)) ∧
    (Writes s PWR_DOM_CTL [d] who → s.domState m = 2 → s.needed m = false → s.kickDom m = false →
      (m = .memory → ∀ k, k < 8 → s.kState k = 0) → (m = .fabric → s.bndState ≠ 1 ∧ s.bndState ≠ 2 ∧ s.bndState ≠ 5) →
      Gives (.domainTargetOff d who) s fun t =>
        t.moveOf m = some (.down false) ∧ (∀ e ∈ t.pwr.grants, leaveDom e.2 ≠ some m) ∧ (∀ e ∈ t.pwr.queue, leaveDom e ≠ some m)) ∧
    (s.pwr.onOrder = d :: l → s.moveOf m = some (.switchOn false) → s.pwr.queue = [] → Gives (.domainSwitchOn d) s fun t =>
      (s.domHeld m ≠ 0 → m ≠ .memory → m ≠ .fabric → t.domState m = 2 ∧ t.domHeld m = domBase m ∧ t.moveOf m = none ∧
        t.pwr.onOrder = l ∧ t.mem = s.mem) ∧
      (s.domHeld m = 0 → 4 ≤ d → d ≤ 11 → m ≠ .memory → t.domState m = 2 ∧ t.domHeld m = domBase m ∧ t.moveOf m = none ∧
        t.pwr.onOrder = l ∧ ∀ a x, resetsWith m a = true → SMap.get t.csr a x = x) ∧
      (s.domHeld m = 0 → m = .memory → t.moveOf m = some (.fill false) ∧ t.domHeld m = domBase m ∧ t.mem = [] ∧ t.chk = [])) ∧
    (s.moveOf m = some (.down r) → (r = true ∨ (m ≠ .core0 ∧ m ≠ .core1)) → Gives (.domainSwitchDown d) s fun t =>
      t.domState m = b2n r ∧ t.moveOf m = none ∧ t.domHeld m = (if r then domRet m else 0) ∧ t.mem = s.mem) ∧
    (s.moveOf .memory = some (.fill false) → s.sec.boot = .firmware → Gives .dramInitDone s fun t =>
      t.domState .memory = 2 ∧ t.moveOf .memory = none ∧ t.flag DRC_STATUS DRC_STATUS_INIT_DONE = true ∧ t.stage = 2 ∧
      t.sec.boot = .ready)) ∧
  ∀ (s : State) (who : Init) (v : Word) (j : Nat) (l : Leave) (r : Bool),
    (s.nextGrant = some j → s.pwr.queue[j]? = some l → s.fixedSum + s.grantedSum + l.amount ≤ s.budget ∧
      (s.fg PWR_PACE_STATUS PWR_PACE_STATUS_STATE = 2 → l.cls = clsStanding)) ∧
    (s.nextGrant = some j → s.pwr.queue[j]? = some l → l.req = 0 → l.index < 13 →
      s.moveOf (Dom.ofNum l.index) = some (.waitLeave r) → Gives .leaveGrant s fun t =>
        t.pwr.queue = s.pwr.queue.eraseIdx j ∧ t.pwr.issued = s.pwr.issued + 1 ∧
        t.moveOf (Dom.ofNum l.index) = some (.switchOn r) ∧ t.pwr.onOrder = s.pwr.onOrder ++ [l.index] ∧
        ∃ e ∈ t.pwr.grants, e.2.cls = l.cls ∧ e.2.amount = l.amount ∧ e.2.id ≠ 0) ∧
    (Writes s PWR_REF_BUDGET [] who → 20000 ≤ fld v 19 0 → fld v 19 0 ≤ 1000000 → s.pwr.queue = [] →
      Gives (.pwrRefBudgetWrite who v) s fun t => t.budget = fld v 19 0 ∧ t.pwr = s.pwr) ∧
    (Writes s PWR_REF_BUDGET [] who → (fld v 19 0 < 20000 ∨ 1000000 < fld v 19 0) →
      Gives (.pwrRefBudgetWrite who v) s fun t => Recorded s t)

/-- R400, R401, Table PWR-7: after a warm reset its cause is recorded and counted, the management core's firmware runs from its
start, every domain but AON, HOST and the starting MEMORY is off, and what no warm reset keeps is empty; the timebase goes on. -/
def WarmReset (s t : State) (f : Fld) : Prop :=
  t.fg PWR_RST_CAUSE f = 1 ∧
    t.fg PWR_RST_CAUSE PWR_RST_CAUSE_COUNT = min 255 (s.fg PWR_RST_CAUSE PWR_RST_CAUSE_COUNT + 1) ∧
    t.sec.boot = .firmware ∧ t.stage = 1 ∧ (∀ d : Dom, 2 ≤ d.num → d ≠ .memory → t.domState d = 0) ∧
    t.mem = [] ∧ t.drk = {} ∧ t.hif.cmds = [] ∧ t.eth = [] ∧ t.kck = {} ∧ t.tmb = s.tmb ∧ t.self = s.self

/-- R400-R402, R425, R60: a low pulse of at least 1 µs on PWRGD sets every register to its reset value and empties everything but
what lies outside the device; once the firmware is ready and no scorebook is armed, such a pulse on RESET_N, a write of PWR_RESET with
the key, and the watchdog each make a warm reset; a write without the key is only logged; and PWRGD falling is held. -/
def Obligations.ResetsOfTheDevice : Prop :=
  ∀ (s : State) (who : Init) (v : Word) (low : Nat) (whole testEn : Bool),
    (1000 ≤ low → Gives (.powerOnReset low whole testEn) s fun t =>
      t = { State.reset with
        obs := { msix := s.obs.msix }, tap := { testEn }, sec := { boot := if testEn then .stopped else .reset },
        hif := { hostMem := s.hif.hostMem }, pending := s.pending }) ∧
    (s.sec.boot = .ready → s.fg SCB_STATUS SCB_STATUS_STATE = 0 →
      (1000 ≤ low → Gives (.resetPin low whole) s fun t => WarmReset s t PWR_RST_CAUSE_PIN) ∧
      (Writes s PWR_RESET [] who → PWR_RESET_KEY.of v = 0x5A17 → Gives (.pwrReset who v) s fun t =>
        WarmReset s t PWR_RST_CAUSE_HOST) ∧
      Gives .watchdogExpire s fun t => WarmReset s t PWR_RST_CAUSE_WDT) ∧
    (Writes s PWR_RESET [] who → PWR_RESET_KEY.of v ≠ 0x5A17 → Gives (.pwrReset who v) s fun t => Recorded s t) ∧
    (Gives .pwrgdFall s fun t => t = { s with pwr := { s.pwr with pwrgd := false } })

/-! ## Observability, the boundary FIFOs and the test access port (chapters 01, 15, 20 and 21) -/

/-- A saturating 32-bit counter has counted one more. -/
def Counts (s t : State) (r : Reg) (i : List Nat) : Prop :=
  t.rg r i = BitVec.ofNat 64 (min 0xFFFFFFFF ((s.rg r i).toNat + 1))

/-- R406, R407, R409, R411, R413: freezing and clearing the counters; a tag sample enters its ring in memory, or is counted lost
when the ring is full or MEMORY is down; acknowledging events while nothing is recorded; the millisecond TIME record; and a stop of a
recording. -/
def Obligations.CountersAndScorebook : Prop :=
  ∀ (s : State) (who : Init) (v : Word) (n w k x y : Nat) (z : TagRec),
    (Writes s PMC_CTL [] who → Gives (.pmcFreeze who true) s fun t => t.flag PMC_CTL PMC_CTL_FREEZE = true) ∧
    (Writes s PMC_CTL [] who → Gives (.pmcFreeze who false) s fun t => t.flag PMC_CTL PMC_CTL_FREEZE = false) ∧
    (Writes s PMC_CTL [] who → n < 96 → k < 8 → x < 64 → y < 4 → Gives (.pmcClear who) s fun t =>
      t.rg PMC_CORE_CNT [n, k] = 0 ∧ t.rg PMC_BLK_CNT [x, y] = 0 ∧
      t.flag PMC_CTL PMC_CTL_FREEZE = s.flag PMC_CTL PMC_CTL_FREEZE) ∧
    ((s.core n).tag = some z → s.domOn .memory = true → s.flag MEM_INJECT MEM_INJECT_ARM = false →
      ((s.rg PMC_TAG_HEAD).toNat + 2 ^ 32 - (s.rg PMC_TAG_TAIL).toNat) % 2 ^ 32 ≠ 2 ^ s.fg PMC_TAG_RING PMC_TAG_RING_SIZE_LOG2 →
      Gives (.tagSample n w) s fun t =>
        (t.core n).tag = none ∧ (t.rg PMC_TAG_HEAD).toNat = ((s.rg PMC_TAG_HEAD).toNat + 1) % 2 ^ 32 ∧
        t.bytes (s.fg PMC_TAG_RING PMC_TAG_RING_BASE * 4096 +
            32 * ((s.rg PMC_TAG_HEAD).toNat % 2 ^ s.fg PMC_TAG_RING PMC_TAG_RING_SIZE_LOG2)) 32 =
          tagSample z (s.coreImage n).id (min 65535 (z.ended.getD s.now - z.issue))
            (min (min 65535 (z.ended.getD s.now - z.issue)) w)) ∧
    ((s.core n).tag = some z → (s.domOn .memory = false ∨
        ((s.rg PMC_TAG_HEAD).toNat + 2 ^ 32 - (s.rg PMC_TAG_TAIL).toNat) % 2 ^ 32 = 2 ^ s.fg PMC_TAG_RING PMC_TAG_RING_SIZE_LOG2) →
      s.recording = false → Gives (.tagSample n w) s fun t =>
        (t.core n).tag = none ∧ t.mem = s.mem ∧ Counts s t PMC_TAG_LOST []) ∧
    (Writes s SCB_EVT_ACK [] who → s.recording = false → v.toNat ≤ (s.rg SCB_EVT_TOTAL).toNat → Gives (.scbEvtAckWrite who v) s fun t =>
      t.rg SCB_EVT_ACK = v) ∧
    (s.recording = true → s.obs.lastTime + 1000000 ≤ s.now → Gives .scbTimeRecord s fun t => t.obs.lastTime = s.now) ∧
    (Writes s SCB_STOP [] who → s.recording = true → SCB_STOP_STOP.of v = 1 → Gives (.scbStop who v) s fun t =>
      t.fg SCB_STATUS SCB_STATUS_STATE = 4 ∧
      (t.fg SCB_STATUS SCB_STATUS_CAUSE = 1 ∨ t.fg SCB_STATUS SCB_STATUS_CAUSE = 2))

/-- The entry written last to the event log has this block and kind. -/
def LoggedLast (t : State) (block kind : Nat) : Prop :=
  ∃ e, SMap.find t.obs.log ((t.rg SCB_EVT_TOTAL - 1).toNat % 1024) = some e ∧ e.block = block ∧ e.kind = kind

/-- A scan of the boundary register with the board's levels `b` and the values `c` shifted in: where its ball's domain is on, each
cell takes its value and each sample the ball's level, which is the board's where the device gives the ball none (R439). -/
def Scanned (s t : State) (b c : Nat) : Prop :=
  t = { s with tap := { s.tap with ir := t.tap.ir, cells := t.tap.cells, sampled := t.tap.sampled } } ∧
    ∀ j, j < 49 →
      (SMap.get t.tap.cells j false = if s.domOn (getAt ballDoms j .aon) then bitN c j else SMap.get s.tap.cells j false) ∧
      (SMap.get t.tap.sampled j false =
        if s.domOn (getAt ballDoms j .aon) then (({ s with tap := { s.tap with ir := t.tap.ir } } : State).ball j).getD (bitN b j)
        else SMap.get s.tap.sampled j false)

/-- R50, R333, R439, Table PKG-10: every boundary FIFO event is counted and logged; what was in flight there ends: samples that leave a
radio unit outside an exchange, its reception, a telemetry transmission that no entry waits for, a telemetry reception, and an
Ethernet frame either way; at a link nothing else changes. A whistled read of the telemetry port counts, and one whose data is late
counts as late and is an underrun of that port. The instructions of the test access port take effect, a scan of the boundary register
samples the balls and gives its cells the values shifted in, each where the ball's domain is on. -/
def Obligations.EdgesOfTheDevice : Prop :=
  ∀ (s : State) (a need arrive p k sent : Nat) (o : EthOut) (e : EthIn) (r : TlmRx) (ir : BitVec 8) (b c : Nat),
    (a < 16 → s.fg FEL_TXLANE FEL_TXLANE_UNIT [a] = k → k < 3 → s.felUp k = true → s.exch k = none →
      Gives (.boundaryFifoEvent (.jesdTx a)) s fun t =>
        Counts s t WB_TX_UNDERRUN [k] ∧ t.sending k = false ∧ LoggedLast t (0x12 + k) 0x0A) ∧
    (a < 16 → s.fg FEL_RXLANE FEL_RXLANE_UNIT [a] = k → k < 3 → s.felUp k = true →
      Gives (.boundaryFifoEvent (.jesdRx a)) s fun t =>
        Counts s t WB_RX_OVERRUN [k] ∧ t.receiving k = false ∧ LoggedLast t (0x12 + k) 0x0A) ∧
    (s.tlmOn = true → (∀ x ∈ s.tlm.air, x.ends = none) → Gives (.boundaryFifoEvent .tiqTx) s fun t =>
      Counts s t TLM_TIQ_UNDERRUN [] ∧ (∀ x ∈ t.tlm.air, x.till ≤ s.now) ∧ LoggedLast t 0x18 0x0A) ∧
    (s.tlmOn = true → s.tlm.rx = some r → Gives (.boundaryFifoEvent .tiqRx) s fun t =>
      Counts s t TLM_TIQ_OVERRUN [] ∧ t.tlm.rx = none ∧ LoggedLast t 0x18 0x0A) ∧
    (p < 2 → k < 4 → s.domOn .wired = true → s.txOf p k = some o → Gives (.boundaryFifoEvent (.ethTx p k sent)) s fun t =>
      Counts s t ETH_TX_UNDERRUN [p, k] ∧ t.txOf p k = none ∧ LoggedLast t (0x20 + p) 0x0A) ∧
    (p < 2 → k < 4 → s.domOn .wired = true → s.rxOf p k = some e → Gives (.boundaryFifoEvent (.ethRx p k)) s fun t =>
      Counts s t ETH_RX_OVERRUN [p, k] ∧ t.rxOf p k = none ∧ LoggedLast t (0x20 + p) 0x0A) ∧
    ((a < 6 ∧ (SMap.get s.fab.links a {}).st = 2 ∨ a = 6 ∧ s.bnd.port.st = 2) →
      (Gives (.boundaryFifoEvent (.linkRx a)) s fun t =>
        Recorded s t ∧ SMap.get t.obs.fifos a 0 = SMap.get s.obs.fifos a 0 + 1 ∧ LoggedLast t (if a = 6 then 0x31 else 0x30) 0x0A) ∧
      (Gives (.boundaryFifoEvent (.linkTx a)) s fun t =>
        Recorded s t ∧ SMap.get t.obs.fifos a 0 = SMap.get s.obs.fifos a 0 + 1 ∧ LoggedLast t (if a = 6 then 0x31 else 0x30) 0x0A)) ∧
    (inDram a = true → s.domOn .memory = true → bitN (s.fg DRC_WHISTLE DRC_WHISTLE_EN) 3 = true →
      need ≤ s.now + s.fg DRC_WHISTLE DRC_WHISTLE_LEAD → s.tlmOn = true → (∀ x ∈ s.tlm.air, x.ends = none) →
      (arrive ≤ need → Gives (.whistle 3 a need arrive p k sent) s fun t => Counts s t DRC_WHISTLES [] ∧ t.tlm = s.tlm) ∧
      (need < arrive → Gives (.whistle 3 a need arrive p k sent) s fun t =>
        Counts s t DRC_WHISTLES [] ∧ Counts s t DRC_WH_LATE [] ∧ Counts s t TLM_TIQ_UNDERRUN [])) ∧
    (Gives .tapReset s fun t => t = { s with tap := { s.tap with ir := 0xFF } }) ∧
    (Gives .clamp s fun t => t = { s with tap := { s.tap with ir := 0x02 } }) ∧
    (Gives .highz s fun t => t = { s with tap := { s.tap with ir := 0x03 } }) ∧
    (4 ≤ ir.toNat → Gives (.bypass ir) s fun t => t = { s with tap := { s.tap with ir } }) ∧
    (Gives (.extest none) s fun t => t = { s with tap := { s.tap with ir := 0x00 } }) ∧
    (Gives (.extest (some (b, c))) s fun t => t.tap.ir = 0x00 ∧ Scanned s t b c) ∧
    (Gives (.samplePreload b c) s fun t => t.tap.ir = 0x01 ∧ Scanned s t b c)

/-! ## The airtime scheduler (chapter 07) -/

/-- R156-R158, R161, R164: an enqueue that passes stamps its frame and puts it last in its queue, one that fails gives the frame
back with its status; the age scan leaves no head older than MAXAGE and takes frames from the front alone; AIR_CTL takes valid
disciplines and discards others; and the wheel makes a queue whose credit has recovered ACTIVE. -/
def Obligations.AirQueuesAndWheel : Prop :=
  ∀ (s : State) (op handle tid st : Nat) (who : Init) (v : Word) (o : Op) (f : Frame),
    (s.readyOp op = some o → o.kind = .enqAir handle tid → o.frame = some f → tid < 8 → s.airStatus handle tid = 0 →
      (s.wmac.asked.map Prod.fst).contains (handle % 1024 * 8 + tid) = true → Gives (.airEnqueue op) s fun t =>
        (t.aq (8 * (handle % 1024) + tid)).frames = (s.aq (8 * (handle % 1024) + tid)).frames ++ [⟨f, s.now⟩] ∧
        SMap.find t.drk.ops op = some { o with res := some (0, 0), frame := none }) ∧
    (s.readyOp op = some o → o.kind = .enqAir handle tid → o.frame = some f → tid < 8 → s.airStatus handle tid = st → st ≠ 0 →
      Gives (.airEnqueue op) s fun t => t.air = s.air ∧ SMap.find t.drk.ops op = some { o with res := some (st, 0) }) ∧
    (s.domOn .memory = true → Gives .airAgeScan s fun t => ∀ q, q < 8192 →
      (∀ g l, (t.aq q).frames = g :: l → t.airOld q g = false) ∧ ∃ l, (s.aq q).frames = l ++ (t.aq q).frames) ∧
    (Writes s AIR_CTL [] who → (∀ x, x < 3 → bits v.toNat (2 * x + 1) (2 * x) = 1 ∨ bits v.toNat (2 * x + 1) (2 * x) = 2) →
      Gives (.airCtlWrite who v) s fun t => ∀ x, x < 3 → t.disc x = bits v.toNat (2 * x + 1) (2 * x)) ∧
    (Writes s AIR_CTL [] who → (∃ x, x < 3 ∧ (bits v.toNat (2 * x + 1) (2 * x) = 0 ∨ bits v.toNat (2 * x + 1) (2 * x) = 3)) →
      Gives (.airCtlWrite who v) s fun t => Recorded s t) ∧
    (s.domOn .memory = true → (∀ e, e < 256 → s.inSp e = false ∧ s.twtArmed e = false) → Gives .airWheelSlot s fun t =>
      ∀ q a, q < 8192 → (s.aq q).till = some a → ceilDiv a 1000 * 1000 ≤ s.now → 0 ≤ s.credNow q → (t.aq q).till = none)

/-- R165, R167, R169, R170, R174, R175: a request makes a FREE slot PENDING and raises the PLAN event with the unit's next number;
a post is checked, and its slot is READY with its record or FREE with the check's code in RESULT; a slot not used by NOT_AFTER is
FREE and counts; a service period starts at NEXT and ends after SP, when NEXT moves on by INTERVAL; and an entry outside a period
takes its write, of NEXT while it is not enabled and of its configuration when that is in range, and one out of range is logged
only. -/
def Obligations.PlansAndWakeTime : Prop :=
  ∀ (s : State) (x k e c : Nat) (who : Init) (v : Word) (p : Bytes), x < 3 → k < 4 → e < 256 →
    (s.domOn (Dom.ofUnit x) = true → s.domOn .memory = true → (s.au x).spWait = [] → s.freePlan x = some k →
      (s.candidates x).2 ≠ [] → (∀ j, j < 4 → (s.pslot x j).st = 0) → s.fg AIR_U_CFG AIR_U_CFG_PLAN_DEPTH [x] ≠ 0 →
      Gives (.planRequest x) s fun t =>
        (t.pslot x k).st = 1 ∧ (t.pslot x k).seq = (s.au x).seq ∧ (t.pslot x k).kind = 1 ∧
        (t.au x).seq = ((s.au x).seq + 1) % 2 ^ 32 ∧
        ∃ y, t.drk.raised = s.drk.raised ++ [y] ∧ y.typ = 3 ∧ y.unit = x ∧ y.arg = (s.au x).seq) ∧
    (Writes s AIR_U_POST [x] who → AIR_U_POST_SLOT.of v = k → (s.pslot x k).st = 1 → (s.pslot x k).raised = true →
      (s.pslot x k).plan = [] → (s.pslot x k).seq % 2 ^ 24 = AIR_U_POST_SEQ.of v → s.now ≤ (s.pslot x k).notAfter →
      s.recording = false → s.chk = [] → s.flag MEM_INJECT MEM_INJECT_ARM = false → (s.au x).spWait = [] →
      p = s.bytes (s.slotAddr x k) 32 ++
        s.bytes (s.slotAddr x k + 32) (16 * min (plUsers (s.bytes (s.slotAddr x k) 32)) (unitUsers x)) →
      s.planCheck x (s.pslot x k).window p = c →
      (c ≠ 0 → Gives (.planPost x who v) s fun t =>
        (t.pslot x k).st = 0 ∧ t.bytes (s.slotAddr x k + 28) 4 = leBytes 4 c ∧ Counts s t AIR_U_REFUSED [x]) ∧
      (c = 0 → plKind p ≠ 4 → plChains p ≤ s.standingChains x → Gives (.planPost x who v) s fun t =>
        (t.pslot x k).st = 2 ∧ (t.pslot x k).plan = p ∧ t.bytes (s.slotAddr x k + 28) 4 = leBytes 4 1)) ∧
    ((s.pslot x k).st = 1 ∨ (s.pslot x k).st = 2 → (s.pslot x k).notAfter ≤ s.now → s.domOn (Dom.ofUnit x) = true →
      (s.au x).spWait = [] → Gives (.planExpire x k) s fun t => (t.pslot x k).st = 0 ∧ Counts s t AIR_U_EXPIRED [x]) ∧
    (s.domOn .memory = true → s.twtArmed e = true → s.twtStart e ≤ s.now →
      (s.now : Int) < s.twtInstant e + (s.fg AIR_TWT1 AIR_TWT1_SP [e] * 1000 : Nat) →
      s.fg AIR_TWT1 AIR_TWT1_UNIT [e] ≠ 3 → Gives (.twtSpStart e) s fun t => t.inSp e = true ∧ (SMap.get t.air.twts e {}).start = s.twtInstant e) ∧
    (s.domOn .memory = true → s.inSp e = true → s.spEnd e ≤ s.now → (SMap.get s.air.twts e {}).next = none →
      (SMap.get s.air.twts e {}).conf = none → s.fg AIR_TWT1 AIR_TWT1_UNIT [e] ≠ 3 → Gives (.twtSpEnd e) s fun t =>
        t.inSp e = false ∧
        t.rg AIR_TWT0 [e] = s.rg AIR_TWT0 [e] + BitVec.ofNat 64 (s.fg AIR_TWT1 AIR_TWT1_INTERVAL [e])) ∧
    (Writes s AIR_TWT0 [e] who → s.inSp e = false → s.flag AIR_TWT1 AIR_TWT1_ENABLE [e] = false →
      Gives (.airTwtWrite e 0 who v) s fun t => t.rg AIR_TWT0 [e] = v) ∧
    (Writes s AIR_TWT1 [e] who → s.inSp e = false → twtOk v = true → Gives (.airTwtWrite e 1 who v) s fun t =>
      t.fg AIR_TWT1 AIR_TWT1_INTERVAL [e] = AIR_TWT1_INTERVAL.of v ∧ t.fg AIR_TWT1 AIR_TWT1_SP [e] = AIR_TWT1_SP.of v ∧
      t.fg AIR_TWT1 AIR_TWT1_UNIT [e] = AIR_TWT1_UNIT.of v ∧
      t.fg AIR_TWT1 AIR_TWT1_ENABLE [e] = AIR_TWT1_ENABLE.of v) ∧
    (Writes s AIR_TWT1 [e] who → twtOk v = false → Gives (.airTwtWrite e 1 who v) s fun t => Recorded s t)

/-! ## The wireless MAC (chapter 08) -/

/-- R185, R188, R189, R170: a slot that no AC wins counts every contending AC down by one; an MPDU whose protection is not done in
time counts and stays, marked late; an acknowledgement takes the MPDUs it covers out of the exchange and of those that wait for
retransmission; a missing one makes its stations' MPDUs fail, and an MPDU with transmissions left waits for its retransmission; an
exchange whose plan has no MORE and no MPDU left ends with its unit free, its plan SENT, and its AC's window doubled after a failure
and reset else; and one on a station's poll, with no MPDU left, frees its unit with no backoff touched. -/
def Obligations.WirelessTransmission : Prop :=
  ∀ (s : State) (x j k n tid : Nat) (e : Exchange) (m : Mpdu) (draws sns : List Nat), x < 3 → tid < 8 →
    (s.maySend x = true → s.exch x = none →
      (∀ a, a < 4 → s.mayContend x a = true → ∃ c, (s.edcaOf x a).counter = some (c + 1)) →
      Gives (.backoffSlotDecision x draws) s fun t => t.exch x = none ∧ ∀ a, a < 4 →
        t.edcaOf x a = if s.mayContend x a then
          { s.edcaOf x a with counter := (s.edcaOf x a).counter.map fun c => c - 1 } else s.edcaOf x a) ∧
    (s.exch x = some e → e.rts = false → s.chk = [] → e.mpdus[k]? = some m → m.job = some j → s.jobOk j = false → s.jobKey m = false →
      Gives (.mpduModulationStart x k) s fun t =>
        t.exch x = some { e with mpdus := setAt e.mpdus k { m with late := true } } ∧ Counts s t WMAC_TX_CIPHER_LATE []) ∧
    (Live s → s.exch x = some e → Gives (.ackResponseReceive x n tid sns) s fun t =>
      t.exch x = some { e with
        mpdus := e.mpdus.filter fun m => !ackCovers (8 * n + tid) sns m, asked := e.asked.filter fun k => k ≠ n } ∧
      t.retxOf (8 * n + tid) = (s.retxOf (8 * n + tid)).filter fun m => !ackCovers (8 * n + tid) sns m) ∧
    (s.exch x = some e → e.rts = false → e.asked ≠ [] → Gives (.ackTimeout x) s fun t =>
      t.exch x = some { e with
        mpdus := e.mpdus.filter fun m => !e.asked.contains (m.q / 8), asked := [], failed := true }) ∧
    (s.exch x = some e → e.rts = false → e.mpdus = [m] → m.q / 8 ∈ e.asked → m.job = none → m.lease ≠ 8192 →
      m.sent < s.fg WMAC_CTL WMAC_CTL_RETRY → Gives (.ackTimeout x) s fun t => t.retxOf m.q = snIns m (s.retxOf m.q)) ∧
    (s.exch x = some e → e.sound = none → e.slot = none → e.mpdus = [] → Gives (.ppduEnd x) s fun t =>
      t.exch x = none ∧ t.wmac.edca = s.wmac.edca ∧ (t.wbx x).rx.idleAt = s.now) ∧
    (s.exch x = some e → e.sound = none → e.slot = some k → k < 4 → e.ac < 4 → plMore (s.pslot x k).plan = false → e.mpdus = [] →
      (s.au x).spWait = [] → Gives (.ppduEnd x) s fun t =>
        t.exch x = none ∧ (t.pslot x k).st = 0 ∧ Counts s t AIR_U_SENT [x] ∧ (t.wbx x).rx.idleAt = s.now ∧
        (e.failed = false → t.edcaOf x e.ac = {}) ∧
        (e.failed = true → t.edcaOf x e.ac =
          { cw := some (min (2 * s.cwOf x e.ac + 1) (2 ^ s.fg WMAC_EDCA WMAC_EDCA_ECWMAX [x, e.ac] - 1)) }))

/-- R186, R190, R191, R48: in a PPDU being received, an MPDU with a bad FCS or longer than 11,454 bytes only counts; a QoS Null of a
known station is answered SIFS after the PPDU's end and shows the station's power state; a forwarded MPDU of no known station counts;
the oldest gap is given up once its hold is over, and the MPDU behind it is released; a link device answers a BlockAckReq; a device
takes the home's WS in its scoreboards; and a response goes out at the tick of its instant if it is ready, and else counts as late.
That an MPDU too long counts so is the model's choice (assumption 150). -/
def Obligations.WirelessReception : Prop :=
  ∀ (s : State) (x n tid ssn handle ws g : Nat) (b body : Bytes) (sat : List Nat) (m : RxMpdu) (r : Response), x < 3 → n < 1024 → tid < 8 →
    (s.mayReceive x = true → s.inPpdu x = true → (b.length < 14 ∨ 11454 < b.length ∨
        (crc32 (b.take (b.length - 4))).toNat ≠ leAt b (b.length - 4) 4) →
      Gives (.mpduReceive x b sat) s fun t => Counts s t WB_RX_FCS_BAD [x] ∧ t.wmac = s.wmac) ∧
    (s.mayReceive x = true → s.inPpdu x = true → s.recording = false → b.length ≤ 11454 → 30 ≤ b.length → (crc32 (b.take (b.length - 4))).toNat = leAt b (b.length - 4) 4 → fcType b = 2 →
      fcSub b = 12 → s.findSta x (beAt b 10 6) = some n → s.sessOn n 12 (mpTid b) = false →
      (fcFlag b 4 = true → Config.uapsd (s.ctxHandle n) (mpTid b) = false) → Gives (.mpduReceive x b sat) s fun t =>
        (∃ r, SMap.get t.wmac.resp x none = some r ∧ r.due = (s.wbx x).rx.till + 16000 ∧ (n, mpTid b, mpSn b) ∈ r.acks) ∧
        t.flag AIR_STA AIR_STA_PS [n] = fcFlag b 4) ∧
    (s.domOn .memory = true → s.ctxRole (m.handle % 1024) = 0 → Gives (.mpduForwardArrive m body) s fun t =>
      Counts s t WMAC_RX_NO_STA [] ∧ t.wmac = s.wmac) ∧
    (s.domOn .memory = true → (s.reorderOf n tid).gapTill = some g → g ≤ s.now → (s.reorderOf n tid).held = [m] →
      m.sn < 4096 → m.prot = false → Gives (.reorderHoldExpire n tid) s fun t =>
        (t.reorderOf n tid).held = [] ∧ (t.reorderOf n tid).gapTill = none ∧ Counts s t WMAC_RX_REORDER_TIMEOUT [] ∧ t.sessWs n 12 tid = (m.sn + 1) % 4096) ∧
    (s.mayReceive x = true → s.ctxRole n = 2 → Gives (.blockackreqReceive x n tid ssn) s fun t =>
      ∃ r, SMap.get t.wmac.resp x none = some r ∧ r.due = (s.wbx x).rx.till + 16000 ∧ (n, tid, ssn % 4096) ∈ r.acks) ∧
    (s.domOn .memory = true → s.ctxFor handle = true → Gives (.wsUpdateReceive handle tid ws) s fun t =>
      ∀ y, y < 3 → t.scoreOf (handle % 1024) tid y =
        if snBefore (s.scoreOf (handle % 1024) tid y).ws (ws % 4096) then
          { ws := ws % 4096, seen := (s.scoreOf (handle % 1024) tid y).seen.filter fun k => !snBefore k (ws % 4096) }
        else s.scoreOf (handle % 1024) tid y) ∧
    (SMap.get s.wmac.resp x none = some r → r.due ≤ s.now →
      (s.maySend x = true → s.now < r.due + 2 → Gives (.responseRelease x true) s fun t =>
        SMap.get t.wmac.resp x none = none ∧ Counts s t WB_TX_PPDU [x]) ∧
      (r.due + 2 ≤ s.now → Gives (.responseRelease x true) s fun t =>
        SMap.get t.wmac.resp x none = none ∧ Counts s t WMAC_U_LATE_RESP [x]) ∧
      Gives (.responseRelease x false) s fun t =>
        SMap.get t.wmac.resp x none = none ∧ Counts s t WMAC_U_LATE_RESP [x])

/-- R195, R196, R200: at its home a device's own request that can be granted takes the next sequence and packet numbers, and one that
cannot waits; a grant gives its holder, whose table has room, the lease; a waiting request of the home itself is granted when it can
be; a closure takes the lease away and WS follows; an idle lease of the home that stands in a request's way is recalled; a station's
state arrives with its words, but for word 0 and the words 25 to 28 that each device keeps for itself; and at the end of the grace
period a home gives up the old handle. -/
def Obligations.LeaseProtocol : Prop :=
  ∀ (s : State) (handle tid dev sn len pn n i lastUse : Nat) (bar : Bool) (l : HomeLease) (h : Lease) (r : LeaseReq)
      (words : List Nat) (m : Move16), s.domOn .memory = true → n = handle % 1024 → handle < 65536 → tid < 8 → dev < 16 →
    (s.ctxFor handle = true → s.grantable { handle, tid, dev := s.self, gated := false } = true →
      (∀ q ∈ s.wmac.deferred, ¬(q.handle % 1024 = n ∧ q.tid = tid)) → s.self < 16 → s.wmac.leases.length < 8192 → Gives (.leaseRequest handle tid s.self) s fun t =>
        t.seqOf n tid = (s.seqOf n tid + s.leaseLen n tid) % 4096 ∧ t.cw n 4 = s.cw n 4 + s.leaseLen n tid ∧
        t.wmac.granted = s.wmac.granted ++
          [{ n, tid, dev := s.self, sn := s.seqOf n tid, len := s.leaseLen n tid, at_ := s.now }] ∧
        ∃ j y, SMap.find t.wmac.leases j = some y ∧ y.handle = handle ∧ y.tid = tid ∧ y.sn = s.seqOf n tid ∧
          y.len = s.leaseLen n tid ∧ y.pn = s.cw n 4) ∧
    (s.ctxFor handle = true → s.ctxRole n = 1 → s.grantable { handle, tid, dev, gated := false } = false →
      Gives (.leaseRequest handle tid dev) s fun t =>
        t.wmac.granted = s.wmac.granted ∧ t.wmac.leases = s.wmac.leases ∧
        ∃ q, t.wmac.deferred = s.wmac.deferred ++ [q] ∧ q.handle = handle ∧ q.tid = tid ∧ q.dev = dev) ∧
    (s.ctxFor handle = true → sn < 4096 → s.wmac.leases.length < 8192 → Gives (.leaseGrantReceive handle tid sn len pn bar) s fun t =>
      (∃ j, SMap.find t.wmac.leases j = some { handle, tid, sn, len, pn, lastUse := s.now, bar }) ∧
      SMap.find t.wmac.asked (n * 8 + tid) = none) ∧
    (s.wmac.deferred = [r] → s.grantable r = true → r.dev = s.self → r.tid < 8 → Gives .leaseDeferredGrant s fun t =>
      t.wmac.deferred = [] ∧ ∃ y, t.wmac.granted = s.wmac.granted ++ [y] ∧ y.n = r.handle % 1024 ∧ y.tid = r.tid ∧
        y.sn = s.seqOf (r.handle % 1024) r.tid) ∧
    (s.ctxRole n = 1 → s.moveWaits n = false → l ∈ s.wmac.granted → l.n = n → l.tid = tid → l.dev = dev → l.sn = sn → sn < 4096 →
      (∀ y ∈ s.wmac.granted, y.n = n → y.tid = tid → y.sn = sn → y.dev = dev → y = l) → s.wmac.deferred = [] →
      Gives (.leaseClose handle tid dev sn l.len) s fun t =>
        t.wmac.granted = s.wmac.granted.filter (fun y => y ≠ l) ∧
        (s.sessOn n 8 tid = true → t.leaseWs n tid ≠ s.leaseWs n tid → t.sessWs n 8 tid = t.leaseWs n tid % 4096)) ∧
    ((s.openLeases n tid).head? = some l → l.dev = s.self → l.recalled = false → s.ctxRole n = 1 → s.ctxHandle n % 1024 = n →
      s.heldLeases n tid = [(i, h)] → h.sn = l.sn → h.recalled = false → h.live ≠ 0 → h.lastUse + s.holdNs ≤ s.now →
      (∃ q ∈ s.wmac.deferred, q.handle % 1024 = n ∧ q.tid = tid) → Gives (.leaseRecall n tid lastUse) s fun t =>
        SMap.find t.wmac.leases i = some { h with recalled := true } ∧ Counts s t WMAC_LEASE_RECALL []) ∧
    (SMap.find s.wmac.moves n = some m → m.arrived = false → s.ctxRole n = 1 → s.wmac.deferred = [] → s.wmac.closes = [] →
      s.wmac.early = [] → words.length = 32 → (∀ w ∈ words, w < 2 ^ 64) → Gives (.migrateStateArrive handle words []) s fun t =>
        SMap.find t.wmac.moves n = some { m with arrived := true } ∧
        ∀ j, 1 ≤ j → j < 32 → t.cw n j = if 25 ≤ j ∧ j ≤ 28 then s.cw n j else getAt words j 0) ∧
    (SMap.find s.wmac.moves n = some m → m.arrived = true → m.till ≤ s.now → s.ctxRole n ≠ 2 → Gives (.migrateGraceEnd n) s fun t =>
      SMap.find t.wmac.moves n = none ∧ t = { s with wmac := { s.wmac with moves := t.wmac.moves } })

/-! ## Radio units, front-end links and the spatial engine (chapter 09) -/

/-- A unit's receiver becomes `r`; where its primary subchannel turns idle by that, its idle time begins (R185, R216). -/
def Hears (s t : State) (x : Nat) (r : Rx) : Prop :=
  (t.wbx x).rx = { r with idleAt := if s.ccaBusy x && !t.ccaBusy x then s.now else r.idleAt }

/-- R207, R208, R210-R216, R218, R219: a preamble at or above the detection level is detected, and the detection registers are taken
for its reception; L-SIG gives the reception its length or fails it; a later signal field that passes is taken, and one that fails
holds CCA busy to that length's end; a jump in power restarts the receiver; a subchannel is busy while its energy is at or above
ED_LVL. A SYSREF edge is stamped, aligns an enabled link or shows its drift. A link whose lanes are mapped is enabled, comes up with
its alignment, and is lost with LOSS_SEEN and its reception dropped; TX_EN asks for standing leave for its chains, and clearing it
returns the leave. -/
def Obligations.RadioUnits : Prop :=
  (∀ (s : State) (x level cover lsig n sub : Nat) (words : List Nat) (f : SigField) (crc : Bool) (r : Rx), x < 3 → r = (s.wbx x).rx →
    (s.mayReceive x = true → s.receiving x = false → dbmLevel (s.fg WB_DET WB_DET_PD_LVL [x]) ≤ level →
      Gives (.preambleDetect x level cover words) s fun t =>
        (t.wbx x).rx = { r with
          st := 1, level, cover, gain := Config.agcGain x level % 256, restart := s.flag WB_DET WB_DET_RESTART_EN [x],
          jump := s.fg WB_DET WB_DET_JUMP_DB [x], iter := s.fg WB_DET WB_DET_ITER [x], sig := none, runs := [] } ∧
        Counts s t WB_RX_DETECT [x]) ∧
    (Live s → r.st = 1 → lsigTime lsig = some n → Gives (.lsigCheck x lsig) s fun t =>
      (t.wbx x).rx = { r with st := 2, till := s.now + n * 1000 - 20000 } ∧ t = { s with wb := t.wb }) ∧
    (Live s → r.st = 1 → lsigTime lsig = none → Gives (.lsigCheck x lsig) s fun t =>
      Hears s t x { r with st := 0 } ∧ Counts s t WB_RX_LSIG_FAIL [x]) ∧
    (Live s → r.st = 2 → s.now < r.till → crc = true → sigOk x f = true → Gives (.sigFieldCheck x f crc) s fun t =>
      (t.wbx x).rx = { r with sig := some f } ∧ t = { s with wb := t.wb }) ∧
    (Live s → r.st = 2 → s.now < r.till → crc = false ∨ sigOk x f = false → Gives (.sigFieldCheck x f crc) s fun t =>
      Hears s t x { r with st := 0, holdTill := r.till, hold := r.cover } ∧ Counts s t WB_RX_SIG_FAIL [x]) ∧
    (Live s → s.receiving x = true → r.restart = true → r.level + r.jump ≤ level → Gives (.rxRestart x level) s fun t =>
      Hears s t x { r with st := 0 } ∧ Counts s t WB_RX_RESTART [x]) ∧
    (s.mayReceive x = true → sub < 2 ^ unitBw x → bitN r.busy sub = false → dbmLevel (s.fg WB_DET WB_DET_ED_LVL [x]) ≤ level →
      Gives (.ccaChange x sub level) s fun t => Hears s t x { r with busy := r.busy + 2 ^ sub }) ∧
    (s.mayReceive x = true → sub < 2 ^ unitBw x → bitN r.busy sub = true → level < dbmLevel (s.fg WB_DET WB_DET_ED_LVL [x]) →
      Gives (.ccaChange x sub level) s fun t => Hears s t x { r with busy := r.busy - 2 ^ sub })) ∧
  ∀ (s : State) (x off lane : Nat) (who : Init) (v : Word), x < 3 →
    (Live s → s.flag FEL_LINK_CTL FEL_LINK_CTL_ENABLE [x] = true → s.domOn (Dom.ofUnit x) = true → Gives (.sysrefEdge off) s fun t =>
      t.fel.stamp = s.now ∧
      (s.fg FEL_LINK_CTL FEL_LINK_CTL_SYSREF_USE [x] = 1 ∨
          (s.fg FEL_LINK_CTL FEL_LINK_CTL_SYSREF_USE [x] = 0 ∧ (s.felUnit x).fresh = false) →
        t.felUnit x = { aligned := some s.now, fresh := true }) ∧
      (s.fg FEL_LINK_CTL FEL_LINK_CTL_SYSREF_USE [x] = 2 → (s.felUnit x).aligned ≠ none → bitN off x = true →
        t.felUnit x = s.felUnit x ∧ t.flag FEL_LINK_STATUS FEL_LINK_STATUS_DRIFT_SEEN [x] = true)) ∧
    (Writes s FEL_LINK_CTL [x] who → FEL_LINK_CTL_SYSREF_USE.of v ≠ 3 → s.flag FEL_LINK_CTL FEL_LINK_CTL_ENABLE [x] = false →
      s.domOn (Dom.ofUnit x) = true → s.lanesOk FEL_TXLANE FEL_TXLANE_UNIT FEL_TXLANE_LOGICAL x = true →
      s.lanesOk FEL_RXLANE FEL_RXLANE_UNIT FEL_RXLANE_LOGICAL x = true → Gives (.felLinkEnable x who v) s fun t =>
        t.flag FEL_LINK_CTL FEL_LINK_CTL_ENABLE [x] = true ∧ (t.felUnit x).fresh = false ∧
        t.fg FEL_LINK_CTL FEL_LINK_CTL_SYSREF_USE [x] = FEL_LINK_CTL_SYSREF_USE.of v) ∧
    (Live s → s.flag FEL_LINK_CTL FEL_LINK_CTL_ENABLE [x] = true → s.domOn (Dom.ofUnit x) = true → s.felAligned x = true →
      s.felUp x = false → Gives (.felLinkUp x 3) s fun t => t.felUp x = true ∧ (t.wbx x).rx.idleAt = s.now) ∧
    (Live s → s.felUp x = true → s.domOn (Dom.ofUnit x) = true → s.exch x = none → Gives (.felLinkLoss x lane) s fun t =>
      t.fg FEL_LINK_STATUS FEL_LINK_STATUS_STATE [x] = 0 ∧ t.flag FEL_LINK_STATUS FEL_LINK_STATUS_LOSS_SEEN [x] = true ∧
      t.receiving x = false ∧ t.sending x = false) ∧
    (Writes s WB_CTL [x] who → 1 ≤ WB_CTL_STANDING_CHAINS.of v → WB_CTL_STANDING_CHAINS.of v ≤ 16 →
      s.flag WB_CTL WB_CTL_TX_EN [x] = false → (s.wbx x).txOff = false →
      s.fixedSum + WB_CTL_STANDING_CHAINS.of v * chainLeave x ≤ s.budget → s.pwr.queue.length < 256 →
      Gives (.txEnable x who v) s fun t =>
        t.flag WB_CTL WB_CTL_TX_EN [x] = true ∧ (t.wbx x).txAsk = true ∧
        t.pwr.queue = s.pwr.queue ++
          [{ cls := 1, amount := WB_CTL_STANDING_CHAINS.of v * chainLeave x, req := 1, index := x, since := s.now }]) ∧
    (Writes s WB_CTL [x] who → 1 ≤ WB_CTL_STANDING_CHAINS.of v → WB_CTL_STANDING_CHAINS.of v = s.standingChains x →
      WB_CTL_STANDING_CHAINS.of v ≤ 16 → s.flag WB_CTL WB_CTL_TX_EN [x] = true → s.flag WB_CTL WB_CTL_TX_LEAVE [x] = true →
      s.exch x = none → Gives (.txDisable x who v) s fun t =>
        t.flag WB_CTL WB_CTL_TX_EN [x] = false ∧ t.flag WB_CTL WB_CTL_TX_LEAVE [x] = false ∧
        ∀ e ∈ t.pwr.grants, ¬(e.2.cls = 1 ∧ e.2.req = 1 ∧ e.2.index = x))

/-- R220-R226: a sounding record that passes its checks and needs no leave waits, and expires after its TTL; a store to a post register
whose address lies outside SRAM is only logged; a report is stored or counted missing; a job is queued, a PRECODE job takes a free lane
and asks its leave, and an INVALIDATE frees its precoder entry; an entry past its life is freed. -/
def Obligations.SoundingAndSpatialJobs : Prop :=
  ∀ (s : State) (x i ndpAt a lane e h : Nat) (who : Init) (v : Word) (b r : Bytes) (l : List Nat) (y : Exchange) (d : Sound),
    x < 3 → s.recording = false → s.chk = [] → s.flag MEM_INJECT MEM_INJECT_ARM = false →
    (Writes s WB_SND_POST [x] who → inSram (postAddr v) = true → (s.wbx x).sounds.length < 4 →
      b = s.bytes (postAddr v) 64 → s.sndOk x b = true → leAt b 4 1 ≤ s.standingChains x → Gives (.sndPost x who v) s fun t =>
        (t.wbx x).sounds = (s.wbx x).sounds ++
          [{ addr := postAddr v, ac := leAt b 1 1, till := s.now + leAt b 8 2 * 1000000, need := 0, held := false }]) ∧
    (Writes s WB_SND_POST [x] who → inSram (postAddr v) = false → Gives (.sndPost x who v) s fun t => Recorded s t) ∧
    ((s.wbx x).sounds = [d] → d.till ≤ s.now → s.domOn (Dom.ofUnit x) = true → Gives (.soundingExpire x) s fun t =>
      (t.wbx x).sounds = [] ∧ Counts s t WB_SND_EXPIRED [x]) ∧
    (Live s → s.exch x = some y → y.sound = some a → i < leAt (s.bytes a 64) 2 1 → bitN y.sndSeen i = false →
      (Gives (.feedbackReceive x i ndpAt none) s fun t =>
        t.exch x = some { y with sndSeen := y.sndSeen + 2 ^ i } ∧ Counts s t WB_FB_MISSING [x]) ∧
      (r.length ≤ 131008 → s.domOn .spatial = true → Gives (.feedbackReceive x i ndpAt (some r)) s fun t =>
        t.exch x = some { y with sndSeen := y.sndSeen + 2 ^ i, sndStored := y.sndStored + 2 ^ i } ∧
        t.bytes (s.fbEntry x (sndSta (s.bytes a 64) i) + 64) r.length = r)) ∧
    (Writes s SPE_SUBMIT [] who → inSram (postAddr v) = true → s.spe.queue.length < 64 →
      Gives (.speSubmit who v) s fun t => t.spe.queue = s.spe.queue ++ [postAddr v]) ∧
    (Writes s SPE_SUBMIT [] who → inSram (postAddr v) = false → Gives (.speSubmit who v) s fun t => Recorded s t) ∧
    (s.spe.queue = a :: l → lane < 2 → s.domOn .spatial = true → SMap.find s.spe.lanes lane = none →
      speOk (s.bytes a 64) = true → leAt (s.bytes a 64) 0 1 = 1 → s.fixedSum + 5000 ≤ s.budget → s.pwr.queue.length < 256 →
      Gives (.speJobStart lane) s fun t =>
        t.spe.queue = l ∧ SMap.find t.spe.lanes lane = some { addr := a } ∧
        t.pwr.queue = s.pwr.queue ++ [{ cls := 4, amount := 5000, req := 3, index := lane, since := s.now }]) ∧
    (SMap.find s.spe.lanes lane = some { addr := a, granted := true } → leAt (s.bytes a 64) 0 1 = 3 →
      h = leAt (s.bytes a 64) 4 2 → s.precValid (leAt (s.bytes a 64) 1 1) h = true → Gives (.speJobDone lane) s fun t =>
        SMap.find t.spe.lanes lane = none ∧ (SMap.get t.spe.precs (h % 1024) {}).used = false ∧
        (SMap.get t.spe.precs (h % 1024) {}).gen = ((SMap.get s.spe.precs (h % 1024) {}).gen + 1) % 16 ∧
        t.byte (a + 48) = 1) ∧
    ((SMap.get s.spe.precs e {}).used = true → s.domOn .spatial = true →
      (SMap.get s.spe.precs e {}).at_ + s.fg SPE_CFG SPE_CFG_PREC_LIFE * 1000000 ≤ s.now → Gives (.precoderExpire e) s fun t =>
        (SMap.get t.spe.precs e {}).used = false ∧
        (SMap.get t.spe.precs e {}).gen = ((SMap.get s.spe.precs e {}).gen + 1) % 16)

/-! ## The telemetry radio (chapter 10) -/

/-- TLM raises a notice (Table TLM-7): its kind, entry, neighbour and ASN. -/
def Noticed (s t : State) (kind entry nbr asn : Nat) : Prop :=
  ∃ y, t.drk.raised = s.drk.raised ++ [y] ∧ y.typ = 5 ∧
    y.record = leBytes 2 kind ++ leBytes 2 entry ++ leBytes 2 nbr ++ leBytes 2 0 ++ leBytes 8 asn

/-- A transmit entry ends with a status, in its first byte and with a TX_DONE notice (R244). -/
def EntryEnds (s t : State) (e : TlmTx) (code : Nat) : Prop :=
  t.tlm.tx = s.tlm.tx.filter (fun k => k.entry ≠ e.entry) ∧ t.byte (s.txEntry e.entry) = BitVec.ofNat 8 code ∧
    Noticed s t 2 e.entry e.nbr (s.fg TLM_ASN TLM_ASN_ASN)

/-- R239-R244, R247: TLM starts with a legal set-up, every receive entry free, and stops at once; a slot is served once, and the
slots passed over count; with no entry waiting for a frame on the air, an RX cell for any sender opens its window; an unprotected entry
posted waits, and ends with the status of what became of it; an acknowledgement that is not protected, as its neighbour needs none,
answers the frame sent; and a neighbour is written, validated, invalidated and found again as its word and its age say. -/
def Obligations.TelemetrySlotsAndEntries : Prop :=
  ∀ (s : State) (who : Init) (v : Word) (asn a i n draw : Nat) (lock : Bool) (e : TlmTx) (w : TlmAwait) (b f : Bytes), s.chk = [] →
      s.flag MEM_INJECT MEM_INJECT_ARM = false → n ≤ 4096 →
    (Writes s TLM_CTL [] who → 6 ≤ TLM_CTL_REARM_DB.of v → 8 ≤ TLM_CTL_PRE_DET.of v → TLM_CTL_MAX_TX.of v ≠ 0 →
      (s.flag TLM_CTL TLM_CTL_ENABLE = false → s.profsOk (s.fg TLM_TIQ TLM_TIQ_RATE) = true →
        (∃ f, f < 8 ∧ s.flag TLM_SF TLM_SF_ENABLE [f] = true) → Gives (.tlmEnable who v) s fun t =>
          t.flag TLM_CTL TLM_CTL_ENABLE = true ∧ t.tlm.rxSt = []) ∧
      (s.flag TLM_CTL TLM_CTL_ENABLE = false → (∀ f, f < 8 → s.flag TLM_SF TLM_SF_ENABLE [f] = false) →
        Gives (.tlmEnable who v) s fun t => t.flag TLM_CTL TLM_CTL_ENABLE = false) ∧
      (s.flag TLM_CTL TLM_CTL_ENABLE = true → Gives (.tlmDisable who v) s fun t =>
        t.flag TLM_CTL TLM_CTL_ENABLE = false ∧ t.tlm.rx = none ∧ t.tlm.pend = [] ∧ t.tlm.slot = none ∧ t.tlm.await = [] ∧
        ∀ x ∈ t.tlm.air, x.till ≤ s.now ∧ x.ends = none)) ∧
    (s.tlmOn = true → s.asnNow = some asn → s.tlm.served ≤ asn → asn < 2 ^ 40 → (∀ x ∈ s.tlm.air, x.ends = none) →
      ((∀ f, f < 8 → s.flag TLM_SF TLM_SF_ENABLE [f] = false) → Gives (.tlmSlotStart lock) s fun t =>
        t.tlm = { s.tlm with lockIn := lock, served := asn + 1, slot := none } ∧ t.fg TLM_ASN TLM_ASN_ASN = asn ∧
        t.rg TLM_SLOT_SKIPPED = BitVec.ofNat 64 (min 0xFFFFFFFF ((s.rg TLM_SLOT_SKIPPED).toNat + (asn - s.tlm.served)))) ∧
      (s.flag TLM_SF TLM_SF_ENABLE [0] = true → 1 ≤ s.fg TLM_SF TLM_SF_LEN [0] → s.tlmSending = false →
        a = leAt (s.bytes (s.fg TLM_CELL_BASE TLM_CELL_BASE_ADDR * 524288 + 8 * (asn % s.fg TLM_SF TLM_SF_LEN [0])) 8) 0 8 →
        ceType a = 2 → ceNbr a = 4096 → inBand (s.slotFreq asn (ceOff a)) = true → Gives (.tlmSlotStart true) s fun t =>
          ∃ x, t.tlm.slot = some x ∧ x.asn = asn ∧ x.nbr = 4096 ∧ x.freq = s.slotFreq asn (ceOff a) ∧ x.ant = ceAnt a ∧
            x.opens = (s.rg TLM_EPOCH).toNat + asn * s.tsLen + (s.fg TLM_SLOT TLM_SLOT_TX_OFFSET * 1000 -
              s.fg TLM_SLOT TLM_SLOT_RX_WAIT * 500) ∧
            x.closes = (s.rg TLM_EPOCH).toNat + asn * s.tsLen + min s.tsLen (s.fg TLM_SLOT TLM_SLOT_TX_OFFSET * 1000 +
              s.fg TLM_SLOT TLM_SLOT_RX_WAIT * 500))) ∧
    (Writes s TLM_TXPOST [] who → s.recording = false → i = TLM_TXPOST_ENTRY.of v → (∀ k ∈ s.tlm.tx, k.entry ≠ i) →
      b = s.bytes (s.txEntry i) 64 → s.txOk b = true → bitN (leAt b 6 1) 1 = false → Gives (.tlmTxpost who v) s fun t =>
        t.tlm.tx = s.tlm.tx ++ [{ entry := i, nbr := leAt b 2 2, hdr := b.take 32 }] ∧ t.byte (s.txEntry i + 1) = 0) ∧
    (s.tlm.tx.find? (fun k => k.entry == i) = some e → e.job = none →
      (s.domOn .telem = true → e.lateAt s.now = true → Gives (.tlmEntryExpire i) s fun t => EntryEnds s t e 4) ∧
      (s.tlmOn = true → s.tlm.await = [w] → w.entry = i → w.job = none →
        (Live s → w.opens ≤ a → a ≤ w.closes → a ≤ s.now → fcsTaken e.fcs4 b = some f → bits (leAt f 0 2) 2 0 = 2 →
          bitN (leAt f 0 2) 3 = false → s.flag TLM_NBR1 TLM_NBR1_SEC [e.nbr] = false →
          leAt f 2 1 = (s.byte (s.txEntry i + 66)).toNat → Gives (.tlmAckReceive b a draw) s fun t =>
            EntryEnds s t e 1 ∧ t.tlm.await = [] ∧ SMap.find t.tlm.backoff e.nbr = none) ∧
        (w.closes ≤ s.now → e.tries < s.fg TLM_CTL TLM_CTL_MAX_TX → Gives (.tlmAckWaitExpire draw) s fun t =>
          t.tlm.tx = s.tlm.tx ∧ t.tlm.await = [] ∧
          (w.shared = true → (SMap.get t.tlm.backoff e.nbr (0, 0)).1 = min 5 ((SMap.get s.tlm.backoff e.nbr (0, 0)).1 + 1) ∧
            (SMap.get t.tlm.backoff e.nbr (0, 0)).2 < 2 ^ (SMap.get t.tlm.backoff e.nbr (0, 0)).1)) ∧
        (w.closes ≤ s.now → s.fg TLM_CTL TLM_CTL_MAX_TX ≤ e.tries → Gives (.tlmAckWaitExpire draw) s fun t =>
          EntryEnds s t e 3 ∧ t.tlm.await = [] ∧ Counts s t TLM_TX_NO_ACK [])) ∧
      (Writes s TLM_NBR1 [n] who → s.nbValid n = true → s.tlm.tx = [e] → e.nbr = n → Gives (.neighbourInvalidate n who v) s fun t =>
        t.nbValid n = false ∧ t.tlm.tx = [] ∧ t.byte (s.txEntry i) = 7)) ∧
    (Writes s TLM_NBR1 [n] who →
      (s.nbValid n = true → Gives (.neighbourValidate n who v) s fun t => Recorded s t) ∧
      (s.nbValid n = false → Gives (.neighbourValidate n who v) s fun t =>
        t.nbValid n = true ∧ t.nbState n = 0 ∧ t.flag TLM_NBR1 TLM_NBR1_DSN_OK [n] = false ∧
        t.flag TLM_NBR1 TLM_NBR1_RXFC_OK [n] = false ∧ t.fg TLM_NBR1 TLM_NBR1_SHORT [n] = TLM_NBR1_SHORT.of v ∧
        t.fg TLM_NBR1 TLM_NBR1_KEY [n] = TLM_NBR1_KEY.of v)) ∧
    (s.tlmOn = true → n < 4096 → s.nbValid n = true → s.nbState n = 1 →
      s.fg TLM_NBR2 TLM_NBR2_REF_ASN [n] + s.fg TLM_DRIFT_CFG TLM_DRIFT_CFG_REFIND_SF *
        s.fg TLM_SF TLM_SF_LEN [s.fg TLM_NBR1 TLM_NBR1_SF [n]] ≤ s.fg TLM_ASN TLM_ASN_ASN → Gives (.refind n) s fun t =>
          t.nbState n = 2 ∧ Counts s t TLM_REFIND [] ∧ Noticed s t 3 0xFFFF n (s.fg TLM_ASN TLM_ASN_ASN))

/-- R232-R236, R242, R245, R246, R248: acquisition goes from a preamble to its SFD and its PHR, and each failure counts; a stronger
preamble restarts it; a frame whose decoded PSDU has a good FCS, that is for the device, of no known neighbour, not protected and asks
for no acknowledgement, is delivered with a notice, and one with a bad FCS counts; an acknowledgement that is not protected goes out at
the tick of its instant if it is ready and else counts as late; and a delivered entry is freed. -/
def Obligations.TelemetryReception : Prop :=
  ∀ (s : State) (who : Init) (v : Word) (level p win i len fcs rssi : Nat) (l syms : List Nat) (b f : Bytes)
      (soft : List Int) (bs : List Bool) (ms ended : Bool) (r : TlmRx) (w : TlmSlot) (q : TlmPend), Live s →
    (s.searched syms = p :: l → s.tlmOn = true →
      (s.windowOpen = some w → s.tlm.rx = none → s.tlmSending = false → Gives (.tlmPreambleDetect syms level) s fun t =>
        t.tlm = { s.tlm with rx := some { st := 1, prof := p, level, at_ := s.now, slot := w } } ∧ Counts s t TLM_RX_DETECT []) ∧
      (s.tlm.rx = some r → r.level + s.fg TLM_CTL TLM_CTL_REARM_DB ≤ level → Gives (.rxRearm syms level) s fun t =>
        t.tlm.rx = some { st := 1, prof := p, level, at_ := s.now, slot := r.slot } ∧ Counts s t TLM_RX_REARM [])) ∧
    (s.tlm.rx = some r → r.st = 1 →
      (s.sfdOver r = true → Gives .sfdTimeout s fun t => t.tlm = { s.tlm with rx := none } ∧ Counts s t TLM_SFD_MISS []) ∧
      (s.tlmOn = true → s.sfdOver r = false → i = s.now - s.profNs r.prof (8 * s.fg TLM_PROF TLM_PROF_PRE_LEN [r.prof] + 16) →
        (win = (sfdValues (s.fg TLM_PROF TLM_PROF_SFD_SEL [r.prof])).1 → s.fg TLM_PROF TLM_PROF_FEC [r.prof] = 0 →
          Gives (.sfdFound win) s fun t => t.tlm = { s.tlm with rx := some { r with st := 2, coded := false, start := i } }) ∧
        (win = (sfdValues (s.fg TLM_PROF TLM_PROF_SFD_SEL [r.prof])).2 → s.fg TLM_PROF TLM_PROF_FEC [r.prof] ≠ 0 →
          Gives (.sfdFound win) s fun t => t.tlm = { s.tlm with rx := some { r with st := 2, coded := true, start := i } }) ∧
        (sfdDist win (sfdValues (s.fg TLM_PROF TLM_PROF_SFD_SEL [r.prof])).1 ≤ s.fg TLM_CTL TLM_CTL_SFD_ERR →
          sfdDist win (sfdValues (s.fg TLM_PROF TLM_PROF_SFD_SEL [r.prof])).2 =
            sfdDist win (sfdValues (s.fg TLM_PROF TLM_PROF_SFD_SEL [r.prof])).1 → s.fg TLM_PROF TLM_PROF_FEC [r.prof] ≠ 0 →
          Gives (.sfdFound win) s fun t => t.tlm = { s.tlm with rx := none } ∧ Counts s t TLM_SFD_AMBIG []))) ∧
    (s.tlm.rx = some r → r.st = 2 → s.rxPart r soft = (bs, ended) → phrOf bs = (ms, fcs, len) →
      (ms = false → ended = true → 5 ≤ len → fcs + 2 ≤ len →
        (s.freeRxEntry = some i → Gives (.phrCheck soft) s fun t =>
          t.tlm.rx = some { r with st := 3, entry := i, len, fcs } ∧ SMap.find t.tlm.rxSt i = some 1) ∧
        (s.freeRxEntry = none → Gives (.phrCheck soft) s fun t => t.tlm.rx = none ∧ Counts s t TLM_RX_NOBUF [])) ∧
      (ms = true ∨ ended = false ∨ len < 5 ∨ len < fcs + 2 → Gives (.phrCheck soft) s fun t =>
        t.tlm.rx = none ∧ Counts s t TLM_RX_PHR_FAIL [])) ∧
    (s.tlmOn = true → s.tlm.rx = some r → r.st = 3 → b = s.rxPsdu r soft →
      (fcsTaken (r.fcs == 4) b = none → Gives (.tlmFrameReceive soft rssi) s fun t =>
        t.tlm.rx = none ∧ SMap.find t.tlm.rxSt r.entry = none ∧ Counts s t TLM_RX_FCS_BAD []) ∧
      (fcsTaken (r.fcs == 4) b = some f → s.recording = false → s.chk = [] → s.flag MEM_INJECT MEM_INJECT_ARM = false →
        s.tlm.pend = [] → s.tlmForUs (macAddr f) = true → s.tlmSource (macAddr f) = none → bitN (leAt f 0 2) 3 = false →
        bitN (leAt f 0 2) 5 = false → Gives (.tlmFrameReceive soft rssi) s fun t =>
          t.tlm.rx = none ∧ t.tlm.pend = [] ∧ SMap.find t.tlm.rxSt r.entry = some 2 ∧ Noticed s t 1 r.entry 0xFFFF r.slot.asn ∧
          t.bytes (s.rxEntry r.entry) 2 = leBytes 2 f.length ∧ t.bytes (s.rxEntry r.entry + 64) f.length = f)) ∧
    (s.tlm.pend.find? (fun k => k.ackAsked && k.acked.isNone && decide (k.due ≤ s.now)) = some q → s.tlmOn = true →
      q.ackJob = none →
      (s.now < q.due + 2 → q.verdict ≠ 0 → q.ackProt = false → Gives (.enhancedAckRelease true) s fun t =>
        Counts s t TLM_TX_FRAMES [] ∧ ∃ x ∈ t.tlm.air, x.at_ = q.due) ∧
      (q.due + 2 ≤ s.now → Gives (.enhancedAckRelease true) s fun t => Counts s t TLM_LATE_RESP []) ∧
      (Gives (.enhancedAckRelease false) s fun t => Counts s t TLM_LATE_RESP [])) ∧
    (Writes s TLM_RXFREE [] who →
      (SMap.find s.tlm.rxSt (TLM_RXFREE_ENTRY.of v) = some 2 → Gives (.tlmRxfree who v) s fun t =>
        SMap.find t.tlm.rxSt (TLM_RXFREE_ENTRY.of v) = none) ∧
      (SMap.find s.tlm.rxSt (TLM_RXFREE_ENTRY.of v) ≠ some 2 → Gives (.tlmRxfree who v) s fun t => Recorded s t))

/-! ## Ethernet ports, the skimmer and the traffic manager (chapters 11 to 13) -/

/-- R252-R257, R259-R262, R267: ETHn_MODE takes a mode with no sub-port enabled, and discards mode 3; disabling a sub-port, or the
fall of its link, aborts what is in flight, and a frame cut off ends with an inverted FCS; a link rises only to a partner set as the
sub-port is; a frame's fate is its filter's; a frame's end puts it in its ring, behind those that completed before it and ahead of the
higher sub-ports' of its instant, or counts why not; pause timers start, end, are refreshed, at once or behind the frame in
transmission, and trip and leave STORM; and a stamp is popped. -/
def Obligations.EthernetPorts : Prop :=
  ∀ (s : State) (p k prio r d q n : Nat) (who : Init) (v : Word) (b x : Bytes) (s1 : State) (hs : List Nat) (o : EthOut) (e : EthIn)
      (y : Stamp) (l : List Stamp) (h : EthPhy), p < 2 → k < 4 → prio < 8 →
    (Writes s ETH_MODE [p] who → s.fg ETH_MODE ETH_MODE_SPEN [p] = 0 →
      (ETH_MODE_MODE.of v ≠ 3 → Gives (.ethModeWrite p who v) s fun t =>
        t.fg ETH_MODE ETH_MODE_MODE [p] = ETH_MODE_MODE.of v ∧ t.fg ETH_MODE ETH_MODE_SPEN [p] = ETH_MODE_SPEN.of v ∧
        t.fg ETH_MODE ETH_MODE_MEDIA [p] = ETH_MODE_MEDIA.of v) ∧
      (ETH_MODE_MODE.of v = 3 → Gives (.ethModeWrite p who v) s fun t => Recorded s t)) ∧
    (Writes s ETH_MODE [p] who → s.fg ETH_MODE ETH_MODE_MODE [p] ≠ 3 → bitN (s.fg ETH_MODE ETH_MODE_SPEN [p]) k = true →
      s.txOf p k = some o → Gives (.subportDisable p k who) s fun t =>
        t.txOf p k = none ∧ t.rxOf p k = none ∧ bitN (t.fg ETH_MODE ETH_MODE_SPEN [p]) k = false ∧ Counts s t ETH_TX_ABORT [p, k] ∧
        t.fg ETH_SP_STATUS ETH_SP_STATUS_PAUSED [p, k] = 0 ∧ t.fg ETH_SP_STATUS ETH_SP_STATUS_STORM [p, k] = 0 ∧
        (s.rxOf p k = none → x = o.bytes.take (min ((s.now - o.at_) * s.lineRate p / 8 - 8) (o.bytes.length - 4)) →
          SMap.find (t.port p).wire k = some (x ++ leBytes 4 (~~~(crc32 x)).toNat))) ∧
    (s.spEnabled p k = true → s.spLink p k = false →
      (h = s.spPhy p k → Gives (.ethLinkChange p k (some h)) s fun t => t.spLink p k = true) ∧
      (h ≠ s.spPhy p k → Gives (.ethLinkChange p k (some h)) s fun t => t = s)) ∧
    (s.domOn .wired = true → s.spLink p k = true → Gives (.ethLinkChange p k none) s fun t =>
      t.spLink p k = false ∧ t.flag ETH_SP_STATUS ETH_SP_STATUS_DOWN_SEEN [p, k] = true ∧ t.txOf p k = none ∧ t.rxOf p k = none) ∧
    (Live s → s.spEnabled p k = true → s.spLink p k = true → s.rxOf p k = none → 22 ≤ b.length → isMacCtl b = false →
      (s.destOk p k b = false → Gives (.ethFrameFate p k b) s fun t =>
        t.rxOf p k = none ∧ Counts s t ETH_RX_FILTERED [p, k]) ∧
      (s.recording = false → s.destOk p k b = true → s.firstFlt p k b (List.range 64) = none →
        r = s.fg ETH_RXDEF ETH_RXDEF_RING [p] → s.ringFrames p r < s.fg ETH_RING_CFG ETH_RING_CFG_DESC [p, r] →
        s.ringPails p r + pailsFor (b.take (s.maxFrame p k b)).length ≤ s.fg ETH_RING_CFG ETH_RING_CFG_PAILS [p, r] →
        s.storeFrame (512 + p) (b.take (s.maxFrame p k b)) = some (s1, hs) → Gives (.ethFrameFate p k b) s fun t =>
          t.rxOf p k = some { ring := some r, bytes := b, pails := hs, ns := (s.rxStamp p).1, frac := (s.rxStamp p).2,
                              at_ := s.now, lim := s.maxFrame p k b })) ∧
    (s.rxOf p k = some e →
      (e.bytes.length < 64 → Gives (.ethFrameEnd p k) s fun t => t.rxOf p k = none ∧ Counts s t ETH_RX_RUNT [p, k]) ∧
      (64 ≤ e.bytes.length → e.lim < e.bytes.length → Gives (.ethFrameEnd p k) s fun t =>
        t.rxOf p k = none ∧ Counts s t ETH_RX_OVERSIZE [p, k]) ∧
      (64 ≤ e.bytes.length → e.bytes.length ≤ e.lim →
        (fcsOk e.bytes = false → Gives (.ethFrameEnd p k) s fun t => t.rxOf p k = none ∧ Counts s t ETH_RX_FCS_BAD [p, k]) ∧
        (fcsOk e.bytes = true → e.ring = some r → Gives (.ethFrameEnd p k) s fun t =>
          t.rxOf p k = none ∧ Counts s t ETH_RX_FRAMES [p, k] ∧ ∃ f l₁ l₂, f.len = e.bytes.length - 4 ∧ f.stampNs = e.ns ∧
            SMap.get (s.port p).rings r [] = l₁ ++ l₂ ∧ SMap.get (t.port p).rings r [] = l₁ ++ f :: l₂ ∧
            (l₂ = [] ∨ ∃ g l₃, l₂ = g :: l₃ ∧ g.inAt = s.now ∧ p * 4096 + k < g.source ∧ g.taken = false) ∧
            ∀ g ∈ l₁, ¬(g.inAt = s.now ∧ p * 4096 + k < g.source ∧ g.taken = false)))) ∧
    (Live s → s.spEnabled p k = true → s.spLink p k = true → isMacCtl b = true → beAt b 14 2 = 1 → beAt b 16 2 = q → q ≠ 0 → 64 ≤ b.length →
      b.length ≤ s.maxFrame p k b → fcsOk b = true → s.fcMode p k = 1 → s.storm p k prio = false →
      Gives (.pauseFrameReceive p k b) s fun t =>
        ((t.port p).pauseOf k prio).till = some (s.now + ceilDiv (q * 512) (s.lineRate p)) ∧ Counts s t ETH_RX_PAUSE [p, k]) ∧
    (((s.port p).pauseOf k prio).till = some d → d ≤ s.now → Gives (.pauseTimerExpire p k prio) s fun t =>
      ((t.port p).pauseOf k prio).till = none ∧ ((t.port p).pauseOf k prio).since = none) ∧
    (((s.port p).pauseOf k prio).sent = some d → SMap.get (s.port p).pauseSent (k * 8 + prio) (0, 0) = (q, n) →
      n + ceilDiv (q * 256) (s.lineRate p) ≤ s.now → (∀ z ∈ (s.port p).pauseQ, z.1 ≠ k ∨ z.2.1 ≠ prio) →
      (s.txOf p k = none → Gives (.pauseRefresh p k prio) s fun t =>
        ((t.port p).pauseOf k prio).sent = some s.now ∧ Counts s t ETH_TX_PAUSE_SENT [p, k] ∧
        SMap.find (t.port p).pauseSent (k * 8 + prio) = some (s.fg ETH_SP_WD ETH_SP_WD_XOFF_QUANTA [p, k], s.now)) ∧
      (s.txOf p k = some o → Gives (.pauseRefresh p k prio) s fun t =>
        (t.port p).pauseQ = (s.port p).pauseQ ++ [(k, prio, s.fg ETH_SP_WD ETH_SP_WD_XOFF_QUANTA [p, k])])) ∧
    (((s.port p).pauseOf k prio).since = some d → d + s.fg ETH_SP_WD ETH_SP_WD_WD_TIME [p, k] * 1000 ≤ s.now →
      s.flag ETH_SP_WD ETH_SP_WD_WD_EN [p, k] = true → q ∈ spQueues (p * 4 + k) → s.qClass q = prio →
      s.headReady (p * 4 + k) q = true → s.storm p k prio = false → Gives (.watchdogTrip p k prio) s fun t =>
        t.storm p k prio = true ∧ Counts s t ETH_WD_TRIPS [p, k]) ∧
    (s.storm p k prio = true →
      ((s.port p).pauseOf k prio).lastRx + s.fg ETH_SP_WD ETH_SP_WD_WD_REST [p, k] * 1000 ≤ s.now →
      Gives (.stormClear p k prio) s fun t => t.storm p k prio = false) ∧
    (s.domOn .wired = true → popStamp (s.port p).stamps = some (y, l) → Gives (.txtsPop p who) s fun t =>
      (t.port p).stamps = l ∧ SMap.find t.rdata who.key =
        some (BitVec.ofNat 64 (y.tag % 65536 + y.frac * 2 ^ 16 + y.sub * 2 ^ 32 + 2 ^ 34)))

/-- R254, R271, R285-R287, R297-R306, R308, R310: the skimmer makes a frame of an input a FRAME event of its hash's context, and a
churned one a CHURN event of its own; a changed indirection entry holds events until earlier ones end; TMG admits a frame or answers
FULL, and no head stays past MAXAGE; policer and shaper writes; the wheel, the gates and STRICT; and a sub-port starts its choice's
head frame and ends it, when a pause frame that waited goes. -/
def Obligations.SkimmerAndTrafficManager : Prop :=
  ∀ (s : State) (j c k p sub q op d g bank : Nat) (bc : Bytes) (who : Init) (v : Word) (s1 : State) (f : Frame) (o : Op) (y : Ev)
      (e : TmgFrame) (rest : List TmgFrame) (m : SMap Nat) (x : EthOut),
    (s.domOn .wired = true → s.domOn .memory = true → s.takeFirst (skmOrder s.skm.last) = some (s1, f, j) →
      (j ≠ 0 → k = s.fg SKM_EPOCH SKM_EPOCH_CUR_SLOT → s.fg SKM_SET_CLASS SKM_SET_CLASS_DEPTH_ACT [k] = 0 →
        s.fg SKM_SET_CLASS SKM_SET_CLASS_MAL_ACT [k] = 0 → s.skm.hashHold = false →
        (∀ n, SMap.get s.skm.moving n false = false) → Gives .skimmerPass s fun t =>
          t.skm.last = j ∧ Counts s t SKM_CNT_FIRST_PASSES [] ∧ ∃ z h, t.drk.raised = s.drk.raised ++ [z] ∧ z.typ = 1 ∧
            z.source = f.source ∧ z.length = f.len ∧ z.frame = some h ∧ h.epoch = s.fg SKM_EPOCH SKM_EPOCH_CUR ∧
            z.pinned = some (s.fg SKM_INDIR SKM_INDIR_CTX [h.hash % 512])) ∧
      (j = 0 → (∀ n, n < 2 → s.fg SKM_SET_CLASS SKM_SET_CLASS_DEPTH_ACT [n] ≠ 2 ∧ s.fg SKM_SET_CLASS SKM_SET_CLASS_MAL_ACT [n] ≠ 2) →
        Gives .skimmerPass s fun t =>
          Counts s t SKM_CNT_CHURN_PASSES [] ∧ ∃ z, t.drk.raised = s.drk.raised ++ [z] ∧ z.typ = 2 ∧ z.pinned = some f.home)) ∧
    (Writes s SKM_INDIR [j] who → SKM_INDIR_CTX.of v < 384 → SKM_INDIR_CTX.of v ≠ s.fg SKM_INDIR SKM_INDIR_CTX [j] →
      Gives (.skmIndirWrite j who v) s fun t =>
        t.fg SKM_INDIR SKM_INDIR_CTX [j] = SKM_INDIR_CTX.of v ∧
        SMap.get t.skm.moving j false = (SMap.get s.skm.outstanding j 0 != 0 || !(SMap.get s.skm.heldEv j []).isEmpty)) ∧
    (Writes s SKM_INDIR [j] who → 384 ≤ SKM_INDIR_CTX.of v → Gives (.skmIndirWrite j who v) s fun t => Recorded s t) ∧
    (SMap.get s.skm.moving j false = true → SMap.get s.skm.outstanding j 0 = 0 → j < 512 →
      SMap.get s.skm.heldEv j [] = [(d, y)] → y.pinned = some c → Gives (.indirRelease j) s fun t =>
        t.drk.raised = s.drk.raised ++ [y] ∧ SMap.get t.skm.outstanding j 0 = 1 ∧ SMap.get t.skm.moving j false = false ∧
        SMap.get t.skm.heldEv j [] = []) ∧
    (s.skm.hashHold = true → s.skm.outstanding = [] → Gives (.indirRelease 512) s fun t => t.skm.hashHold = false) ∧
    (s.readyOp op = some o → o.kind = .enqTmg q bc → o.frame = some f → q < 768 → s.domOn .wired = true →
      s.flag TMG_Q_CFG TMG_Q_CFG_POL_EN [q] = false →
      ((s.tq q).frames.length < s.fg TMG_Q_CFG TMG_Q_CFG_LIMIT [q] → (s.tq q).frames.length < s.fg TMG_Q_CFG TMG_Q_CFG_YLIMIT [q] →
        Gives (.tmgEnqueue op) s fun t =>
          (t.tq q).frames = (s.tq q).frames ++ [⟨f, s.now, leNat bc, 0⟩] ∧
          SMap.find t.drk.ops op = some { o with res := some (0, 0), frame := none }) ∧
      (s.fg TMG_Q_CFG TMG_Q_CFG_LIMIT [q] ≤ (s.tq q).frames.length → Gives (.tmgEnqueue op) s fun t =>
        t.tmg = s.tmg ∧ Counts s t TMG_ENQ_FULL [] ∧ SMap.find t.drk.ops op = some { o with res := some (2, 0) })) ∧
    (s.domOn .wired = true → Gives .tmgAgeScan s fun t => ∀ q, q < 768 →
      (∀ h l, (t.tq q).frames = h :: l → t.tooOld q h = false) ∧ ∃ l, (s.tq q).frames = l ++ (t.tq q).frames) ∧
    (Gives .calendarWheelSlot s fun t => ∀ n a,
      ((s.tq n).till = some a → (t.tq n).till = if a ≤ s.now then none else some a) ∧
      (n < 8 → (s.sp n).till = some a → (t.sp n).till = if a ≤ s.now then none else some a)) ∧
    (k < 8 → s.domOn .wired = true → Gives (.gateEntry k) s fun t => t.fg TMG_SP_GATE TMG_SP_GATE_OPEN [k] = (s.gatesAt k s.now).1) ∧
    (k < 8 → (s.sp k).switch = some (bank, d) → bank < 2 → d ≤ s.now → Gives (.gateSwitchStart k) s fun t =>
      t.fg TMG_SP_GATE TMG_SP_GATE_ACTIVE_BANK [k] = bank ∧ t.flag TMG_SP_GATE TMG_SP_GATE_GATE_EN [k] = true ∧
      t.flag TMG_SP_GATE TMG_SP_GATE_PENDING [k] = false ∧ (t.sp k).switch = none) ∧
    (s.tmg.recover = some d → d + 1000000 ≤ s.now → s.flag TMG_CTL TMG_CTL_STRICT_AUTO = true →
      2 * s.fg TMG_CTL TMG_CTL_PAIL_FLOOR ≤ s.freePailCount → Gives .strictAutoClear s fun t =>
        t.flag TMG_CTL TMG_CTL_STRICT_AUTO = false ∧ t.fg TMG_CTL TMG_CTL_STRICT = s.fg TMG_CTL TMG_CTL_STRICT_HOST) ∧
    (Writes s TMG_POL1 [j] who → s.flag TMG_POL1 TMG_POL1_EN [j] = false → TMG_POL1_EN.of v = 1 →
      polOk (s.rg TMG_POL0 [j]) (rwMerge TMG_POL1 (s.rg TMG_POL1 [j]) v) = true → Gives (.policerWrite j 1 who v) s fun t =>
        t.flag TMG_POL1 TMG_POL1_EN [j] = true ∧ t.fg TMG_POL1 TMG_POL1_PIR [j] = TMG_POL1_PIR.of v ∧
        t.pol j = ⟨s.fg TMG_POL0 TMG_POL0_CBS [j] * 65536, TMG_POL1_PBS.of v * 65536, s.now, 0, 0⟩) ∧
    (Writes s TMG_POL0 [j] who → TMG_POL0_CBS.of v = 0 → Gives (.policerWrite j 0 who v) s fun t => Recorded s t) ∧
    (Writes s TMG_Q_SHAPE [j] who → j < 512 → TMG_Q_SHAPE_RATE.of v ≠ 0 → TMG_Q_SHAPE_BURST.of v ≠ 0 →
      TMG_Q_SHAPE_QUANTUM.of v ≠ 0 → s.flag TMG_Q_SHAPE TMG_Q_SHAPE_SH_EN [j] = false → Gives (.shaperWrite true j who v) s fun t =>
        t.fg TMG_Q_SHAPE TMG_Q_SHAPE_RATE [j] = TMG_Q_SHAPE_RATE.of v ∧ (t.tq j).till = none ∧
        (t.tq j).tok = (TMG_Q_SHAPE_BURST.of v * 65536 : Nat) ∧ (t.tq j).frames = (s.tq j).frames) ∧
    (Writes s TMG_SP_SHAPE [k] who → TMG_SP_SHAPE_RATE.of v = 0 → Gives (.shaperWrite false k who v) s fun t => Recorded s t) ∧
    (p < 2 → sub < 4 → k = 4 * p + sub →
      (s.spEnabled p sub = true → s.spLink p sub = true → s.txOf p sub = none → (s.sp k).till = none → s.recording = false →
        s.chk = [] →
        (∀ n h l, n ∈ spQueues k → (s.tq n).frames = h :: l → s.tooOld n h = false ∧ s.neverFits k (s.qClass n) (s.nextLen h) = false) →
        (∀ n, n < 8 → s.storm p sub n = false) → s.topClass k 8 = some c → s.chooseQueue k c = some (q, g, m) →
        (s.tq q).frames = e :: rest → e.txctl = 0 → e.seg = 0 → e.frame.ts = none →
        e.frame.len + 4 ≤ s.maxFrame p sub (s.peek e.frame) → Gives (.frameTxStart p sub) s fun t =>
          t.txOf p sub = some { queue := q, frame := e.frame, last := true, bytes := wireBytes (s.peek e.frame) false,
                                      at_ := s.now } ∧
          (t.tq q).frames = rest) ∧
      (s.txOf p sub = some x →
        ((∀ z ∈ (s.port p).pauseQ, z.1 ≠ sub) → Gives (.frameTxEnd p sub) s fun t =>
          t.txOf p sub = none ∧ SMap.find (t.port p).wire sub = some x.bytes ∧ Counts s t ETH_TX_FRAMES [p, sub]) ∧
        ((s.port p).pauseQ = [(sub, g, d)] → Gives (.frameTxEnd p sub) s fun t =>
          t.txOf p sub = none ∧ SMap.find (t.port p).wire sub = some (s.pauseBytes p sub g d) ∧
          Counts s t ETH_TX_FRAMES [p, sub] ∧ Counts s t ETH_TX_PAUSE_SENT [p, sub] ∧ (t.port p).pauseQ = [])))

/-! ## The link cipher and memory (chapters 14 and 15) -/

/-- R314-R316, R318-R320, R322: a key is installed unused, withdrawn with its material zeroed, and spent at its limit; a block is
admitted with a usable key while the count is below the limit, refused KEY without one, and held above it; an AES core's output
follows its job record; burst leave is asked again and returned; and the end of a protection job reaches its raiser. -/
def Obligations.CipherAndKeys : Prop :=
  ∀ (s : State) (k op aes a d slot : Nat) (enc : Bool) (who : Init) (v : Word) (block : Bytes) (o : Op) (b : CBlk) (x : CJob) (p : TlmPend),
    (Writes s CPH_KEY_CTL [k] who → s.domOn .fabric = false ∨ s.bndState = bndDetached ∨ s.ownKey k = true →
      (s.flag CPH_KEY_CTL CPH_KEY_CTL_VALID [k] = false → Gives (.keyInstall k who v) s fun t =>
        t.flag CPH_KEY_CTL CPH_KEY_CTL_VALID [k] = true ∧ t.fg CPH_KEY_CTL CPH_KEY_CTL_LEN [k] = CPH_KEY_CTL_LEN.of v ∧
        t.fg CPH_KEY_USED CPH_KEY_USED_USED [k] = 0 ∧ k ∈ t.cph.expanding ∧
        t.flag CPH_KEY_CTL CPH_KEY_CTL_SPENT [k] = decide (s.fg CPH_KEY_LIMIT CPH_KEY_LIMIT_LIMIT [k] = 0)) ∧
      (s.flag CPH_KEY_CTL CPH_KEY_CTL_VALID [k] = true →
        (Gives (.keyInstall k who v) s fun t => Recorded s t) ∧
        (s.kickKey k = false → Gives (.keyWithdraw k who v) s fun t =>
          t.flag CPH_KEY_CTL CPH_KEY_CTL_VALID [k] = false ∧ (∀ w, w < 4 → t.rg CPH_KEY_MAT [k, w] = 0) ∧ k ∉ t.cph.expanding))) ∧
    (Writes s CPH_KEY_CTL [k] who → s.domOn .fabric = true → s.bndState ≠ bndDetached → s.ownKey k = false →
      Gives (.keyInstall k who v) s fun t =>
        t.rg CPH_KEY_CTL [k] = s.rg CPH_KEY_CTL [k] ∧ Counts s t BND_KEY_HALF_REJ [] ∧ t.cph = s.cph) ∧
    (Writes s CPH_KEY_LIMIT [k] who → s.domOn .fabric = false ∨ s.bndState = bndDetached ∨ s.ownKey k = true → Gives (.keyLimitWrite k who v) s fun t =>
      t.fg CPH_KEY_LIMIT CPH_KEY_LIMIT_LIMIT [k] = CPH_KEY_LIMIT_LIMIT.of v ∧
      t.flag CPH_KEY_CTL CPH_KEY_CTL_SPENT [k] = decide (CPH_KEY_LIMIT_LIMIT.of v ≤ s.fg CPH_KEY_USED CPH_KEY_USED_USED [k])) ∧
    (Gives (.keyExpansionDone k) s fun t => k ∉ t.cph.expanding) ∧
    (s.readyOp op = some o → o.kind = .cblk enc k a block → k < 4096 → s.domOn .cipher = true → s.cph.wait = [] →
      (∀ z ∈ s.cph.issue, z.op ≠ op) → (∀ z ∈ s.cph.aes, z.2.op ≠ op) →
      (s.keyUsable k = true → s.cphRoll.cph.count < s.cphRoll.cph.thresh → s.fg CPH_KEY_USED CPH_KEY_USED_USED [k] + 1 < 2 ^ 48 →
        Gives (.cphAdmit op) s fun t =>
          t.fg CPH_KEY_USED CPH_KEY_USED_USED [k] = s.fg CPH_KEY_USED CPH_KEY_USED_USED [k] + 1 ∧
          t.cph.count = s.cphRoll.cph.count + 1 ∧ t.cph.wait = [] ∧
          ∃ z, (z ∈ t.cph.issue ∨ ∃ c, SMap.find t.cph.aes c = some z) ∧ z.op = op ∧ z.enc = enc ∧ z.kb = s.keyBytes k ∧ z.block = block) ∧
      (s.keyUsable k = false → Gives (.cphAdmit op) s fun t =>
        SMap.find t.drk.ops op = some { o with res := some (7, 0) } ∧ Counts s t CPH_KEY_REFUSED [] ∧
        t.rg CPH_KEY_USED [k] = s.rg CPH_KEY_USED [k]) ∧
      (s.keyUsable k = true → s.burstHeld = false → s.cphRoll.cph.thresh ≤ s.cphRoll.cph.count → Gives (.cphAdmit op) s fun t =>
        t.cph.wait = [op] ∧ Counts s t CPH_DEFERRED [] ∧ t.rg CPH_KEY_USED [k] = s.rg CPH_KEY_USED [k])) ∧
    (SMap.find s.cph.aes aes = some b → s.openOp b.op = some o → o.kind = .cblk enc k a block → Gives (.aesBlockDone aes) s fun t =>
      SMap.find t.drk.ops b.op = some { o with res := some (0, 0) } ∧
      (t.core (o.ctx / 4)).locl = setWin (s.core (o.ctx / 4)).locl (a + 16) (aesBlock b.enc b.kb b.block)) ∧
    (s.domOn .cipher = true → s.now / 1000 ≠ s.cph.us → Gives .cphMicrosecond s fun t =>
      t.cph.us = s.now / 1000 ∧ t.cph.thresh = s.fg CPH_BURST CPH_BURST_THRESH ∧
      (s.cph.wait.length ≤ s.fg CPH_BURST CPH_BURST_THRESH → t.cph.wait = [])) ∧
    (s.burstHeld = true → 100 ≤ s.cphRoll.cph.quiet → Gives .burstReturn s fun t =>
      t.burstHeld = false ∧ ∀ e ∈ t.pwr.grants, ¬(e.2.cls = clsBurst ∧ e.2.req = 5 ∧ e.2.index = 0)) ∧
    (s.cph.retryAt = some d → d ≤ s.now → s.asksLeave clsBurst 5 0 = false → s.pwr.queue.length < 256 →
      (s.fixedSum + s.fg CPH_BURST CPH_BURST_AMOUNT ≤ s.budget → Gives .burstRetry s fun t =>
        t.cph.retryAt = none ∧ t.pwr.queue = s.pwr.queue ++
          [{ cls := clsBurst, amount := s.fg CPH_BURST CPH_BURST_AMOUNT, req := 5, index := 0, since := s.now }]) ∧
      (s.budget < s.fixedSum + s.fg CPH_BURST CPH_BURST_AMOUNT → Gives .burstRetry s fun t =>
        t.cph.retryAt = some (s.now + 100000) ∧ Counts s t PWR_REF_REFUSED [])) ∧
    (Writes s CPH_DONE [] who →
      (s.jobOf (CPH_DONE_JOB.of v) = none → Gives (.cipherJobDone who v) s fun t =>
        t.cph = s.cph ∧ Counts s t CPH_DONE_STALE []) ∧
      (s.jobOf (CPH_DONE_JOB.of v) = some x → x.done = none → x.tx = true → x.src < 3 → s.recording = false →
        s.chk = [] → s.descStatus x.job = 0 → Gives (.cipherJobDone who v) s fun t => t.jobOk x.job = true)) ∧
    (SMap.find s.cph.slots slot = some x → x.done = none → x.till = some d → d ≤ s.now → x.tx = false → x.src = 3 →
      s.tlm.pend = [p] → p.job = some x.job → p.verdict = 0 → Gives (.cipherRxTimeout slot) s fun t =>
        t.tlm.pend = [] ∧ Counts s t TLM_RX_MIC_FAIL [])

/-- R328, R330, R332, R340, R343: the pool takes a legal definition while every pail is free, and then lists every pail as free; a
write is discarded while a pail is not free, or with an area outside memory, two that overlap, a count out of range or no pail; a change of a region's address order
moves no data, so its addresses name other bytes; retraining falls due, ends, and is counted late; the scrubber reads the next word
and corrects it; and an injection is armed, or its write discarded. -/
def Obligations.MemoryController : Prop :=
  ∀ (s : State) (big : Bool) (word r ch temp c j d w : Nat) (x : Byte) (who : Init) (v : Word),
    (Writes s (pailReg big word) [] who →
      (s.pailsBusy = true → Gives (.memPailWrite big word who v) s fun t => Recorded s t) ∧
      (s.pailsBusy = false → (s.plain (pailReg big word) [] v).poolOk = true → Gives (.memPailWrite big word who v) s fun t =>
        t.rg (pailReg big word) = plainWord (pailReg big word) (s.rg (pailReg big word)) v ∧
        t.freeS = t.pailsS ∧ t.freeD = t.pailsD) ∧
      ((s.plain (pailReg big word) [] v).poolOk = false → Gives (.memPailWrite big word who v) s fun t => Recorded s t)) ∧
    (s.poolOk = true ↔ s.pailsS ≤ 65536 ∧ s.pailsD ≤ 1048576 ∧ 0 < s.pailsS + s.pailsD ∧
      (∀ y ∈ s.poolAreas, rangeInMem y.1 y.2 = true) ∧ s.poolAreas.Pairwise fun y z => y.1 + y.2 ≤ z.1 ∨ z.1 + z.2 ≤ y.1) ∧
    (Writes s DRC_ORDER [r] who →
      (s.pailsBusy = false → s.recording = false → Memory.wf s.mem = true → Gives (.drcOrderWrite r who v) s fun t =>
        t.fg DRC_ORDER DRC_ORDER_ORDER [r] = DRC_ORDER_ORDER.of v ∧
        (∀ a, a / regionBytes ≠ r → t.byte a = s.byte a) ∧
        (∀ a, a / regionBytes = r →
          t.byte (reorderKey 1792 (s.fg DRC_ORDER DRC_ORDER_ORDER [r]) (DRC_ORDER_ORDER.of v) a) = s.byte a)) ∧
      (s.pailsBusy = true → (∃ y ∈ s.poolAreas, inSram y.1 = false ∧ overlap y (r * regionBytes, regionBytes) = true) →
        Gives (.drcOrderWrite r who v) s fun t => Recorded s t)) ∧
    (s.domOn .memory = true → ch < 8 → SMap.get s.memst.dueAt ch none = none → s.memst.batch ≠ some ch →
      SMap.get s.memst.lastBatch ch 0 + s.rtPeriod ≤ s.now → Gives (.retrainDue ch temp) s fun t =>
        SMap.get t.memst.dueAt ch none = some s.now ∧
        (s.memst.batch = none → s.pwr.queue = [] → (∀ n, n < ch → SMap.get s.memst.dueAt n none = none) →
          s.fixedSum + s.fg DRC_RT DRC_RT_AMOUNT ≤ s.budget →
          t.pwr.queue = [{ cls := clsRetrain, amount := s.fg DRC_RT DRC_RT_AMOUNT, req := 4, index := ch, since := s.now }])) ∧
    (s.memst.batch = some c → s.memst.batchAt + 30000 ≤ s.now → Gives (.retrainBatchEnd temp) s fun t =>
      t.memst.batch = none ∧ SMap.find t.memst.lastBatch c = some s.now ∧ SMap.find t.memst.lastTemp c = some temp ∧
      t.flag DRC_STATUS DRC_STATUS_RT_ACTIVE = false) ∧
    (SMap.get s.memst.dueAt ch none = some d → d + s.rtPeriod ≤ s.now → SMap.get s.memst.lateSeen ch false = false →
      Gives (.retrainLate ch) s fun t => SMap.get t.memst.lateSeen ch false = true ∧ Counts s t DRC_RT_LATE []) ∧
    (s.domOn .memory = true →
      (s.flag MEM_SCRUB MEM_SCRUB_S_EN = true → w = 0x4000000000 / 32 + s.memst.scrubS % sramWords →
        (s.diff w = 0 → Gives (.scrubRead true) s fun t =>
          t = { s with memst := { s.memst with scrubS := (s.memst.scrubS % sramWords + 1) % sramWords } }) ∧
        (s.recording = false → decodeDiff (s.diff w) = .data j x → Gives (.scrubRead true) s fun t =>
          t.diff w = 0 ∧ t.byte (32 * w + j) = s.byte (32 * w + j) ^^^ x ∧ Counts s t MEM_SRAM_CE [])) ∧
      (s.flag MEM_SCRUB MEM_SCRUB_D_EN = true → w = s.memst.scrubD % dramWords →
        (s.diff w = 0 → Gives (.scrubRead false) s fun t =>
          t = { s with memst := { s.memst with scrubD := (s.memst.scrubD % dramWords + 1) % dramWords } }) ∧
        (decodeDiff (s.diff w) = .bad → Gives (.scrubRead false) s fun t => Counts s t MEM_DRAM_UE []))) ∧
    (Writes s MEM_INJECT [] who →
      (MEM_INJECT_ARM.of v = 1 → inMem (MEM_INJECT_ADDR.of v * 32) = true → MEM_INJECT_POS.of v ≤ 35 → MEM_INJECT_VALUE.of v ≠ 0 →
        Gives (.memInjectArm who v) s fun t =>
          t.flag MEM_INJECT MEM_INJECT_ARM = true ∧ t.fg MEM_INJECT MEM_INJECT_ADDR = MEM_INJECT_ADDR.of v ∧
          t.fg MEM_INJECT MEM_INJECT_POS = MEM_INJECT_POS.of v ∧ t.fg MEM_INJECT MEM_INJECT_VALUE = MEM_INJECT_VALUE.of v) ∧
      (MEM_INJECT_ARM.of v = 1 → 35 < MEM_INJECT_POS.of v → Gives (.memInjectArm who v) s fun t => Recorded s t))

/-! ## The fabric and the twin bond (chapters 17 and 18) -/

/-- R354-R359, R363-R369: the links train, come up, greet, count their flits, resend and fail; a member's record is kept, and the
device floods its own; an operation of a peer is executed once and in order, and a repeat returns the completion it was given; one of
its own is sent again, ends with its completion, or ends UNREACHABLE; a peer is asked to attest, but not by a device program; and
time is exchanged with the parent until FAB_LOCK. -/
def Obligations.FabricCommands : Prop :=
  ∀ (s : State) (l a d seq ack c0 c1 ce hops i id st floor gen k arg tp : Nat) (t1 t2 t3 t4 : Nat) (who : Init) (v : Word)
      (idb b : Bytes) (nak : Bool) (ls : List (Nat × Nat)) (o : FabOp) (e : Op) (m : FabMsg), s.domOn .fabric = true →
    (Writes s FAB_CTL [] who →
      (FAB_CTL_RESEND.of v = 0 → Gives (.fabCtlWrite who v) s fun t => Recorded s t) ∧
      (FAB_CTL_RESEND.of v ≠ 0 → FAB_CTL_RESEND.of v ≤ FAB_CTL_LOST_TMO.of v → FAB_CTL_AVOID_EN.of v = s.fg FAB_CTL FAB_CTL_AVOID_EN →
        (∀ n, n < 6 → (s.flink n).st ≠ 2) → Gives (.fabCtlWrite who v) s fun t =>
          t.fg FAB_CTL FAB_CTL_RESEND = FAB_CTL_RESEND.of v ∧ t.fg FAB_CTL FAB_CTL_LOST_TMO = FAB_CTL_LOST_TMO.of v ∧
          ∀ n, n < 6 → (t.flink n).st =
            if bitN (FAB_CTL_LINK_EN.of v) n then (if (s.flink n).st = 0 then 1 else (s.flink n).st) else 0)) ∧
    (l ≤ 6 → s.linkEnabled l = true → (s.flink l).st = 1 → Gives (.fabLinkUp l) s fun t =>
      t.flink l = { st := 2, ackAt := s.now } ∧ t.fab.wire = s.fab.wire ++ [(flitHdr 0x0A s.self 0 0 0 0,
        l :: s.fg PWR_PACE_STATUS PWR_PACE_STATUS_FLOOR :: s.sec.fuses.deviceId.map BitVec.toNat)]) ∧
    (l < 6 → (s.flink l).st = 2 → idb.length = 16 →
      (idb = s.sec.fuses.deviceId → Gives (.helloReceive l a k idb) s fun t =>
        (t.flink l).st = 3 ∧ t.fg FAB_LINK_STATUS FAB_LINK_STATUS_PEER_ID [l] = a % 16) ∧
      (idb ≠ s.sec.fuses.deviceId → a % 16 ≠ s.self → s.fab.ops = [] → s.fab.wait = [] → Gives (.helloReceive l a k idb) s fun t =>
        t.flink l = { s.flink l with peer := idb, hello := true } ∧
        t.fg FAB_LINK_STATUS FAB_LINK_STATUS_PEER_ID [l] = a % 16 ∧ t.fg FAB_LINK_STATUS FAB_LINK_STATUS_PEER_LINK [l] = k % 8)) ∧
    ((s.flink 6).st = 2 →
      (a = s.twin → Gives (.helloReceive 6 a k idb) s fun t => t.flink 6 = { s.flink 6 with peer := idb, hello := true }) ∧
      (a ≠ s.twin → Gives (.helloReceive 6 a k idb) s fun t => (t.flink 6).st = 3)) ∧
    (l ≤ 6 → (s.flink l).st = 2 →
      (seq = (s.flink l).expect → (nak = true → ack ≠ (s.flink l).ack ∨ (s.flink l).resends < 8) →
        Gives (.flitBlockReceive l seq ack nak c0 c1 ce none false hops) s fun t =>
        (t.flink l).expect = (seq + 20) % 65536 ∧ (t.flink l).ack = ack % 65536 ∧
        (t.flink l).cred0 = min 128 ((s.flink l).cred0 + c0) ∧ (t.flink l).cred1 = min 128 ((s.flink l).cred1 + c1) ∧
        (l < 6 → nak = true → Counts s t FAB_RETRY [l])) ∧
      (seq = (s.flink l).expect → i ≤ 20 → (nak = true → ack ≠ (s.flink l).ack ∨ (s.flink l).resends < 8) →
        Gives (.flitBlockReceive l seq ack nak c0 c1 ce (some i) false hops) s fun t =>
          (t.flink l).expect = (seq + i) % 65536 ∧ (l < 6 → Counts s t FAB_FLIT_UE [l])) ∧
      (nak = true → ack = (s.flink l).ack → 8 ≤ (s.flink l).resends → s.fab.ops = [] → s.fab.wait = [] →
        Gives (.flitBlockReceive l seq ack nak c0 c1 ce none false hops) s fun t =>
          (t.flink l).st = b2n (s.linkEnabled l) ∧ (l < 6 → Counts s t FAB_LINK_FAIL [l])) ∧
      (Gives (.flitBlockReceive l seq ack nak c0 c1 ce none true hops) s fun t =>
        t.fab = s.fab ∧ t.bnd = s.bnd ∧ (l < 6 → Counts s t FAB_FLIT_UE [l])) ∧
      ((s.flink l).ackAt + 2000 ≤ s.now → (s.flink l).resends < 8 → Gives (.linkResendTimeout l) s fun t =>
        t.flink l = { s.flink l with resends := (s.flink l).resends + 1, ackAt := s.now } ∧
        (l < 6 → Counts s t FAB_RETRY [l])) ∧
      ((s.flink l).ackAt + 2000 ≤ s.now → 8 ≤ (s.flink l).resends → s.fab.ops = [] → s.fab.wait = [] →
        Gives (.linkResendTimeout l) s fun t =>
          (t.flink l).st = b2n (s.linkEnabled l) ∧ (l < 6 → Counts s t FAB_LINK_FAIL [l]))) ∧
    (s.clashes = false → s.ownLinks ≠ [] → s.fab.ops = [] → s.fab.wait = [] → Gives .linkStateFlood s fun t =>
      t.fab.floodAt = s.now ∧ t.fab.wire = s.fab.wire ++ [(flitHdr 0x0A s.self 0 0 0 0,
        [s.floorPace, s.fg FAB_HUDDLE FAB_HUDDLE_GEN, devMask (s.ownLinks.map Prod.snd), s.ownAlias,
          s.fg TMB_STATUS TMB_STATUS_FAB_LOCK])]) ∧
    (d < 16 → d ≠ s.self → s.clashes = false → s.fab.ops = [] → s.fab.wait = [] → gen < 2 ^ 31 →
      Gives (.linkStateRecordReceive d ls floor gen none false) s fun t =>
        (t.linkRec d).links = ls ∧ (t.linkRec d).floor = floor ∧ (t.linkRec d).gen = gen ∧
        (s.fg FAB_HUDDLE FAB_HUDDLE_GEN < gen → gen ≤ t.fg FAB_HUDDLE FAB_HUDDLE_GEN)) ∧
    (d < 16 → Gives (.e2eResend d) s fun t =>
      t.opsTo d = (s.opsTo d).map (fun o => if o.sent + s.resendNs ≤ s.now then { o with sent := s.now } else o) ∧
      t.rg FAB_E2E_RESEND = BitVec.ofNat 64 (min 0xFFFFFFFF ((s.rg FAB_E2E_RESEND).toNat +
        ((s.opsTo d).filter fun o => decide (o.sent + s.resendNs ≤ s.now)).length)) ∧
      t.fab.wire = s.fab.wire ++
        ((s.opsTo d).filter fun o => decide (o.sent + s.resendNs ≤ s.now)).map fun o => (s.opHdr d o.msg o.seq, [])) ∧
    (d < 16 → o.tok = .op id → o.msg = .msg b → s.openOp id = some e → e.frame = none → s.fab.wait = [] →
      (s.opsTo d = [o] → o.at_ + s.fg FAB_CTL FAB_CTL_LOST_TMO * 1000 ≤ s.now → Gives (.lostTimeout d) s fun t =>
        t.opsTo d = [] ∧ Counts s t FAB_UNREACH [] ∧ SMap.find t.drk.ops id = some { e with res := some (6, 0) }) ∧
      (Live s → (s.opsTo d).find? (fun x => x.seq == seq) = some o → Gives (.remoteCompletionReceive d seq st b false) s fun t =>
        t.opsTo d = (s.opsTo d).filter (fun x => x.seq ≠ seq) ∧
        SMap.find t.drk.ops id = some { e with res := some (st, 0), frame := none })) ∧
    (Writes s FAB_ATT [] who →
      (s.flag FAB_ATT_STATUS FAB_ATT_STATUS_BUSY = true ∨ who.isCtx = true → Gives (.fabAttWrite who v) s fun t => Recorded s t) ∧
      (s.flag FAB_ATT_STATUS FAB_ATT_STATUS_BUSY = false → who.isCtx = false →
        rangeInMem (FAB_ATT_ADDR.of v * 64) 824 = true → d = FAB_ATT_DEV.of v → s.fab.recs = [] →
        (s.member d = false → Gives (.fabAttWrite who v) s fun t => t.rg FAB_ATT_STATUS = 32 ∧ t.fab.att = none) ∧
        (s.member d = true → s.route d ≠ 7 → s.mayIssue d = true → s.fab.wait = [] → s.recording = false →
          Gives (.fabAttWrite who v) s fun t =>
            t.flag FAB_ATT_STATUS FAB_ATT_STATUS_BUSY = true ∧ t.fab.att = some (d, FAB_ATT_ADDR.of v * 64) ∧
            ∃ x, t.opsTo d = s.opsTo d ++ [x] ∧ x.msg = .attest (s.bytes (FAB_ATT_ADDR.of v * 64) 64)))) ∧
    (Live s → d < 16 → s.member d = true → seq = SMap.get s.fab.expect d 0 → s.recording = false → seq < 2 ^ 32 →
      (Gives (.remoteOpExecute d seq (.other k)) s fun t =>
        Counts s t FAB_REFUSED_IN [] ∧ SMap.get t.fab.expect d 0 = (seq + 1) % 2 ^ 32 ∧
        SMap.find t.fab.given (d * 2 ^ 32 + seq) = some (5, 0)) ∧
      (windowAddr a = some k → inMem k = true → s.domOn .memory = true → s.chk = [] → k % 8 = 0 →
        MissesReady s k 8 → Gives (.remoteOpExecute d seq (.store a 8 v.toNat)) s fun t =>
        t.bytes k 8 = leBytes 8 v.toNat ∧ SMap.find t.fab.given (d * 2 ^ 32 + seq) = some (0, 0)) ∧
      ((∀ x, s.poolCores { typ := 6, source := 4 * 4096 + d, head := x } = []) → Gives (.remoteMsgEvent d b) s fun t =>
        Counts s t DRK_DROP_NOENT [] ∧ SMap.find t.fab.given (d * 2 ^ 32 + seq) = some (5, 0)) ∧
      (14 ≤ l → l ≤ 16383 → a + l ≤ 2 ^ s.fg FAB_INBOX FAB_INBOX_WIN_LOG2 → a < 2 ^ 32 → arg < 2 ^ 32 → s.domOn .wired = true →
        s.domOn .memory = true → s.chk = [] →
        (s.allocPails (512 + 6) (pailsFor l)).isSome = true → Gives (.remoteMsgFrame d l a arg) s fun t =>
          ∃ g, SMap.get t.skm.inputs 5 [] = SMap.get s.skm.inputs 5 [] ++ [g] ∧ g.len = l ∧ g.source = 4 * 4096 + d ∧ g.arg = arg)) ∧
    (Live s → d < 16 → s.member d = true → seq ≠ SMap.get s.fab.expect d 0 →
      (SMap.find s.fab.given (d * 2 ^ 32 + seq) = none →
        Gives (.remoteOpExecute d seq m) s fun t => Counts s t FAB_E2E_DUP [] ∧ t.fab = s.fab ∧ t.drk = s.drk) ∧
      (SMap.find s.fab.given (d * 2 ^ 32 + seq) = some (st, i) → (∀ y z, m ≠ .load y z) →
        Gives (.remoteOpExecute d seq m) s fun t => Counts s t FAB_E2E_DUP [] ∧ t.drk = s.drk ∧
          t.fab = { s.fab with wire := s.fab.wire ++ [(flitHdr 0x80 s.self d st seq 0, [i])] })) ∧
    (s.fab.parent = some tp → s.fabSteers = true →
      (Gives .timeExchange s fun t => t = { s with fab := { s.fab with
        wire := s.fab.wire ++ [(flitHdr 8 s.self tp 0 0 0, [s.now])] } }) ∧
      (t2 = t1 → t4 = t3 → tp = s.fg FAB_HUDDLE FAB_HUDDLE_LEADER → 7 ≤ s.fab.lockRun → Gives (.timePairReceive t1 t2 t3 t4) s fun t =>
        t.flag TMB_STATUS TMB_STATUS_FAB_LOCK = true) ∧
      (t1 + 32 ≤ t2 → t4 ≤ t3 → Gives (.timePairReceive t1 t2 t3 t4) s fun t =>
        t.flag TMB_STATUS TMB_STATUS_FAB_LOCK = false ∧ t.fab.lockRun = 0))

/-- R372-R384: heartbeats, their misses and what the deciding miss does; the mirror's writes and acknowledgements; attach by
catch-up; orderly detach, give-back and the hand-over of a station, but for the words that each device keeps of its own; the control
register's refusals; and the request for the twin's report, which a device program cannot make, and its end. No lease request is
deferred. -/
def Obligations.BondCommands : Prop :=
  ∀ (s : State) (n j k i x up d code handle home : Nat) (who : Init) (v : Word) (f : Frame) (b : Bytes) (words : List Nat) (h : HomeLease)
      (l : List (Nat × Nat × Nat × Nat)), s.domOn .fabric = true → s.wmac.deferred = [] →
    (s.bondUp = true →
      (Gives .bondHeartbeat s fun t => t.bnd.hbSent = s.now ∧ t.csr = s.csr ∧ t.mem = s.mem) ∧
      (Live s → Gives .bondHeartbeatReceive s fun t => t.bnd = { s.bnd with hbSeen := s.now, misses := 0 })) ∧
    (s.expectsBeat = true → s.bnd.hbEdge + 50000 ≤ s.now →
      (s.bnd.hbEdge < s.bnd.hbSeen → Gives .heartbeatMiss s fun t =>
        t = { s with bnd := { s.bnd with hbEdge := s.bnd.hbEdge + 50000 } }) ∧
      (s.bnd.hbSeen ≤ s.bnd.hbEdge →
        (s.bnd.misses + 1 < s.fg BND_CFG BND_CFG_MISS → Gives .heartbeatMiss s fun t =>
          t.bnd = { s.bnd with hbEdge := s.bnd.hbEdge + 50000, misses := s.bnd.misses + 1 } ∧ Counts s t BND_HB_MISS [] ∧
          t.bndState = s.bndState) ∧
        (s.fg BND_CFG BND_CFG_MISS ≤ s.bnd.misses + 1 →
          (s.bndState ≠ bndAttached → Gives .heartbeatMiss s fun t =>
            t.bndState = bndDetached ∧ t.flag BND_STATUS BND_STATUS_LOSS_SEEN = true) ∧
          (s.bndState = bndAttached → s.twinVisible = true → Gives .heartbeatMiss s fun t =>
            t.bndState = bndSplit ∧ Counts s t BND_SPLITS []) ∧
          (s.bndState = bndAttached → s.twinVisible = false → s.flag BND_CTL BND_CTL_TKO_EN = false → Gives .heartbeatMiss s fun t =>
            t.bndState = bndDetached) ∧
          (s.bndState = bndAttached → s.twinVisible = false → s.flag BND_CTL BND_CTL_TKO_EN = true →
            (s.quorum = true → Gives .heartbeatMiss s fun t =>
              t.bndState = bndDetached ∧ t.flag BND_STATUS BND_STATUS_TAKEN = true ∧ Counts s t BND_TAKEOVERS [] ∧
              t.rg BND_TKO = BitVec.ofNat 64 s.now) ∧
            (s.quorum = false → Gives .heartbeatMiss s fun t => t.bndState = bndFenced))))) ∧
    (s.flag BND_STATUS BND_STATUS_TAKEN = true → Gives (.takeoverLeaseReport d l) s fun t =>
      t.bnd.owing = s.bnd.owing.filter fun y => y ≠ d) ∧
    (s.bnd.resumeAt = some x → x ≤ s.now → Gives .takeoverGrantResume s fun t => t.bnd.resumeAt = none ∧ t.bnd.owing = []) ∧
    (Live s → s.bondUp = true → s.bndState = bndAttached ∨ s.bndState = bndCatchup → s.domOn .memory = true →
      (n < 1024 → 1 ≤ j → j < 32 → Gives (.mirrorWriteReceive (.word n j v.toNat)) s fun t => t.rg BND_MCTX [n, j] = v) ∧
      (Gives (.mirrorWriteReceive (.lease h)) s fun t => t.bnd.mLeases = s.bnd.mLeases ++ [h]) ∧
      (k < 4096 → (Gives (.mirrorWriteReceive (.keyOff k)) s fun t =>
          t.flag CPH_KEY_CTL CPH_KEY_CTL_VALID [k] = false ∧ ∀ y, y < 4 → t.rg CPH_KEY_MAT [k, y] = 0) ∧
        (i < 2 ^ 48 → Gives (.mirrorWriteReceive (.used k i)) s fun t => t.fg CPH_KEY_USED CPH_KEY_USED_USED [k] = i))) ∧
    (Live s → s.bondUp = true →
      Gives (.mirrorAckReceive up) s fun t => t.bnd.out = s.bnd.out.filter (fun y => up < y.1) ∧
        (s.bnd.held = [(i, x, f)] → (∀ y ∈ s.bnd.out, y.1 = i → i ≤ up) →
          t.bnd.held = [] ∧ SMap.get t.skm.inputs 3 [] = SMap.get s.skm.inputs 3 [] ++ [f])) ∧
    (Writes s BND_CTL [] who → BND_CTL_DETACH.of v = 0 → BND_CTL_GIVEBACK.of v = 0 →
      (Gives (.bndEnable who v) s fun t =>
        t.flag BND_CTL BND_CTL_EN = true ∧ t.fg BND_CTL BND_CTL_TKO_EN = BND_CTL_TKO_EN.of v ∧
        (t.flink 6).st = if (s.flink 6).st = 0 then 1 else (s.flink 6).st) ∧
      (s.bndState = bndAttached ∨ s.bndState = bndDetaching → Gives (.bndDisable who v) s fun t =>
        t.flag BND_STATUS BND_STATUS_REJ = true ∧ t.rg BND_CTL = s.rg BND_CTL ∧ t.bnd = s.bnd) ∧
      (s.bndState ≠ bndAttached → s.bndState ≠ bndDetaching → Gives (.bndDisable who v) s fun t =>
        t.flag BND_CTL BND_CTL_EN = false ∧ t.bndState = bndDetached ∧ (t.flink 6).st = 0) ∧
      (s.bndState = bndAttached → Gives (.detach who v) s fun t =>
        t.bndState = bndDetaching ∧ t.bnd.detachAt = some (s.now + 1000000) ∧ t.bnd.leaving = true) ∧
      (s.bndState ≠ bndAttached → Gives (.detach who v) s fun t => t.flag BND_STATUS BND_STATUS_REJ = true ∧ t.bnd = s.bnd) ∧
      (s.bndState = bndAttached → s.flag BND_STATUS BND_STATUS_TAKEN = true → Gives (.giveback who v) s fun t =>
        t.bnd.giveAt = some (s.now + 1000000) ∧ t.bndState = bndAttached) ∧
      (s.flag BND_STATUS BND_STATUS_TAKEN = false → Gives (.giveback who v) s fun t =>
        t.flag BND_STATUS BND_STATUS_REJ = true ∧ t.bnd = s.bnd)) ∧
    (s.bondUp = true → s.flag BND_CTL BND_CTL_EN = true → s.bndState = bndDetached ∨ s.bndState = bndSplit → Gives .catchupStart s fun t =>
      t.bndState = bndCatchup ∧ t.bnd.hbEdge = s.now ∧ t.bnd.misses = 0 ∧
      ∀ k, k < 4096 → s.ownKey k = false → t.flag CPH_KEY_CTL CPH_KEY_CTL_VALID [k] = false) ∧
    (s.bondUp = true → s.bndState = bndCatchup → (∀ e ∈ s.bnd.out, s.bnd.snapEnd ≤ e.1) → Gives .catchupDone s fun t =>
      t.bndState = bndAttached) ∧
    (s.bnd.detachAt = some x → x ≤ s.now → s.bndState = bndDetaching →
      (s.bnd.leaving = true → s.homeList = [n] → s.self ∉ s.linkDevs n →
        (∀ y, y < 8 → (s.reorderOf n y).held = []) → Gives .detachInstant s fun t =>
          t.ctxRole n = 0 ∧ (∀ y ∈ t.wmac.granted, y.n ≠ n) ∧ t.bnd.taken = [] ∧
          t.flag BND_STATUS BND_STATUS_TAKEN = false ∧
          t.bnd.wire = s.bnd.wire ++ [.moved (s.ctxHandle n) ((List.range 32).map (s.cw n)) (s.leaseTuples n)]) ∧
      (s.bnd.leaving = false → Gives .detachInstant s fun t => t.flag BND_STATUS BND_STATUS_TAKEN = true ∧ t.bnd = s.bnd) ∧
      (s.bnd.leaving = false ∨ s.airEmpty = true → Gives .detachComplete s fun t =>
        t.bndState = bndDetached ∧ t.bnd.detachAt = none ∧ t.bnd.leaving = false)) ∧
    (s.bnd.giveAt = some x → x ≤ s.now →
      (s.bndState = bndAttached → Gives (.givebackInstant true) s fun t =>
        t.bnd.giveAt = none ∧ t.bnd.taken = [] ∧ t.flag BND_STATUS BND_STATUS_TAKEN = false) ∧
      (∀ ok, ok = false ∨ s.bndState ≠ bndAttached → Gives (.givebackInstant ok) s fun t =>
        t.bnd.giveAt = none ∧ t.bnd.taken = s.bnd.taken ∧ t.flag BND_STATUS BND_STATUS_REJ = true)) ∧
    (Live s → s.bondUp = true → s.bndState = bndAttached → Gives (.detachAgreeReceive x) s fun t =>
      t.bndState = bndDetaching ∧ t.bnd.detachAt = some x ∧ t.bnd.leaving = false) ∧
    (Live s → s.bondUp = true → s.domOn .memory = true → s.bndState = bndDetaching ∨ s.bndState = bndAttached → n = handle % 1024 →
      s.ctxRole n = 0 → words.length = 32 → (∀ w ∈ words, w < 2 ^ 64) → home = bits handle 13 10 →
      Gives (.detachStateArrive handle words [] []) s fun t =>
        t.ctxRole n = 1 ∧ t.ctxHandle n = handle % 65536 ∧ (∀ m, 1 ≤ m → m < 32 → m < 25 ∨ 28 < m → t.cw n m = getAt words m 0) ∧
        (∀ m, 25 ≤ m → m ≤ 28 → t.cw n m = s.cw n m) ∧
        (home ≠ s.self → n ∈ t.bnd.taken ∧ t.flag BND_STATUS BND_STATUS_TAKEN = true)) ∧
    (Writes s BND_ATT [] who →
      (s.flag BND_ATT_STATUS BND_ATT_STATUS_BUSY = true ∨ who.isCtx = true → Gives (.bndAttWrite who v) s fun t => Recorded s t) ∧
      (s.flag BND_ATT_STATUS BND_ATT_STATUS_BUSY = false → who.isCtx = false → rangeInMem (BND_ATT_ADDR.of v * 64) 824 = true →
        (s.bndState ≠ bndAttached → Gives (.bndAttWrite who v) s fun t => t.rg BND_ATT_STATUS = 32 ∧ t.bnd = s.bnd) ∧
        (s.bndState = bndAttached → Gives (.bndAttWrite who v) s fun t =>
          t.bnd.att = some (BND_ATT_ADDR.of v * 64) ∧ t.flag BND_ATT_STATUS BND_ATT_STATUS_BUSY = true ∧
          (s.recording = false → t.bnd.wire = s.bnd.wire ++ [.attest (s.bytes (BND_ATT_ADDR.of v * 64) 64)])))) ∧
    (Live s → s.bnd.att = some x → s.bondUp = true →
      (0 < code → code < 16 → Gives (.twinReportReceive code b) s fun t => t.rg BND_ATT_STATUS = BitVec.ofNat 64 code ∧ t.bnd.att = none) ∧
      (b.length < 1024 → s.chk = [] → s.recording = false → s.flag MEM_INJECT MEM_INJECT_ARM = false →
        Gives (.twinReportReceive 0 b) s fun t => t.bytes (x + 64) b.length = b ∧ t.bnd.att = none ∧
          t.rg BND_ATT_STATUS = BitVec.ofNat 64 (b.length * 65536)))

/-! ## Reset and every step -/

/-- R402, Table PWR-1 and the register tables: right after a power-on reset every register reads as its reset value, of which some
are named; of the domains AON and HOST alone read on; memory is zero checked words in its canonical form; no context is bound, nothing is recorded, and no
command waits. -/
def Obligations.ResetState : Prop :=
  (∀ r i, State.reset.rg r i = r.resetOf i) ∧ (∀ d : Dom, State.reset.domOn d = decide (d = .aon ∨ d = .host)) ∧
  (∀ a, State.reset.byte a = 0 ∧ State.reset.diff a = 0) ∧ Memory.wf State.reset.mem = true ∧
  Memory.chkWf State.reset.chk = true ∧ State.reset.pending = [] ∧ State.reset.recording = false ∧
  (∀ c, (State.reset.ctx c).st = .unbound) ∧
  State.reset.fg FAB_CTL FAB_CTL_RESEND = 20 ∧ State.reset.fg FAB_CTL FAB_CTL_LOST_TMO = 2000 ∧
  State.reset.fg TMG_CTL TMG_CTL_STRICT_HOST = 1 ∧ State.reset.fg DRC_ORDER DRC_ORDER_ORDER [3] = 1 ∧
  State.reset.fg TLM_CTL TLM_CTL_MAX_TX = 4 ∧ State.reset.fg CPH_BURST CPH_BURST_THRESH = 1600 ∧
  State.reset.fg BND_CFG BND_CFG_MISS = 8 ∧ State.reset.fg SKM_EPOCH SKM_EPOCH_CUR = 1

/-- R334, R402: whatever command a step runs, and at every idle tick, memory stays in its canonical form: addresses rise strictly and
a byte listed is not the 0 that an unlisted one reads as; the same holds of the errors of checked words. So equal memories are equal
data in every state. (The form is the model's own, assumption 1.) -/
def Obligations.MemoryStaysCanonical : Prop :=
  ∀ s t : State, Memory.wf s.mem = true → Memory.chkWf s.chk = true → step s = .next t →
    Memory.wf t.mem = true ∧ Memory.chkWf t.chk = true
end

