-- ==== Sys2Proof/Laws/SMap.lean ====
section
/-! SUPPORT. Laws of the finite maps: reading after setting, and the canonical form. -/

namespace Sys2Proof

variable {α : Type}

@[simp] theorem SMap.find_ins_same (m : SMap α) (k : Nat) (v : α) : SMap.find (SMap.ins m k v) k = some v := by
  induction m with
  | nil => simp [SMap.ins, SMap.find]
  | cons e t ih =>
    obtain ⟨a, x⟩ := e
    unfold SMap.ins
    split
    · simp [SMap.find]
    · split
      · simp [SMap.find]
      · rename_i _ h2
        simp [SMap.find, ih]
        exact fun h => absurd h.symm h2

theorem SMap.find_ins_other (m : SMap α) (k j : Nat) (v : α) (h : j ≠ k) :
    SMap.find (SMap.ins m k v) j = SMap.find m j := by
  induction m with
  | nil => simp [SMap.ins, SMap.find, Ne.symm h]
  | cons e t ih =>
    obtain ⟨a, x⟩ := e
    unfold SMap.ins
    split
    · simp [SMap.find, Ne.symm h]
    · split
      · rename_i _ h2
        subst h2
        simp [SMap.find, Ne.symm h]
      · simp [SMap.find, ih]

@[simp] theorem SMap.find_del_same (m : SMap α) (k : Nat) : SMap.find (SMap.del m k) k = none := by
  induction m with
  | nil => rfl
  | cons e t ih =>
    obtain ⟨a, x⟩ := e
    unfold SMap.del
    split
    · exact ih
    · rename_i h
      simp [SMap.find, h, ih]

theorem SMap.find_del_other (m : SMap α) (k j : Nat) (h : j ≠ k) : SMap.find (SMap.del m k) j = SMap.find m j := by
  induction m with
  | nil => rfl
  | cons e t ih =>
    obtain ⟨a, x⟩ := e
    unfold SMap.del
    split
    · rename_i h2
      subst h2
      simp [SMap.find, Ne.symm h, ih]
    · simp [SMap.find, ih]

@[simp] theorem SMap.get_ins_same (m : SMap α) (k : Nat) (v d : α) : SMap.get (SMap.ins m k v) k d = v := by
  simp [SMap.get]

theorem SMap.get_ins_other (m : SMap α) (k j : Nat) (v d : α) (h : j ≠ k) :
    SMap.get (SMap.ins m k v) j d = SMap.get m j d := by
  simp [SMap.get, SMap.find_ins_other m k j v h]

/-- Reading a key just set gives the value set. -/
@[simp] theorem SMap.get_set_same [DecidableEq α] (m : SMap α) (k : Nat) (v d : α) :
    SMap.get (SMap.set m k v d) k d = v := by
  unfold SMap.set
  split
  · rename_i h
    subst h
    simp [SMap.get]
  · simp

/-- Reading another key gives what it gave. -/
theorem SMap.get_set_other [DecidableEq α] (m : SMap α) (k j : Nat) (v d e : α) (h : j ≠ k) :
    SMap.get (SMap.set m k v d) j e = SMap.get m j e := by
  unfold SMap.set
  split
  · simp [SMap.get, SMap.find_del_other m k j h]
  · exact SMap.get_ins_other m k j v e h

/-! ## The canonical form -/

theorem SMap.above_weaken (m : SMap α) (b c : Nat) (h : b ≤ c) (hm : SMap.above c m = true) : SMap.above b m = true := by
  cases m with
  | nil => rfl
  | cons e t =>
    simp [SMap.above] at *
    exact ⟨by omega, hm.2⟩

theorem SMap.above_ins (m : SMap α) (b k : Nat) (v : α) (hb : b < k) (hm : SMap.above b m = true) :
    SMap.above b (SMap.ins m k v) = true := by
  induction m generalizing b with
  | nil => simp [SMap.ins, SMap.above, hb]
  | cons e t ih =>
    obtain ⟨a, x⟩ := e
    simp [SMap.above] at hm
    unfold SMap.ins
    split
    · simp [SMap.above, hb, hm.2]; omega
    · split
      · rename_i _ h2
        subst h2
        simp [SMap.above, hb, hm.2]
      · simp [SMap.above, hm.1]
        exact ih a (by omega) hm.2

theorem SMap.above_del (m : SMap α) (b k : Nat) (hm : SMap.above b m = true) : SMap.above b (SMap.del m k) = true := by
  induction m generalizing b with
  | nil => rfl
  | cons e t ih =>
    obtain ⟨a, x⟩ := e
    simp [SMap.above] at hm
    unfold SMap.del
    split
    · exact ih b (SMap.above_weaken t b a (by omega) hm.2)
    · simp [SMap.above, hm.1, ih a hm.2]

theorem SMap.sorted_of_above (m : SMap α) (b : Nat) (h : SMap.above b m = true) : SMap.sorted m = true := by
  cases m with
  | nil => rfl
  | cons e t => simp [SMap.above] at h; simp [SMap.sorted, h.2]

theorem SMap.sorted_ins (m : SMap α) (k : Nat) (v : α) (hm : SMap.sorted m = true) :
    SMap.sorted (SMap.ins m k v) = true := by
  cases m with
  | nil => simp [SMap.ins, SMap.sorted, SMap.above]
  | cons e t =>
    obtain ⟨a, x⟩ := e
    simp [SMap.sorted] at hm
    unfold SMap.ins
    split
    · rename_i h; simp [SMap.sorted, SMap.above, h, hm]
    · split
      · rename_i _ h2; subst h2; simp [SMap.sorted, hm]
      · simp [SMap.sorted]
        exact SMap.above_ins t a k v (by omega) hm

theorem SMap.sorted_del (m : SMap α) (k : Nat) (hm : SMap.sorted m = true) : SMap.sorted (SMap.del m k) = true := by
  cases m with
  | nil => rfl
  | cons e t =>
    obtain ⟨a, x⟩ := e
    simp [SMap.sorted] at hm
    unfold SMap.del
    split
    · exact SMap.sorted_of_above _ a (SMap.above_del t a k hm)
    · simp [SMap.sorted, SMap.above_del t a k hm]

theorem SMap.all_ins (m : SMap α) (k : Nat) (v : α) (p : Nat × α → Bool) (hv : p (k, v) = true) (hm : m.all p = true) :
    (SMap.ins m k v).all p = true := by
  induction m with
  | nil => simp [SMap.ins, hv]
  | cons e t ih =>
    obtain ⟨a, x⟩ := e
    simp only [List.all_cons, Bool.and_eq_true] at hm
    unfold SMap.ins
    split
    · simp only [List.all_cons, hv, hm.1, hm.2, Bool.and_self]
    · split
      · simp only [List.all_cons, hv, hm.2, Bool.and_self]
      · simp only [List.all_cons, hm.1, ih hm.2, Bool.and_self]

theorem SMap.all_del (m : SMap α) (k : Nat) (p : Nat × α → Bool) (hm : m.all p = true) :
    (SMap.del m k).all p = true := by
  induction m with
  | nil => rfl
  | cons e t ih =>
    obtain ⟨a, x⟩ := e
    simp only [List.all_cons, Bool.and_eq_true] at hm
    unfold SMap.del
    split
    · exact ih hm.2
    · simp only [List.all_cons, hm.1, ih hm.2, Bool.and_self]

end Sys2Proof
end

