-- ==== Sys2Proof/Laws/State.lean ====
section
/-! SUPPORT. What each single-field update of the state leaves: every other field, by definition. -/

namespace Sys2Proof.Machine

section setBnd
variable (s : State) (b : Bnd)

@[simp] theorem State.setBnd_csr : (s.setBnd b).csr = s.csr := rfl
@[simp] theorem State.setBnd_latch : (s.setBnd b).latch = s.latch := rfl
@[simp] theorem State.setBnd_rdata : (s.setBnd b).rdata = s.rdata := rfl
@[simp] theorem State.setBnd_mem : (s.setBnd b).mem = s.mem := rfl
@[simp] theorem State.setBnd_chk : (s.setBnd b).chk = s.chk := rfl
@[simp] theorem State.setBnd_memst : (s.setBnd b).memst = s.memst := rfl
@[simp] theorem State.setBnd_tmb : (s.setBnd b).tmb = s.tmb := rfl
@[simp] theorem State.setBnd_pace : (s.setBnd b).pace = s.pace := rfl
@[simp] theorem State.setBnd_sec : (s.setBnd b).sec = s.sec := rfl
@[simp] theorem State.setBnd_hif : (s.setBnd b).hif = s.hif := rfl
@[simp] theorem State.setBnd_drk : (s.setBnd b).drk = s.drk := rfl
@[simp] theorem State.setBnd_pwr : (s.setBnd b).pwr = s.pwr := rfl
@[simp] theorem State.setBnd_obs : (s.setBnd b).obs = s.obs := rfl
@[simp] theorem State.setBnd_eth : (s.setBnd b).eth = s.eth := rfl
@[simp] theorem State.setBnd_skm : (s.setBnd b).skm = s.skm := rfl
@[simp] theorem State.setBnd_tmg : (s.setBnd b).tmg = s.tmg := rfl
@[simp] theorem State.setBnd_cph : (s.setBnd b).cph = s.cph := rfl
@[simp] theorem State.setBnd_air : (s.setBnd b).air = s.air := rfl
@[simp] theorem State.setBnd_wmac : (s.setBnd b).wmac = s.wmac := rfl
@[simp] theorem State.setBnd_wb : (s.setBnd b).wb = s.wb := rfl
@[simp] theorem State.setBnd_fel : (s.setBnd b).fel = s.fel := rfl
@[simp] theorem State.setBnd_spe : (s.setBnd b).spe = s.spe := rfl
@[simp] theorem State.setBnd_tlm : (s.setBnd b).tlm = s.tlm := rfl
@[simp] theorem State.setBnd_fab : (s.setBnd b).fab = s.fab := rfl
@[simp] theorem State.setBnd_kck : (s.setBnd b).kck = s.kck := rfl
@[simp] theorem State.setBnd_tap : (s.setBnd b).tap = s.tap := rfl
@[simp] theorem State.setBnd_pending : (s.setBnd b).pending = s.pending := rfl
@[simp] theorem State.setBnd_bnd : (s.setBnd b).bnd = b := rfl

end setBnd

section setCph
variable (s : State) (x : Cph)

@[simp] theorem State.setCph_csr : (s.setCph x).csr = s.csr := rfl
@[simp] theorem State.setCph_latch : (s.setCph x).latch = s.latch := rfl
@[simp] theorem State.setCph_rdata : (s.setCph x).rdata = s.rdata := rfl
@[simp] theorem State.setCph_mem : (s.setCph x).mem = s.mem := rfl
@[simp] theorem State.setCph_chk : (s.setCph x).chk = s.chk := rfl
@[simp] theorem State.setCph_memst : (s.setCph x).memst = s.memst := rfl
@[simp] theorem State.setCph_tmb : (s.setCph x).tmb = s.tmb := rfl
@[simp] theorem State.setCph_pace : (s.setCph x).pace = s.pace := rfl
@[simp] theorem State.setCph_sec : (s.setCph x).sec = s.sec := rfl
@[simp] theorem State.setCph_hif : (s.setCph x).hif = s.hif := rfl
@[simp] theorem State.setCph_drk : (s.setCph x).drk = s.drk := rfl
@[simp] theorem State.setCph_pwr : (s.setCph x).pwr = s.pwr := rfl
@[simp] theorem State.setCph_obs : (s.setCph x).obs = s.obs := rfl
@[simp] theorem State.setCph_eth : (s.setCph x).eth = s.eth := rfl
@[simp] theorem State.setCph_skm : (s.setCph x).skm = s.skm := rfl
@[simp] theorem State.setCph_tmg : (s.setCph x).tmg = s.tmg := rfl
@[simp] theorem State.setCph_air : (s.setCph x).air = s.air := rfl
@[simp] theorem State.setCph_wmac : (s.setCph x).wmac = s.wmac := rfl
@[simp] theorem State.setCph_wb : (s.setCph x).wb = s.wb := rfl
@[simp] theorem State.setCph_fel : (s.setCph x).fel = s.fel := rfl
@[simp] theorem State.setCph_spe : (s.setCph x).spe = s.spe := rfl
@[simp] theorem State.setCph_tlm : (s.setCph x).tlm = s.tlm := rfl
@[simp] theorem State.setCph_fab : (s.setCph x).fab = s.fab := rfl
@[simp] theorem State.setCph_bnd : (s.setCph x).bnd = s.bnd := rfl
@[simp] theorem State.setCph_kck : (s.setCph x).kck = s.kck := rfl
@[simp] theorem State.setCph_tap : (s.setCph x).tap = s.tap := rfl
@[simp] theorem State.setCph_pending : (s.setCph x).pending = s.pending := rfl
@[simp] theorem State.setCph_cph : (s.setCph x).cph = x := rfl

end setCph

section returned
variable (s : State) (who : Init) (v : Nat)

@[simp] theorem State.returned_csr : (s.returned who v).csr = s.csr := rfl
@[simp] theorem State.returned_latch : (s.returned who v).latch = s.latch := rfl
@[simp] theorem State.returned_mem : (s.returned who v).mem = s.mem := rfl
@[simp] theorem State.returned_chk : (s.returned who v).chk = s.chk := rfl
@[simp] theorem State.returned_memst : (s.returned who v).memst = s.memst := rfl
@[simp] theorem State.returned_tmb : (s.returned who v).tmb = s.tmb := rfl
@[simp] theorem State.returned_pace : (s.returned who v).pace = s.pace := rfl
@[simp] theorem State.returned_sec : (s.returned who v).sec = s.sec := rfl
@[simp] theorem State.returned_hif : (s.returned who v).hif = s.hif := rfl
@[simp] theorem State.returned_drk : (s.returned who v).drk = s.drk := rfl
@[simp] theorem State.returned_pwr : (s.returned who v).pwr = s.pwr := rfl
@[simp] theorem State.returned_obs : (s.returned who v).obs = s.obs := rfl
@[simp] theorem State.returned_eth : (s.returned who v).eth = s.eth := rfl
@[simp] theorem State.returned_skm : (s.returned who v).skm = s.skm := rfl
@[simp] theorem State.returned_tmg : (s.returned who v).tmg = s.tmg := rfl
@[simp] theorem State.returned_cph : (s.returned who v).cph = s.cph := rfl
@[simp] theorem State.returned_air : (s.returned who v).air = s.air := rfl
@[simp] theorem State.returned_wmac : (s.returned who v).wmac = s.wmac := rfl
@[simp] theorem State.returned_wb : (s.returned who v).wb = s.wb := rfl
@[simp] theorem State.returned_fel : (s.returned who v).fel = s.fel := rfl
@[simp] theorem State.returned_spe : (s.returned who v).spe = s.spe := rfl
@[simp] theorem State.returned_tlm : (s.returned who v).tlm = s.tlm := rfl
@[simp] theorem State.returned_fab : (s.returned who v).fab = s.fab := rfl
@[simp] theorem State.returned_bnd : (s.returned who v).bnd = s.bnd := rfl
@[simp] theorem State.returned_kck : (s.returned who v).kck = s.kck := rfl
@[simp] theorem State.returned_tap : (s.returned who v).tap = s.tap := rfl
@[simp] theorem State.returned_pending : (s.returned who v).pending = s.pending := rfl

end returned

section pmcClear
variable (s : State)

@[simp] theorem State.pmcClear_latch : (s.pmcClear).latch = s.latch := rfl
@[simp] theorem State.pmcClear_rdata : (s.pmcClear).rdata = s.rdata := rfl
@[simp] theorem State.pmcClear_mem : (s.pmcClear).mem = s.mem := rfl
@[simp] theorem State.pmcClear_chk : (s.pmcClear).chk = s.chk := rfl
@[simp] theorem State.pmcClear_memst : (s.pmcClear).memst = s.memst := rfl
@[simp] theorem State.pmcClear_tmb : (s.pmcClear).tmb = s.tmb := rfl
@[simp] theorem State.pmcClear_pace : (s.pmcClear).pace = s.pace := rfl
@[simp] theorem State.pmcClear_sec : (s.pmcClear).sec = s.sec := rfl
@[simp] theorem State.pmcClear_hif : (s.pmcClear).hif = s.hif := rfl
@[simp] theorem State.pmcClear_drk : (s.pmcClear).drk = s.drk := rfl
@[simp] theorem State.pmcClear_pwr : (s.pmcClear).pwr = s.pwr := rfl
@[simp] theorem State.pmcClear_obs : (s.pmcClear).obs = s.obs := rfl
@[simp] theorem State.pmcClear_eth : (s.pmcClear).eth = s.eth := rfl
@[simp] theorem State.pmcClear_skm : (s.pmcClear).skm = s.skm := rfl
@[simp] theorem State.pmcClear_tmg : (s.pmcClear).tmg = s.tmg := rfl
@[simp] theorem State.pmcClear_cph : (s.pmcClear).cph = s.cph := rfl
@[simp] theorem State.pmcClear_air : (s.pmcClear).air = s.air := rfl
@[simp] theorem State.pmcClear_wmac : (s.pmcClear).wmac = s.wmac := rfl
@[simp] theorem State.pmcClear_wb : (s.pmcClear).wb = s.wb := rfl
@[simp] theorem State.pmcClear_fel : (s.pmcClear).fel = s.fel := rfl
@[simp] theorem State.pmcClear_spe : (s.pmcClear).spe = s.spe := rfl
@[simp] theorem State.pmcClear_tlm : (s.pmcClear).tlm = s.tlm := rfl
@[simp] theorem State.pmcClear_fab : (s.pmcClear).fab = s.fab := rfl
@[simp] theorem State.pmcClear_bnd : (s.pmcClear).bnd = s.bnd := rfl
@[simp] theorem State.pmcClear_kck : (s.pmcClear).kck = s.kck := rfl
@[simp] theorem State.pmcClear_tap : (s.pmcClear).tap = s.tap := rfl
@[simp] theorem State.pmcClear_pending : (s.pmcClear).pending = s.pending := rfl

end pmcClear

section setCtx
variable (s : State) (c : Nat) (x : Ctx)

@[simp] theorem State.setCtx_csr : (s.setCtx c x).csr = s.csr := rfl
@[simp] theorem State.setCtx_latch : (s.setCtx c x).latch = s.latch := rfl
@[simp] theorem State.setCtx_rdata : (s.setCtx c x).rdata = s.rdata := rfl
@[simp] theorem State.setCtx_mem : (s.setCtx c x).mem = s.mem := rfl
@[simp] theorem State.setCtx_chk : (s.setCtx c x).chk = s.chk := rfl
@[simp] theorem State.setCtx_memst : (s.setCtx c x).memst = s.memst := rfl
@[simp] theorem State.setCtx_tmb : (s.setCtx c x).tmb = s.tmb := rfl
@[simp] theorem State.setCtx_pace : (s.setCtx c x).pace = s.pace := rfl
@[simp] theorem State.setCtx_sec : (s.setCtx c x).sec = s.sec := rfl
@[simp] theorem State.setCtx_hif : (s.setCtx c x).hif = s.hif := rfl
@[simp] theorem State.setCtx_pwr : (s.setCtx c x).pwr = s.pwr := rfl
@[simp] theorem State.setCtx_obs : (s.setCtx c x).obs = s.obs := rfl
@[simp] theorem State.setCtx_eth : (s.setCtx c x).eth = s.eth := rfl
@[simp] theorem State.setCtx_skm : (s.setCtx c x).skm = s.skm := rfl
@[simp] theorem State.setCtx_tmg : (s.setCtx c x).tmg = s.tmg := rfl
@[simp] theorem State.setCtx_cph : (s.setCtx c x).cph = s.cph := rfl
@[simp] theorem State.setCtx_air : (s.setCtx c x).air = s.air := rfl
@[simp] theorem State.setCtx_wmac : (s.setCtx c x).wmac = s.wmac := rfl
@[simp] theorem State.setCtx_wb : (s.setCtx c x).wb = s.wb := rfl
@[simp] theorem State.setCtx_fel : (s.setCtx c x).fel = s.fel := rfl
@[simp] theorem State.setCtx_spe : (s.setCtx c x).spe = s.spe := rfl
@[simp] theorem State.setCtx_tlm : (s.setCtx c x).tlm = s.tlm := rfl
@[simp] theorem State.setCtx_fab : (s.setCtx c x).fab = s.fab := rfl
@[simp] theorem State.setCtx_bnd : (s.setCtx c x).bnd = s.bnd := rfl
@[simp] theorem State.setCtx_kck : (s.setCtx c x).kck = s.kck := rfl
@[simp] theorem State.setCtx_tap : (s.setCtx c x).tap = s.tap := rfl
@[simp] theorem State.setCtx_pending : (s.setCtx c x).pending = s.pending := rfl

end setCtx

section setCore
variable (s : State) (n : Nat) (x : Core)

@[simp] theorem State.setCore_csr : (s.setCore n x).csr = s.csr := rfl
@[simp] theorem State.setCore_latch : (s.setCore n x).latch = s.latch := rfl
@[simp] theorem State.setCore_rdata : (s.setCore n x).rdata = s.rdata := rfl
@[simp] theorem State.setCore_mem : (s.setCore n x).mem = s.mem := rfl
@[simp] theorem State.setCore_chk : (s.setCore n x).chk = s.chk := rfl
@[simp] theorem State.setCore_memst : (s.setCore n x).memst = s.memst := rfl
@[simp] theorem State.setCore_tmb : (s.setCore n x).tmb = s.tmb := rfl
@[simp] theorem State.setCore_pace : (s.setCore n x).pace = s.pace := rfl
@[simp] theorem State.setCore_sec : (s.setCore n x).sec = s.sec := rfl
@[simp] theorem State.setCore_hif : (s.setCore n x).hif = s.hif := rfl
@[simp] theorem State.setCore_pwr : (s.setCore n x).pwr = s.pwr := rfl
@[simp] theorem State.setCore_obs : (s.setCore n x).obs = s.obs := rfl
@[simp] theorem State.setCore_eth : (s.setCore n x).eth = s.eth := rfl
@[simp] theorem State.setCore_skm : (s.setCore n x).skm = s.skm := rfl
@[simp] theorem State.setCore_tmg : (s.setCore n x).tmg = s.tmg := rfl
@[simp] theorem State.setCore_cph : (s.setCore n x).cph = s.cph := rfl
@[simp] theorem State.setCore_air : (s.setCore n x).air = s.air := rfl
@[simp] theorem State.setCore_wmac : (s.setCore n x).wmac = s.wmac := rfl
@[simp] theorem State.setCore_wb : (s.setCore n x).wb = s.wb := rfl
@[simp] theorem State.setCore_fel : (s.setCore n x).fel = s.fel := rfl
@[simp] theorem State.setCore_spe : (s.setCore n x).spe = s.spe := rfl
@[simp] theorem State.setCore_tlm : (s.setCore n x).tlm = s.tlm := rfl
@[simp] theorem State.setCore_fab : (s.setCore n x).fab = s.fab := rfl
@[simp] theorem State.setCore_bnd : (s.setCore n x).bnd = s.bnd := rfl
@[simp] theorem State.setCore_kck : (s.setCore n x).kck = s.kck := rfl
@[simp] theorem State.setCore_tap : (s.setCore n x).tap = s.tap := rfl
@[simp] theorem State.setCore_pending : (s.setCore n x).pending = s.pending := rfl

end setCore

section hifDone
variable (s : State) (qp cseq : Nat) (d : HDone)

@[simp] theorem State.hifDone_csr : (s.hifDone qp cseq d).csr = s.csr := rfl
@[simp] theorem State.hifDone_latch : (s.hifDone qp cseq d).latch = s.latch := rfl
@[simp] theorem State.hifDone_rdata : (s.hifDone qp cseq d).rdata = s.rdata := rfl
@[simp] theorem State.hifDone_mem : (s.hifDone qp cseq d).mem = s.mem := rfl
@[simp] theorem State.hifDone_chk : (s.hifDone qp cseq d).chk = s.chk := rfl
@[simp] theorem State.hifDone_memst : (s.hifDone qp cseq d).memst = s.memst := rfl
@[simp] theorem State.hifDone_tmb : (s.hifDone qp cseq d).tmb = s.tmb := rfl
@[simp] theorem State.hifDone_pace : (s.hifDone qp cseq d).pace = s.pace := rfl
@[simp] theorem State.hifDone_sec : (s.hifDone qp cseq d).sec = s.sec := rfl
@[simp] theorem State.hifDone_drk : (s.hifDone qp cseq d).drk = s.drk := rfl
@[simp] theorem State.hifDone_pwr : (s.hifDone qp cseq d).pwr = s.pwr := rfl
@[simp] theorem State.hifDone_obs : (s.hifDone qp cseq d).obs = s.obs := rfl
@[simp] theorem State.hifDone_eth : (s.hifDone qp cseq d).eth = s.eth := rfl
@[simp] theorem State.hifDone_skm : (s.hifDone qp cseq d).skm = s.skm := rfl
@[simp] theorem State.hifDone_tmg : (s.hifDone qp cseq d).tmg = s.tmg := rfl
@[simp] theorem State.hifDone_cph : (s.hifDone qp cseq d).cph = s.cph := rfl
@[simp] theorem State.hifDone_air : (s.hifDone qp cseq d).air = s.air := rfl
@[simp] theorem State.hifDone_wmac : (s.hifDone qp cseq d).wmac = s.wmac := rfl
@[simp] theorem State.hifDone_wb : (s.hifDone qp cseq d).wb = s.wb := rfl
@[simp] theorem State.hifDone_fel : (s.hifDone qp cseq d).fel = s.fel := rfl
@[simp] theorem State.hifDone_spe : (s.hifDone qp cseq d).spe = s.spe := rfl
@[simp] theorem State.hifDone_tlm : (s.hifDone qp cseq d).tlm = s.tlm := rfl
@[simp] theorem State.hifDone_fab : (s.hifDone qp cseq d).fab = s.fab := rfl
@[simp] theorem State.hifDone_bnd : (s.hifDone qp cseq d).bnd = s.bnd := rfl
@[simp] theorem State.hifDone_kck : (s.hifDone qp cseq d).kck = s.kck := rfl
@[simp] theorem State.hifDone_tap : (s.hifDone qp cseq d).tap = s.tap := rfl
@[simp] theorem State.hifDone_pending : (s.hifDone qp cseq d).pending = s.pending := rfl

end hifDone

section raise
variable (s : State) (e : Ev)

@[simp] theorem State.raise_csr : (s.raise e).csr = s.csr := rfl
@[simp] theorem State.raise_latch : (s.raise e).latch = s.latch := rfl
@[simp] theorem State.raise_rdata : (s.raise e).rdata = s.rdata := rfl
@[simp] theorem State.raise_mem : (s.raise e).mem = s.mem := rfl
@[simp] theorem State.raise_chk : (s.raise e).chk = s.chk := rfl
@[simp] theorem State.raise_memst : (s.raise e).memst = s.memst := rfl
@[simp] theorem State.raise_tmb : (s.raise e).tmb = s.tmb := rfl
@[simp] theorem State.raise_pace : (s.raise e).pace = s.pace := rfl
@[simp] theorem State.raise_sec : (s.raise e).sec = s.sec := rfl
@[simp] theorem State.raise_hif : (s.raise e).hif = s.hif := rfl
@[simp] theorem State.raise_pwr : (s.raise e).pwr = s.pwr := rfl
@[simp] theorem State.raise_obs : (s.raise e).obs = s.obs := rfl
@[simp] theorem State.raise_eth : (s.raise e).eth = s.eth := rfl
@[simp] theorem State.raise_skm : (s.raise e).skm = s.skm := rfl
@[simp] theorem State.raise_tmg : (s.raise e).tmg = s.tmg := rfl
@[simp] theorem State.raise_cph : (s.raise e).cph = s.cph := rfl
@[simp] theorem State.raise_air : (s.raise e).air = s.air := rfl
@[simp] theorem State.raise_wmac : (s.raise e).wmac = s.wmac := rfl
@[simp] theorem State.raise_wb : (s.raise e).wb = s.wb := rfl
@[simp] theorem State.raise_fel : (s.raise e).fel = s.fel := rfl
@[simp] theorem State.raise_spe : (s.raise e).spe = s.spe := rfl
@[simp] theorem State.raise_tlm : (s.raise e).tlm = s.tlm := rfl
@[simp] theorem State.raise_fab : (s.raise e).fab = s.fab := rfl
@[simp] theorem State.raise_bnd : (s.raise e).bnd = s.bnd := rfl
@[simp] theorem State.raise_kck : (s.raise e).kck = s.kck := rfl
@[simp] theorem State.raise_tap : (s.raise e).tap = s.tap := rfl
@[simp] theorem State.raise_pending : (s.raise e).pending = s.pending := rfl

end raise

section answerOp
variable (s : State) (id : Nat) (o : Op) (st val : Nat) (keep : Bool)

@[simp] theorem State.answerOp_csr : (s.answerOp id o st val keep).csr = s.csr := rfl
@[simp] theorem State.answerOp_latch : (s.answerOp id o st val keep).latch = s.latch := rfl
@[simp] theorem State.answerOp_rdata : (s.answerOp id o st val keep).rdata = s.rdata := rfl
@[simp] theorem State.answerOp_mem : (s.answerOp id o st val keep).mem = s.mem := rfl
@[simp] theorem State.answerOp_chk : (s.answerOp id o st val keep).chk = s.chk := rfl
@[simp] theorem State.answerOp_memst : (s.answerOp id o st val keep).memst = s.memst := rfl
@[simp] theorem State.answerOp_tmb : (s.answerOp id o st val keep).tmb = s.tmb := rfl
@[simp] theorem State.answerOp_pace : (s.answerOp id o st val keep).pace = s.pace := rfl
@[simp] theorem State.answerOp_sec : (s.answerOp id o st val keep).sec = s.sec := rfl
@[simp] theorem State.answerOp_hif : (s.answerOp id o st val keep).hif = s.hif := rfl
@[simp] theorem State.answerOp_pwr : (s.answerOp id o st val keep).pwr = s.pwr := rfl
@[simp] theorem State.answerOp_obs : (s.answerOp id o st val keep).obs = s.obs := rfl
@[simp] theorem State.answerOp_eth : (s.answerOp id o st val keep).eth = s.eth := rfl
@[simp] theorem State.answerOp_skm : (s.answerOp id o st val keep).skm = s.skm := rfl
@[simp] theorem State.answerOp_tmg : (s.answerOp id o st val keep).tmg = s.tmg := rfl
@[simp] theorem State.answerOp_cph : (s.answerOp id o st val keep).cph = s.cph := rfl
@[simp] theorem State.answerOp_air : (s.answerOp id o st val keep).air = s.air := rfl
@[simp] theorem State.answerOp_wmac : (s.answerOp id o st val keep).wmac = s.wmac := rfl
@[simp] theorem State.answerOp_wb : (s.answerOp id o st val keep).wb = s.wb := rfl
@[simp] theorem State.answerOp_fel : (s.answerOp id o st val keep).fel = s.fel := rfl
@[simp] theorem State.answerOp_spe : (s.answerOp id o st val keep).spe = s.spe := rfl
@[simp] theorem State.answerOp_tlm : (s.answerOp id o st val keep).tlm = s.tlm := rfl
@[simp] theorem State.answerOp_fab : (s.answerOp id o st val keep).fab = s.fab := rfl
@[simp] theorem State.answerOp_bnd : (s.answerOp id o st val keep).bnd = s.bnd := rfl
@[simp] theorem State.answerOp_kck : (s.answerOp id o st val keep).kck = s.kck := rfl
@[simp] theorem State.answerOp_tap : (s.answerOp id o st val keep).tap = s.tap := rfl
@[simp] theorem State.answerOp_pending : (s.answerOp id o st val keep).pending = s.pending := rfl

end answerOp

section fabWire
variable (s : State) (h : Bytes) (args : List Nat)

@[simp] theorem State.fabWire_csr : (s.fabWire h args).csr = s.csr := rfl
@[simp] theorem State.fabWire_latch : (s.fabWire h args).latch = s.latch := rfl
@[simp] theorem State.fabWire_rdata : (s.fabWire h args).rdata = s.rdata := rfl
@[simp] theorem State.fabWire_mem : (s.fabWire h args).mem = s.mem := rfl
@[simp] theorem State.fabWire_chk : (s.fabWire h args).chk = s.chk := rfl
@[simp] theorem State.fabWire_memst : (s.fabWire h args).memst = s.memst := rfl
@[simp] theorem State.fabWire_tmb : (s.fabWire h args).tmb = s.tmb := rfl
@[simp] theorem State.fabWire_pace : (s.fabWire h args).pace = s.pace := rfl
@[simp] theorem State.fabWire_sec : (s.fabWire h args).sec = s.sec := rfl
@[simp] theorem State.fabWire_hif : (s.fabWire h args).hif = s.hif := rfl
@[simp] theorem State.fabWire_drk : (s.fabWire h args).drk = s.drk := rfl
@[simp] theorem State.fabWire_pwr : (s.fabWire h args).pwr = s.pwr := rfl
@[simp] theorem State.fabWire_obs : (s.fabWire h args).obs = s.obs := rfl
@[simp] theorem State.fabWire_eth : (s.fabWire h args).eth = s.eth := rfl
@[simp] theorem State.fabWire_skm : (s.fabWire h args).skm = s.skm := rfl
@[simp] theorem State.fabWire_tmg : (s.fabWire h args).tmg = s.tmg := rfl
@[simp] theorem State.fabWire_cph : (s.fabWire h args).cph = s.cph := rfl
@[simp] theorem State.fabWire_air : (s.fabWire h args).air = s.air := rfl
@[simp] theorem State.fabWire_wmac : (s.fabWire h args).wmac = s.wmac := rfl
@[simp] theorem State.fabWire_wb : (s.fabWire h args).wb = s.wb := rfl
@[simp] theorem State.fabWire_fel : (s.fabWire h args).fel = s.fel := rfl
@[simp] theorem State.fabWire_spe : (s.fabWire h args).spe = s.spe := rfl
@[simp] theorem State.fabWire_tlm : (s.fabWire h args).tlm = s.tlm := rfl
@[simp] theorem State.fabWire_bnd : (s.fabWire h args).bnd = s.bnd := rfl
@[simp] theorem State.fabWire_kck : (s.fabWire h args).kck = s.kck := rfl
@[simp] theorem State.fabWire_tap : (s.fabWire h args).tap = s.tap := rfl
@[simp] theorem State.fabWire_pending : (s.fabWire h args).pending = s.pending := rfl

end fabWire

section skmEnter
variable (s : State) (i : Nat) (f : Frame)

@[simp] theorem State.skmEnter_csr : (s.skmEnter i f).csr = s.csr := rfl
@[simp] theorem State.skmEnter_latch : (s.skmEnter i f).latch = s.latch := rfl
@[simp] theorem State.skmEnter_rdata : (s.skmEnter i f).rdata = s.rdata := rfl
@[simp] theorem State.skmEnter_mem : (s.skmEnter i f).mem = s.mem := rfl
@[simp] theorem State.skmEnter_chk : (s.skmEnter i f).chk = s.chk := rfl
@[simp] theorem State.skmEnter_memst : (s.skmEnter i f).memst = s.memst := rfl
@[simp] theorem State.skmEnter_tmb : (s.skmEnter i f).tmb = s.tmb := rfl
@[simp] theorem State.skmEnter_pace : (s.skmEnter i f).pace = s.pace := rfl
@[simp] theorem State.skmEnter_sec : (s.skmEnter i f).sec = s.sec := rfl
@[simp] theorem State.skmEnter_hif : (s.skmEnter i f).hif = s.hif := rfl
@[simp] theorem State.skmEnter_drk : (s.skmEnter i f).drk = s.drk := rfl
@[simp] theorem State.skmEnter_pwr : (s.skmEnter i f).pwr = s.pwr := rfl
@[simp] theorem State.skmEnter_obs : (s.skmEnter i f).obs = s.obs := rfl
@[simp] theorem State.skmEnter_eth : (s.skmEnter i f).eth = s.eth := rfl
@[simp] theorem State.skmEnter_tmg : (s.skmEnter i f).tmg = s.tmg := rfl
@[simp] theorem State.skmEnter_cph : (s.skmEnter i f).cph = s.cph := rfl
@[simp] theorem State.skmEnter_air : (s.skmEnter i f).air = s.air := rfl
@[simp] theorem State.skmEnter_wmac : (s.skmEnter i f).wmac = s.wmac := rfl
@[simp] theorem State.skmEnter_wb : (s.skmEnter i f).wb = s.wb := rfl
@[simp] theorem State.skmEnter_fel : (s.skmEnter i f).fel = s.fel := rfl
@[simp] theorem State.skmEnter_spe : (s.skmEnter i f).spe = s.spe := rfl
@[simp] theorem State.skmEnter_tlm : (s.skmEnter i f).tlm = s.tlm := rfl
@[simp] theorem State.skmEnter_fab : (s.skmEnter i f).fab = s.fab := rfl
@[simp] theorem State.skmEnter_bnd : (s.skmEnter i f).bnd = s.bnd := rfl
@[simp] theorem State.skmEnter_kck : (s.skmEnter i f).kck = s.kck := rfl
@[simp] theorem State.skmEnter_tap : (s.skmEnter i f).tap = s.tap := rfl
@[simp] theorem State.skmEnter_pending : (s.skmEnter i f).pending = s.pending := rfl

end skmEnter

section setHq
variable (s : State) (n : Nat) (q : HQueue)

@[simp] theorem State.setHq_csr : (s.setHq n q).csr = s.csr := rfl
@[simp] theorem State.setHq_latch : (s.setHq n q).latch = s.latch := rfl
@[simp] theorem State.setHq_rdata : (s.setHq n q).rdata = s.rdata := rfl
@[simp] theorem State.setHq_mem : (s.setHq n q).mem = s.mem := rfl
@[simp] theorem State.setHq_chk : (s.setHq n q).chk = s.chk := rfl
@[simp] theorem State.setHq_memst : (s.setHq n q).memst = s.memst := rfl
@[simp] theorem State.setHq_tmb : (s.setHq n q).tmb = s.tmb := rfl
@[simp] theorem State.setHq_pace : (s.setHq n q).pace = s.pace := rfl
@[simp] theorem State.setHq_sec : (s.setHq n q).sec = s.sec := rfl
@[simp] theorem State.setHq_drk : (s.setHq n q).drk = s.drk := rfl
@[simp] theorem State.setHq_pwr : (s.setHq n q).pwr = s.pwr := rfl
@[simp] theorem State.setHq_obs : (s.setHq n q).obs = s.obs := rfl
@[simp] theorem State.setHq_eth : (s.setHq n q).eth = s.eth := rfl
@[simp] theorem State.setHq_skm : (s.setHq n q).skm = s.skm := rfl
@[simp] theorem State.setHq_tmg : (s.setHq n q).tmg = s.tmg := rfl
@[simp] theorem State.setHq_cph : (s.setHq n q).cph = s.cph := rfl
@[simp] theorem State.setHq_air : (s.setHq n q).air = s.air := rfl
@[simp] theorem State.setHq_wmac : (s.setHq n q).wmac = s.wmac := rfl
@[simp] theorem State.setHq_wb : (s.setHq n q).wb = s.wb := rfl
@[simp] theorem State.setHq_fel : (s.setHq n q).fel = s.fel := rfl
@[simp] theorem State.setHq_spe : (s.setHq n q).spe = s.spe := rfl
@[simp] theorem State.setHq_tlm : (s.setHq n q).tlm = s.tlm := rfl
@[simp] theorem State.setHq_fab : (s.setHq n q).fab = s.fab := rfl
@[simp] theorem State.setHq_bnd : (s.setHq n q).bnd = s.bnd := rfl
@[simp] theorem State.setHq_kck : (s.setHq n q).kck = s.kck := rfl
@[simp] theorem State.setHq_tap : (s.setHq n q).tap = s.tap := rfl
@[simp] theorem State.setHq_pending : (s.setHq n q).pending = s.pending := rfl

end setHq

section markStarted
variable (s : State) (qp cseq : Nat)

@[simp] theorem State.markStarted_csr : (s.markStarted qp cseq).csr = s.csr := rfl
@[simp] theorem State.markStarted_latch : (s.markStarted qp cseq).latch = s.latch := rfl
@[simp] theorem State.markStarted_rdata : (s.markStarted qp cseq).rdata = s.rdata := rfl
@[simp] theorem State.markStarted_mem : (s.markStarted qp cseq).mem = s.mem := rfl
@[simp] theorem State.markStarted_chk : (s.markStarted qp cseq).chk = s.chk := rfl
@[simp] theorem State.markStarted_memst : (s.markStarted qp cseq).memst = s.memst := rfl
@[simp] theorem State.markStarted_tmb : (s.markStarted qp cseq).tmb = s.tmb := rfl
@[simp] theorem State.markStarted_pace : (s.markStarted qp cseq).pace = s.pace := rfl
@[simp] theorem State.markStarted_sec : (s.markStarted qp cseq).sec = s.sec := rfl
@[simp] theorem State.markStarted_drk : (s.markStarted qp cseq).drk = s.drk := rfl
@[simp] theorem State.markStarted_pwr : (s.markStarted qp cseq).pwr = s.pwr := rfl
@[simp] theorem State.markStarted_obs : (s.markStarted qp cseq).obs = s.obs := rfl
@[simp] theorem State.markStarted_eth : (s.markStarted qp cseq).eth = s.eth := rfl
@[simp] theorem State.markStarted_skm : (s.markStarted qp cseq).skm = s.skm := rfl
@[simp] theorem State.markStarted_tmg : (s.markStarted qp cseq).tmg = s.tmg := rfl
@[simp] theorem State.markStarted_cph : (s.markStarted qp cseq).cph = s.cph := rfl
@[simp] theorem State.markStarted_air : (s.markStarted qp cseq).air = s.air := rfl
@[simp] theorem State.markStarted_wmac : (s.markStarted qp cseq).wmac = s.wmac := rfl
@[simp] theorem State.markStarted_wb : (s.markStarted qp cseq).wb = s.wb := rfl
@[simp] theorem State.markStarted_fel : (s.markStarted qp cseq).fel = s.fel := rfl
@[simp] theorem State.markStarted_spe : (s.markStarted qp cseq).spe = s.spe := rfl
@[simp] theorem State.markStarted_tlm : (s.markStarted qp cseq).tlm = s.tlm := rfl
@[simp] theorem State.markStarted_fab : (s.markStarted qp cseq).fab = s.fab := rfl
@[simp] theorem State.markStarted_bnd : (s.markStarted qp cseq).bnd = s.bnd := rfl
@[simp] theorem State.markStarted_kck : (s.markStarted qp cseq).kck = s.kck := rfl
@[simp] theorem State.markStarted_tap : (s.markStarted qp cseq).tap = s.tap := rfl
@[simp] theorem State.markStarted_pending : (s.markStarted qp cseq).pending = s.pending := rfl

end markStarted

section setPcie
variable (s : State) (p : Pcie)

@[simp] theorem State.setPcie_csr : (s.setPcie p).csr = s.csr := rfl
@[simp] theorem State.setPcie_latch : (s.setPcie p).latch = s.latch := rfl
@[simp] theorem State.setPcie_rdata : (s.setPcie p).rdata = s.rdata := rfl
@[simp] theorem State.setPcie_mem : (s.setPcie p).mem = s.mem := rfl
@[simp] theorem State.setPcie_chk : (s.setPcie p).chk = s.chk := rfl
@[simp] theorem State.setPcie_memst : (s.setPcie p).memst = s.memst := rfl
@[simp] theorem State.setPcie_tmb : (s.setPcie p).tmb = s.tmb := rfl
@[simp] theorem State.setPcie_pace : (s.setPcie p).pace = s.pace := rfl
@[simp] theorem State.setPcie_sec : (s.setPcie p).sec = s.sec := rfl
@[simp] theorem State.setPcie_drk : (s.setPcie p).drk = s.drk := rfl
@[simp] theorem State.setPcie_pwr : (s.setPcie p).pwr = s.pwr := rfl
@[simp] theorem State.setPcie_obs : (s.setPcie p).obs = s.obs := rfl
@[simp] theorem State.setPcie_eth : (s.setPcie p).eth = s.eth := rfl
@[simp] theorem State.setPcie_skm : (s.setPcie p).skm = s.skm := rfl
@[simp] theorem State.setPcie_tmg : (s.setPcie p).tmg = s.tmg := rfl
@[simp] theorem State.setPcie_cph : (s.setPcie p).cph = s.cph := rfl
@[simp] theorem State.setPcie_air : (s.setPcie p).air = s.air := rfl
@[simp] theorem State.setPcie_wmac : (s.setPcie p).wmac = s.wmac := rfl
@[simp] theorem State.setPcie_wb : (s.setPcie p).wb = s.wb := rfl
@[simp] theorem State.setPcie_fel : (s.setPcie p).fel = s.fel := rfl
@[simp] theorem State.setPcie_spe : (s.setPcie p).spe = s.spe := rfl
@[simp] theorem State.setPcie_tlm : (s.setPcie p).tlm = s.tlm := rfl
@[simp] theorem State.setPcie_fab : (s.setPcie p).fab = s.fab := rfl
@[simp] theorem State.setPcie_bnd : (s.setPcie p).bnd = s.bnd := rfl
@[simp] theorem State.setPcie_kck : (s.setPcie p).kck = s.kck := rfl
@[simp] theorem State.setPcie_tap : (s.setPcie p).tap = s.tap := rfl
@[simp] theorem State.setPcie_pending : (s.setPcie p).pending = s.pending := rfl
@[simp] theorem State.setPcie_pcie : (s.setPcie p).hif.pcie = p := rfl

end setPcie

section setKset
variable (s : State) (k : Nat) (x : KckSet)

@[simp] theorem State.setKset_csr : (s.setKset k x).csr = s.csr := rfl
@[simp] theorem State.setKset_latch : (s.setKset k x).latch = s.latch := rfl
@[simp] theorem State.setKset_rdata : (s.setKset k x).rdata = s.rdata := rfl
@[simp] theorem State.setKset_mem : (s.setKset k x).mem = s.mem := rfl
@[simp] theorem State.setKset_chk : (s.setKset k x).chk = s.chk := rfl
@[simp] theorem State.setKset_memst : (s.setKset k x).memst = s.memst := rfl
@[simp] theorem State.setKset_tmb : (s.setKset k x).tmb = s.tmb := rfl
@[simp] theorem State.setKset_pace : (s.setKset k x).pace = s.pace := rfl
@[simp] theorem State.setKset_sec : (s.setKset k x).sec = s.sec := rfl
@[simp] theorem State.setKset_hif : (s.setKset k x).hif = s.hif := rfl
@[simp] theorem State.setKset_drk : (s.setKset k x).drk = s.drk := rfl
@[simp] theorem State.setKset_pwr : (s.setKset k x).pwr = s.pwr := rfl
@[simp] theorem State.setKset_obs : (s.setKset k x).obs = s.obs := rfl
@[simp] theorem State.setKset_eth : (s.setKset k x).eth = s.eth := rfl
@[simp] theorem State.setKset_skm : (s.setKset k x).skm = s.skm := rfl
@[simp] theorem State.setKset_tmg : (s.setKset k x).tmg = s.tmg := rfl
@[simp] theorem State.setKset_cph : (s.setKset k x).cph = s.cph := rfl
@[simp] theorem State.setKset_air : (s.setKset k x).air = s.air := rfl
@[simp] theorem State.setKset_wmac : (s.setKset k x).wmac = s.wmac := rfl
@[simp] theorem State.setKset_wb : (s.setKset k x).wb = s.wb := rfl
@[simp] theorem State.setKset_fel : (s.setKset k x).fel = s.fel := rfl
@[simp] theorem State.setKset_spe : (s.setKset k x).spe = s.spe := rfl
@[simp] theorem State.setKset_tlm : (s.setKset k x).tlm = s.tlm := rfl
@[simp] theorem State.setKset_fab : (s.setKset k x).fab = s.fab := rfl
@[simp] theorem State.setKset_bnd : (s.setKset k x).bnd = s.bnd := rfl
@[simp] theorem State.setKset_tap : (s.setKset k x).tap = s.tap := rfl
@[simp] theorem State.setKset_pending : (s.setKset k x).pending = s.pending := rfl

end setKset

section barMark
variable (s : State) (n t sn : Nat)

@[simp] theorem State.barMark_csr : (s.barMark n t sn).csr = s.csr := rfl
@[simp] theorem State.barMark_latch : (s.barMark n t sn).latch = s.latch := rfl
@[simp] theorem State.barMark_rdata : (s.barMark n t sn).rdata = s.rdata := rfl
@[simp] theorem State.barMark_mem : (s.barMark n t sn).mem = s.mem := rfl
@[simp] theorem State.barMark_chk : (s.barMark n t sn).chk = s.chk := rfl
@[simp] theorem State.barMark_memst : (s.barMark n t sn).memst = s.memst := rfl
@[simp] theorem State.barMark_tmb : (s.barMark n t sn).tmb = s.tmb := rfl
@[simp] theorem State.barMark_pace : (s.barMark n t sn).pace = s.pace := rfl
@[simp] theorem State.barMark_sec : (s.barMark n t sn).sec = s.sec := rfl
@[simp] theorem State.barMark_hif : (s.barMark n t sn).hif = s.hif := rfl
@[simp] theorem State.barMark_drk : (s.barMark n t sn).drk = s.drk := rfl
@[simp] theorem State.barMark_pwr : (s.barMark n t sn).pwr = s.pwr := rfl
@[simp] theorem State.barMark_obs : (s.barMark n t sn).obs = s.obs := rfl
@[simp] theorem State.barMark_eth : (s.barMark n t sn).eth = s.eth := rfl
@[simp] theorem State.barMark_skm : (s.barMark n t sn).skm = s.skm := rfl
@[simp] theorem State.barMark_tmg : (s.barMark n t sn).tmg = s.tmg := rfl
@[simp] theorem State.barMark_cph : (s.barMark n t sn).cph = s.cph := rfl
@[simp] theorem State.barMark_air : (s.barMark n t sn).air = s.air := rfl
@[simp] theorem State.barMark_wb : (s.barMark n t sn).wb = s.wb := rfl
@[simp] theorem State.barMark_fel : (s.barMark n t sn).fel = s.fel := rfl
@[simp] theorem State.barMark_spe : (s.barMark n t sn).spe = s.spe := rfl
@[simp] theorem State.barMark_tlm : (s.barMark n t sn).tlm = s.tlm := rfl
@[simp] theorem State.barMark_fab : (s.barMark n t sn).fab = s.fab := rfl
@[simp] theorem State.barMark_bnd : (s.barMark n t sn).bnd = s.bnd := rfl
@[simp] theorem State.barMark_kck : (s.barMark n t sn).kck = s.kck := rfl
@[simp] theorem State.barMark_tap : (s.barMark n t sn).tap = s.tap := rfl
@[simp] theorem State.barMark_pending : (s.barMark n t sn).pending = s.pending := rfl

end barMark

section poolFresh
variable (s : State)

@[simp] theorem State.poolFresh_csr : (s.poolFresh).csr = s.csr := rfl
@[simp] theorem State.poolFresh_latch : (s.poolFresh).latch = s.latch := rfl
@[simp] theorem State.poolFresh_rdata : (s.poolFresh).rdata = s.rdata := rfl
@[simp] theorem State.poolFresh_mem : (s.poolFresh).mem = s.mem := rfl
@[simp] theorem State.poolFresh_chk : (s.poolFresh).chk = s.chk := rfl
@[simp] theorem State.poolFresh_tmb : (s.poolFresh).tmb = s.tmb := rfl
@[simp] theorem State.poolFresh_pace : (s.poolFresh).pace = s.pace := rfl
@[simp] theorem State.poolFresh_sec : (s.poolFresh).sec = s.sec := rfl
@[simp] theorem State.poolFresh_hif : (s.poolFresh).hif = s.hif := rfl
@[simp] theorem State.poolFresh_drk : (s.poolFresh).drk = s.drk := rfl
@[simp] theorem State.poolFresh_pwr : (s.poolFresh).pwr = s.pwr := rfl
@[simp] theorem State.poolFresh_obs : (s.poolFresh).obs = s.obs := rfl
@[simp] theorem State.poolFresh_eth : (s.poolFresh).eth = s.eth := rfl
@[simp] theorem State.poolFresh_skm : (s.poolFresh).skm = s.skm := rfl
@[simp] theorem State.poolFresh_tmg : (s.poolFresh).tmg = s.tmg := rfl
@[simp] theorem State.poolFresh_cph : (s.poolFresh).cph = s.cph := rfl
@[simp] theorem State.poolFresh_air : (s.poolFresh).air = s.air := rfl
@[simp] theorem State.poolFresh_wmac : (s.poolFresh).wmac = s.wmac := rfl
@[simp] theorem State.poolFresh_wb : (s.poolFresh).wb = s.wb := rfl
@[simp] theorem State.poolFresh_fel : (s.poolFresh).fel = s.fel := rfl
@[simp] theorem State.poolFresh_spe : (s.poolFresh).spe = s.spe := rfl
@[simp] theorem State.poolFresh_tlm : (s.poolFresh).tlm = s.tlm := rfl
@[simp] theorem State.poolFresh_fab : (s.poolFresh).fab = s.fab := rfl
@[simp] theorem State.poolFresh_bnd : (s.poolFresh).bnd = s.bnd := rfl
@[simp] theorem State.poolFresh_kck : (s.poolFresh).kck = s.kck := rfl
@[simp] theorem State.poolFresh_tap : (s.poolFresh).tap = s.tap := rfl
@[simp] theorem State.poolFresh_pending : (s.poolFresh).pending = s.pending := rfl

end poolFresh

section fifoCount
variable (s : State) (l : Nat)

@[simp] theorem State.fifoCount_csr : (s.fifoCount l).csr = s.csr := rfl
@[simp] theorem State.fifoCount_latch : (s.fifoCount l).latch = s.latch := rfl
@[simp] theorem State.fifoCount_rdata : (s.fifoCount l).rdata = s.rdata := rfl
@[simp] theorem State.fifoCount_mem : (s.fifoCount l).mem = s.mem := rfl
@[simp] theorem State.fifoCount_chk : (s.fifoCount l).chk = s.chk := rfl
@[simp] theorem State.fifoCount_memst : (s.fifoCount l).memst = s.memst := rfl
@[simp] theorem State.fifoCount_tmb : (s.fifoCount l).tmb = s.tmb := rfl
@[simp] theorem State.fifoCount_pace : (s.fifoCount l).pace = s.pace := rfl
@[simp] theorem State.fifoCount_sec : (s.fifoCount l).sec = s.sec := rfl
@[simp] theorem State.fifoCount_hif : (s.fifoCount l).hif = s.hif := rfl
@[simp] theorem State.fifoCount_drk : (s.fifoCount l).drk = s.drk := rfl
@[simp] theorem State.fifoCount_pwr : (s.fifoCount l).pwr = s.pwr := rfl
@[simp] theorem State.fifoCount_eth : (s.fifoCount l).eth = s.eth := rfl
@[simp] theorem State.fifoCount_skm : (s.fifoCount l).skm = s.skm := rfl
@[simp] theorem State.fifoCount_tmg : (s.fifoCount l).tmg = s.tmg := rfl
@[simp] theorem State.fifoCount_cph : (s.fifoCount l).cph = s.cph := rfl
@[simp] theorem State.fifoCount_air : (s.fifoCount l).air = s.air := rfl
@[simp] theorem State.fifoCount_wmac : (s.fifoCount l).wmac = s.wmac := rfl
@[simp] theorem State.fifoCount_wb : (s.fifoCount l).wb = s.wb := rfl
@[simp] theorem State.fifoCount_fel : (s.fifoCount l).fel = s.fel := rfl
@[simp] theorem State.fifoCount_spe : (s.fifoCount l).spe = s.spe := rfl
@[simp] theorem State.fifoCount_tlm : (s.fifoCount l).tlm = s.tlm := rfl
@[simp] theorem State.fifoCount_fab : (s.fifoCount l).fab = s.fab := rfl
@[simp] theorem State.fifoCount_bnd : (s.fifoCount l).bnd = s.bnd := rfl
@[simp] theorem State.fifoCount_kck : (s.fifoCount l).kck = s.kck := rfl
@[simp] theorem State.fifoCount_tap : (s.fifoCount l).tap = s.tap := rfl
@[simp] theorem State.fifoCount_pending : (s.fifoCount l).pending = s.pending := rfl

end fifoCount

section setIr
variable (s : State) (v : BitVec 8)

@[simp] theorem State.setIr_csr : (s.setIr v).csr = s.csr := rfl
@[simp] theorem State.setIr_latch : (s.setIr v).latch = s.latch := rfl
@[simp] theorem State.setIr_rdata : (s.setIr v).rdata = s.rdata := rfl
@[simp] theorem State.setIr_mem : (s.setIr v).mem = s.mem := rfl
@[simp] theorem State.setIr_chk : (s.setIr v).chk = s.chk := rfl
@[simp] theorem State.setIr_memst : (s.setIr v).memst = s.memst := rfl
@[simp] theorem State.setIr_tmb : (s.setIr v).tmb = s.tmb := rfl
@[simp] theorem State.setIr_pace : (s.setIr v).pace = s.pace := rfl
@[simp] theorem State.setIr_sec : (s.setIr v).sec = s.sec := rfl
@[simp] theorem State.setIr_hif : (s.setIr v).hif = s.hif := rfl
@[simp] theorem State.setIr_drk : (s.setIr v).drk = s.drk := rfl
@[simp] theorem State.setIr_pwr : (s.setIr v).pwr = s.pwr := rfl
@[simp] theorem State.setIr_obs : (s.setIr v).obs = s.obs := rfl
@[simp] theorem State.setIr_eth : (s.setIr v).eth = s.eth := rfl
@[simp] theorem State.setIr_skm : (s.setIr v).skm = s.skm := rfl
@[simp] theorem State.setIr_tmg : (s.setIr v).tmg = s.tmg := rfl
@[simp] theorem State.setIr_cph : (s.setIr v).cph = s.cph := rfl
@[simp] theorem State.setIr_air : (s.setIr v).air = s.air := rfl
@[simp] theorem State.setIr_wmac : (s.setIr v).wmac = s.wmac := rfl
@[simp] theorem State.setIr_wb : (s.setIr v).wb = s.wb := rfl
@[simp] theorem State.setIr_fel : (s.setIr v).fel = s.fel := rfl
@[simp] theorem State.setIr_spe : (s.setIr v).spe = s.spe := rfl
@[simp] theorem State.setIr_tlm : (s.setIr v).tlm = s.tlm := rfl
@[simp] theorem State.setIr_fab : (s.setIr v).fab = s.fab := rfl
@[simp] theorem State.setIr_bnd : (s.setIr v).bnd = s.bnd := rfl
@[simp] theorem State.setIr_kck : (s.setIr v).kck = s.kck := rfl
@[simp] theorem State.setIr_pending : (s.setIr v).pending = s.pending := rfl

end setIr

section scan
variable (s : State) (balls shifted : Nat)

@[simp] theorem State.scan_csr : (s.scan balls shifted).csr = s.csr := rfl
@[simp] theorem State.scan_latch : (s.scan balls shifted).latch = s.latch := rfl
@[simp] theorem State.scan_rdata : (s.scan balls shifted).rdata = s.rdata := rfl
@[simp] theorem State.scan_mem : (s.scan balls shifted).mem = s.mem := rfl
@[simp] theorem State.scan_chk : (s.scan balls shifted).chk = s.chk := rfl
@[simp] theorem State.scan_memst : (s.scan balls shifted).memst = s.memst := rfl
@[simp] theorem State.scan_tmb : (s.scan balls shifted).tmb = s.tmb := rfl
@[simp] theorem State.scan_pace : (s.scan balls shifted).pace = s.pace := rfl
@[simp] theorem State.scan_sec : (s.scan balls shifted).sec = s.sec := rfl
@[simp] theorem State.scan_hif : (s.scan balls shifted).hif = s.hif := rfl
@[simp] theorem State.scan_drk : (s.scan balls shifted).drk = s.drk := rfl
@[simp] theorem State.scan_pwr : (s.scan balls shifted).pwr = s.pwr := rfl
@[simp] theorem State.scan_obs : (s.scan balls shifted).obs = s.obs := rfl
@[simp] theorem State.scan_eth : (s.scan balls shifted).eth = s.eth := rfl
@[simp] theorem State.scan_skm : (s.scan balls shifted).skm = s.skm := rfl
@[simp] theorem State.scan_tmg : (s.scan balls shifted).tmg = s.tmg := rfl
@[simp] theorem State.scan_cph : (s.scan balls shifted).cph = s.cph := rfl
@[simp] theorem State.scan_air : (s.scan balls shifted).air = s.air := rfl
@[simp] theorem State.scan_wmac : (s.scan balls shifted).wmac = s.wmac := rfl
@[simp] theorem State.scan_wb : (s.scan balls shifted).wb = s.wb := rfl
@[simp] theorem State.scan_fel : (s.scan balls shifted).fel = s.fel := rfl
@[simp] theorem State.scan_spe : (s.scan balls shifted).spe = s.spe := rfl
@[simp] theorem State.scan_tlm : (s.scan balls shifted).tlm = s.tlm := rfl
@[simp] theorem State.scan_fab : (s.scan balls shifted).fab = s.fab := rfl
@[simp] theorem State.scan_bnd : (s.scan balls shifted).bnd = s.bnd := rfl
@[simp] theorem State.scan_kck : (s.scan balls shifted).kck = s.kck := rfl
@[simp] theorem State.scan_pending : (s.scan balls shifted).pending = s.pending := rfl

end scan

section writeShared
variable (s : State) (k off : Nat) (b : Bytes)

@[simp] theorem State.writeShared_csr : (s.writeShared k off b).csr = s.csr := rfl
@[simp] theorem State.writeShared_latch : (s.writeShared k off b).latch = s.latch := rfl
@[simp] theorem State.writeShared_rdata : (s.writeShared k off b).rdata = s.rdata := rfl
@[simp] theorem State.writeShared_mem : (s.writeShared k off b).mem = s.mem := rfl
@[simp] theorem State.writeShared_chk : (s.writeShared k off b).chk = s.chk := rfl
@[simp] theorem State.writeShared_memst : (s.writeShared k off b).memst = s.memst := rfl
@[simp] theorem State.writeShared_tmb : (s.writeShared k off b).tmb = s.tmb := rfl
@[simp] theorem State.writeShared_pace : (s.writeShared k off b).pace = s.pace := rfl
@[simp] theorem State.writeShared_sec : (s.writeShared k off b).sec = s.sec := rfl
@[simp] theorem State.writeShared_hif : (s.writeShared k off b).hif = s.hif := rfl
@[simp] theorem State.writeShared_pwr : (s.writeShared k off b).pwr = s.pwr := rfl
@[simp] theorem State.writeShared_obs : (s.writeShared k off b).obs = s.obs := rfl
@[simp] theorem State.writeShared_eth : (s.writeShared k off b).eth = s.eth := rfl
@[simp] theorem State.writeShared_skm : (s.writeShared k off b).skm = s.skm := rfl
@[simp] theorem State.writeShared_tmg : (s.writeShared k off b).tmg = s.tmg := rfl
@[simp] theorem State.writeShared_cph : (s.writeShared k off b).cph = s.cph := rfl
@[simp] theorem State.writeShared_air : (s.writeShared k off b).air = s.air := rfl
@[simp] theorem State.writeShared_wmac : (s.writeShared k off b).wmac = s.wmac := rfl
@[simp] theorem State.writeShared_wb : (s.writeShared k off b).wb = s.wb := rfl
@[simp] theorem State.writeShared_fel : (s.writeShared k off b).fel = s.fel := rfl
@[simp] theorem State.writeShared_spe : (s.writeShared k off b).spe = s.spe := rfl
@[simp] theorem State.writeShared_tlm : (s.writeShared k off b).tlm = s.tlm := rfl
@[simp] theorem State.writeShared_fab : (s.writeShared k off b).fab = s.fab := rfl
@[simp] theorem State.writeShared_bnd : (s.writeShared k off b).bnd = s.bnd := rfl
@[simp] theorem State.writeShared_kck : (s.writeShared k off b).kck = s.kck := rfl
@[simp] theorem State.writeShared_tap : (s.writeShared k off b).tap = s.tap := rfl
@[simp] theorem State.writeShared_pending : (s.writeShared k off b).pending = s.pending := rfl

end writeShared

section wg
variable (s : State) (r : Reg) (v : Word) (i : List Nat)

@[simp] theorem State.wg_latch : (s.wg r v i).latch = s.latch := rfl
@[simp] theorem State.wg_rdata : (s.wg r v i).rdata = s.rdata := rfl
@[simp] theorem State.wg_mem : (s.wg r v i).mem = s.mem := rfl
@[simp] theorem State.wg_chk : (s.wg r v i).chk = s.chk := rfl
@[simp] theorem State.wg_memst : (s.wg r v i).memst = s.memst := rfl
@[simp] theorem State.wg_tmb : (s.wg r v i).tmb = s.tmb := rfl
@[simp] theorem State.wg_pace : (s.wg r v i).pace = s.pace := rfl
@[simp] theorem State.wg_sec : (s.wg r v i).sec = s.sec := rfl
@[simp] theorem State.wg_hif : (s.wg r v i).hif = s.hif := rfl
@[simp] theorem State.wg_drk : (s.wg r v i).drk = s.drk := rfl
@[simp] theorem State.wg_pwr : (s.wg r v i).pwr = s.pwr := rfl
@[simp] theorem State.wg_obs : (s.wg r v i).obs = s.obs := rfl
@[simp] theorem State.wg_eth : (s.wg r v i).eth = s.eth := rfl
@[simp] theorem State.wg_skm : (s.wg r v i).skm = s.skm := rfl
@[simp] theorem State.wg_tmg : (s.wg r v i).tmg = s.tmg := rfl
@[simp] theorem State.wg_cph : (s.wg r v i).cph = s.cph := rfl
@[simp] theorem State.wg_air : (s.wg r v i).air = s.air := rfl
@[simp] theorem State.wg_wmac : (s.wg r v i).wmac = s.wmac := rfl
@[simp] theorem State.wg_wb : (s.wg r v i).wb = s.wb := rfl
@[simp] theorem State.wg_fel : (s.wg r v i).fel = s.fel := rfl
@[simp] theorem State.wg_spe : (s.wg r v i).spe = s.spe := rfl
@[simp] theorem State.wg_tlm : (s.wg r v i).tlm = s.tlm := rfl
@[simp] theorem State.wg_fab : (s.wg r v i).fab = s.fab := rfl
@[simp] theorem State.wg_bnd : (s.wg r v i).bnd = s.bnd := rfl
@[simp] theorem State.wg_kck : (s.wg r v i).kck = s.kck := rfl
@[simp] theorem State.wg_tap : (s.wg r v i).tap = s.tap := rfl
@[simp] theorem State.wg_pending : (s.wg r v i).pending = s.pending := rfl

end wg

section setDomLeave
variable (s : State) (d : Dom) (v : Nat)

@[simp] theorem State.setDomLeave_csr : (s.setDomLeave d v).csr = s.csr := rfl
@[simp] theorem State.setDomLeave_latch : (s.setDomLeave d v).latch = s.latch := rfl
@[simp] theorem State.setDomLeave_rdata : (s.setDomLeave d v).rdata = s.rdata := rfl
@[simp] theorem State.setDomLeave_mem : (s.setDomLeave d v).mem = s.mem := rfl
@[simp] theorem State.setDomLeave_chk : (s.setDomLeave d v).chk = s.chk := rfl
@[simp] theorem State.setDomLeave_memst : (s.setDomLeave d v).memst = s.memst := rfl
@[simp] theorem State.setDomLeave_tmb : (s.setDomLeave d v).tmb = s.tmb := rfl
@[simp] theorem State.setDomLeave_pace : (s.setDomLeave d v).pace = s.pace := rfl
@[simp] theorem State.setDomLeave_sec : (s.setDomLeave d v).sec = s.sec := rfl
@[simp] theorem State.setDomLeave_hif : (s.setDomLeave d v).hif = s.hif := rfl
@[simp] theorem State.setDomLeave_drk : (s.setDomLeave d v).drk = s.drk := rfl
@[simp] theorem State.setDomLeave_obs : (s.setDomLeave d v).obs = s.obs := rfl
@[simp] theorem State.setDomLeave_eth : (s.setDomLeave d v).eth = s.eth := rfl
@[simp] theorem State.setDomLeave_skm : (s.setDomLeave d v).skm = s.skm := rfl
@[simp] theorem State.setDomLeave_tmg : (s.setDomLeave d v).tmg = s.tmg := rfl
@[simp] theorem State.setDomLeave_cph : (s.setDomLeave d v).cph = s.cph := rfl
@[simp] theorem State.setDomLeave_air : (s.setDomLeave d v).air = s.air := rfl
@[simp] theorem State.setDomLeave_wmac : (s.setDomLeave d v).wmac = s.wmac := rfl
@[simp] theorem State.setDomLeave_wb : (s.setDomLeave d v).wb = s.wb := rfl
@[simp] theorem State.setDomLeave_fel : (s.setDomLeave d v).fel = s.fel := rfl
@[simp] theorem State.setDomLeave_spe : (s.setDomLeave d v).spe = s.spe := rfl
@[simp] theorem State.setDomLeave_tlm : (s.setDomLeave d v).tlm = s.tlm := rfl
@[simp] theorem State.setDomLeave_fab : (s.setDomLeave d v).fab = s.fab := rfl
@[simp] theorem State.setDomLeave_bnd : (s.setDomLeave d v).bnd = s.bnd := rfl
@[simp] theorem State.setDomLeave_kck : (s.setDomLeave d v).kck = s.kck := rfl
@[simp] theorem State.setDomLeave_tap : (s.setDomLeave d v).tap = s.tap := rfl
@[simp] theorem State.setDomLeave_pending : (s.setDomLeave d v).pending = s.pending := rfl

end setDomLeave

section setMove
variable (s : State) (d : Dom) (m : Option Move)

@[simp] theorem State.setMove_csr : (s.setMove d m).csr = s.csr := rfl
@[simp] theorem State.setMove_latch : (s.setMove d m).latch = s.latch := rfl
@[simp] theorem State.setMove_rdata : (s.setMove d m).rdata = s.rdata := rfl
@[simp] theorem State.setMove_mem : (s.setMove d m).mem = s.mem := rfl
@[simp] theorem State.setMove_chk : (s.setMove d m).chk = s.chk := rfl
@[simp] theorem State.setMove_memst : (s.setMove d m).memst = s.memst := rfl
@[simp] theorem State.setMove_tmb : (s.setMove d m).tmb = s.tmb := rfl
@[simp] theorem State.setMove_pace : (s.setMove d m).pace = s.pace := rfl
@[simp] theorem State.setMove_sec : (s.setMove d m).sec = s.sec := rfl
@[simp] theorem State.setMove_hif : (s.setMove d m).hif = s.hif := rfl
@[simp] theorem State.setMove_drk : (s.setMove d m).drk = s.drk := rfl
@[simp] theorem State.setMove_obs : (s.setMove d m).obs = s.obs := rfl
@[simp] theorem State.setMove_eth : (s.setMove d m).eth = s.eth := rfl
@[simp] theorem State.setMove_skm : (s.setMove d m).skm = s.skm := rfl
@[simp] theorem State.setMove_tmg : (s.setMove d m).tmg = s.tmg := rfl
@[simp] theorem State.setMove_cph : (s.setMove d m).cph = s.cph := rfl
@[simp] theorem State.setMove_air : (s.setMove d m).air = s.air := rfl
@[simp] theorem State.setMove_wmac : (s.setMove d m).wmac = s.wmac := rfl
@[simp] theorem State.setMove_wb : (s.setMove d m).wb = s.wb := rfl
@[simp] theorem State.setMove_fel : (s.setMove d m).fel = s.fel := rfl
@[simp] theorem State.setMove_spe : (s.setMove d m).spe = s.spe := rfl
@[simp] theorem State.setMove_tlm : (s.setMove d m).tlm = s.tlm := rfl
@[simp] theorem State.setMove_fab : (s.setMove d m).fab = s.fab := rfl
@[simp] theorem State.setMove_bnd : (s.setMove d m).bnd = s.bnd := rfl
@[simp] theorem State.setMove_kck : (s.setMove d m).kck = s.kck := rfl
@[simp] theorem State.setMove_tap : (s.setMove d m).tap = s.tap := rfl
@[simp] theorem State.setMove_pending : (s.setMove d m).pending = s.pending := rfl

end setMove

section setByte
variable (s : State) (a : Nat) (v : Byte)

@[simp] theorem State.setByte_csr : (s.setByte a v).csr = s.csr := rfl
@[simp] theorem State.setByte_latch : (s.setByte a v).latch = s.latch := rfl
@[simp] theorem State.setByte_rdata : (s.setByte a v).rdata = s.rdata := rfl
@[simp] theorem State.setByte_chk : (s.setByte a v).chk = s.chk := rfl
@[simp] theorem State.setByte_memst : (s.setByte a v).memst = s.memst := rfl
@[simp] theorem State.setByte_tmb : (s.setByte a v).tmb = s.tmb := rfl
@[simp] theorem State.setByte_pace : (s.setByte a v).pace = s.pace := rfl
@[simp] theorem State.setByte_sec : (s.setByte a v).sec = s.sec := rfl
@[simp] theorem State.setByte_hif : (s.setByte a v).hif = s.hif := rfl
@[simp] theorem State.setByte_drk : (s.setByte a v).drk = s.drk := rfl
@[simp] theorem State.setByte_pwr : (s.setByte a v).pwr = s.pwr := rfl
@[simp] theorem State.setByte_obs : (s.setByte a v).obs = s.obs := rfl
@[simp] theorem State.setByte_eth : (s.setByte a v).eth = s.eth := rfl
@[simp] theorem State.setByte_skm : (s.setByte a v).skm = s.skm := rfl
@[simp] theorem State.setByte_tmg : (s.setByte a v).tmg = s.tmg := rfl
@[simp] theorem State.setByte_cph : (s.setByte a v).cph = s.cph := rfl
@[simp] theorem State.setByte_air : (s.setByte a v).air = s.air := rfl
@[simp] theorem State.setByte_wmac : (s.setByte a v).wmac = s.wmac := rfl
@[simp] theorem State.setByte_wb : (s.setByte a v).wb = s.wb := rfl
@[simp] theorem State.setByte_fel : (s.setByte a v).fel = s.fel := rfl
@[simp] theorem State.setByte_spe : (s.setByte a v).spe = s.spe := rfl
@[simp] theorem State.setByte_tlm : (s.setByte a v).tlm = s.tlm := rfl
@[simp] theorem State.setByte_fab : (s.setByte a v).fab = s.fab := rfl
@[simp] theorem State.setByte_bnd : (s.setByte a v).bnd = s.bnd := rfl
@[simp] theorem State.setByte_kck : (s.setByte a v).kck = s.kck := rfl
@[simp] theorem State.setByte_tap : (s.setByte a v).tap = s.tap := rfl
@[simp] theorem State.setByte_pending : (s.setByte a v).pending = s.pending := rfl

end setByte

section setDiff
variable (s : State) (w : Nat) (e : BitVec 32)

@[simp] theorem State.setDiff_csr : (s.setDiff w e).csr = s.csr := rfl
@[simp] theorem State.setDiff_latch : (s.setDiff w e).latch = s.latch := rfl
@[simp] theorem State.setDiff_rdata : (s.setDiff w e).rdata = s.rdata := rfl
@[simp] theorem State.setDiff_mem : (s.setDiff w e).mem = s.mem := rfl
@[simp] theorem State.setDiff_memst : (s.setDiff w e).memst = s.memst := rfl
@[simp] theorem State.setDiff_tmb : (s.setDiff w e).tmb = s.tmb := rfl
@[simp] theorem State.setDiff_pace : (s.setDiff w e).pace = s.pace := rfl
@[simp] theorem State.setDiff_sec : (s.setDiff w e).sec = s.sec := rfl
@[simp] theorem State.setDiff_hif : (s.setDiff w e).hif = s.hif := rfl
@[simp] theorem State.setDiff_drk : (s.setDiff w e).drk = s.drk := rfl
@[simp] theorem State.setDiff_pwr : (s.setDiff w e).pwr = s.pwr := rfl
@[simp] theorem State.setDiff_obs : (s.setDiff w e).obs = s.obs := rfl
@[simp] theorem State.setDiff_eth : (s.setDiff w e).eth = s.eth := rfl
@[simp] theorem State.setDiff_skm : (s.setDiff w e).skm = s.skm := rfl
@[simp] theorem State.setDiff_tmg : (s.setDiff w e).tmg = s.tmg := rfl
@[simp] theorem State.setDiff_cph : (s.setDiff w e).cph = s.cph := rfl
@[simp] theorem State.setDiff_air : (s.setDiff w e).air = s.air := rfl
@[simp] theorem State.setDiff_wmac : (s.setDiff w e).wmac = s.wmac := rfl
@[simp] theorem State.setDiff_wb : (s.setDiff w e).wb = s.wb := rfl
@[simp] theorem State.setDiff_fel : (s.setDiff w e).fel = s.fel := rfl
@[simp] theorem State.setDiff_spe : (s.setDiff w e).spe = s.spe := rfl
@[simp] theorem State.setDiff_tlm : (s.setDiff w e).tlm = s.tlm := rfl
@[simp] theorem State.setDiff_fab : (s.setDiff w e).fab = s.fab := rfl
@[simp] theorem State.setDiff_bnd : (s.setDiff w e).bnd = s.bnd := rfl
@[simp] theorem State.setDiff_kck : (s.setDiff w e).kck = s.kck := rfl
@[simp] theorem State.setDiff_tap : (s.setDiff w e).tap = s.tap := rfl
@[simp] theorem State.setDiff_pending : (s.setDiff w e).pending = s.pending := rfl

end setDiff

section setRep
variable (s : State) (r : Replay)

@[simp] theorem State.setRep_csr : (s.setRep r).csr = s.csr := rfl
@[simp] theorem State.setRep_latch : (s.setRep r).latch = s.latch := rfl
@[simp] theorem State.setRep_rdata : (s.setRep r).rdata = s.rdata := rfl
@[simp] theorem State.setRep_mem : (s.setRep r).mem = s.mem := rfl
@[simp] theorem State.setRep_chk : (s.setRep r).chk = s.chk := rfl
@[simp] theorem State.setRep_memst : (s.setRep r).memst = s.memst := rfl
@[simp] theorem State.setRep_tmb : (s.setRep r).tmb = s.tmb := rfl
@[simp] theorem State.setRep_pace : (s.setRep r).pace = s.pace := rfl
@[simp] theorem State.setRep_sec : (s.setRep r).sec = s.sec := rfl
@[simp] theorem State.setRep_hif : (s.setRep r).hif = s.hif := rfl
@[simp] theorem State.setRep_drk : (s.setRep r).drk = s.drk := rfl
@[simp] theorem State.setRep_pwr : (s.setRep r).pwr = s.pwr := rfl
@[simp] theorem State.setRep_eth : (s.setRep r).eth = s.eth := rfl
@[simp] theorem State.setRep_skm : (s.setRep r).skm = s.skm := rfl
@[simp] theorem State.setRep_tmg : (s.setRep r).tmg = s.tmg := rfl
@[simp] theorem State.setRep_cph : (s.setRep r).cph = s.cph := rfl
@[simp] theorem State.setRep_air : (s.setRep r).air = s.air := rfl
@[simp] theorem State.setRep_wmac : (s.setRep r).wmac = s.wmac := rfl
@[simp] theorem State.setRep_wb : (s.setRep r).wb = s.wb := rfl
@[simp] theorem State.setRep_fel : (s.setRep r).fel = s.fel := rfl
@[simp] theorem State.setRep_spe : (s.setRep r).spe = s.spe := rfl
@[simp] theorem State.setRep_tlm : (s.setRep r).tlm = s.tlm := rfl
@[simp] theorem State.setRep_fab : (s.setRep r).fab = s.fab := rfl
@[simp] theorem State.setRep_bnd : (s.setRep r).bnd = s.bnd := rfl
@[simp] theorem State.setRep_kck : (s.setRep r).kck = s.kck := rfl
@[simp] theorem State.setRep_tap : (s.setRep r).tap = s.tap := rfl
@[simp] theorem State.setRep_pending : (s.setRep r).pending = s.pending := rfl
@[simp] theorem State.setRep_rep : (s.setRep r).obs.rep = r := rfl

end setRep

section wipe
variable (s : State)

@[simp] theorem State.wipe_csr : (s.wipe).csr = s.csr := rfl
@[simp] theorem State.wipe_latch : (s.wipe).latch = s.latch := rfl
@[simp] theorem State.wipe_rdata : (s.wipe).rdata = s.rdata := rfl
@[simp] theorem State.wipe_memst : (s.wipe).memst = s.memst := rfl
@[simp] theorem State.wipe_tmb : (s.wipe).tmb = s.tmb := rfl
@[simp] theorem State.wipe_pace : (s.wipe).pace = s.pace := rfl
@[simp] theorem State.wipe_sec : (s.wipe).sec = s.sec := rfl
@[simp] theorem State.wipe_hif : (s.wipe).hif = s.hif := rfl
@[simp] theorem State.wipe_drk : (s.wipe).drk = s.drk := rfl
@[simp] theorem State.wipe_pwr : (s.wipe).pwr = s.pwr := rfl
@[simp] theorem State.wipe_obs : (s.wipe).obs = s.obs := rfl
@[simp] theorem State.wipe_eth : (s.wipe).eth = s.eth := rfl
@[simp] theorem State.wipe_skm : (s.wipe).skm = s.skm := rfl
@[simp] theorem State.wipe_tmg : (s.wipe).tmg = s.tmg := rfl
@[simp] theorem State.wipe_cph : (s.wipe).cph = s.cph := rfl
@[simp] theorem State.wipe_air : (s.wipe).air = s.air := rfl
@[simp] theorem State.wipe_wmac : (s.wipe).wmac = s.wmac := rfl
@[simp] theorem State.wipe_wb : (s.wipe).wb = s.wb := rfl
@[simp] theorem State.wipe_fel : (s.wipe).fel = s.fel := rfl
@[simp] theorem State.wipe_spe : (s.wipe).spe = s.spe := rfl
@[simp] theorem State.wipe_tlm : (s.wipe).tlm = s.tlm := rfl
@[simp] theorem State.wipe_fab : (s.wipe).fab = s.fab := rfl
@[simp] theorem State.wipe_bnd : (s.wipe).bnd = s.bnd := rfl
@[simp] theorem State.wipe_kck : (s.wipe).kck = s.kck := rfl
@[simp] theorem State.wipe_tap : (s.wipe).tap = s.tap := rfl
@[simp] theorem State.wipe_pending : (s.wipe).pending = s.pending := rfl

end wipe

section returnWhere
variable (s : State) (p : Leave → Bool)

@[simp] theorem State.returnWhere_csr : (s.returnWhere p).csr = s.csr := rfl
@[simp] theorem State.returnWhere_latch : (s.returnWhere p).latch = s.latch := rfl
@[simp] theorem State.returnWhere_rdata : (s.returnWhere p).rdata = s.rdata := rfl
@[simp] theorem State.returnWhere_mem : (s.returnWhere p).mem = s.mem := rfl
@[simp] theorem State.returnWhere_chk : (s.returnWhere p).chk = s.chk := rfl
@[simp] theorem State.returnWhere_memst : (s.returnWhere p).memst = s.memst := rfl
@[simp] theorem State.returnWhere_tmb : (s.returnWhere p).tmb = s.tmb := rfl
@[simp] theorem State.returnWhere_pace : (s.returnWhere p).pace = s.pace := rfl
@[simp] theorem State.returnWhere_sec : (s.returnWhere p).sec = s.sec := rfl
@[simp] theorem State.returnWhere_hif : (s.returnWhere p).hif = s.hif := rfl
@[simp] theorem State.returnWhere_drk : (s.returnWhere p).drk = s.drk := rfl
@[simp] theorem State.returnWhere_obs : (s.returnWhere p).obs = s.obs := rfl
@[simp] theorem State.returnWhere_eth : (s.returnWhere p).eth = s.eth := rfl
@[simp] theorem State.returnWhere_skm : (s.returnWhere p).skm = s.skm := rfl
@[simp] theorem State.returnWhere_tmg : (s.returnWhere p).tmg = s.tmg := rfl
@[simp] theorem State.returnWhere_cph : (s.returnWhere p).cph = s.cph := rfl
@[simp] theorem State.returnWhere_air : (s.returnWhere p).air = s.air := rfl
@[simp] theorem State.returnWhere_wmac : (s.returnWhere p).wmac = s.wmac := rfl
@[simp] theorem State.returnWhere_wb : (s.returnWhere p).wb = s.wb := rfl
@[simp] theorem State.returnWhere_fel : (s.returnWhere p).fel = s.fel := rfl
@[simp] theorem State.returnWhere_spe : (s.returnWhere p).spe = s.spe := rfl
@[simp] theorem State.returnWhere_tlm : (s.returnWhere p).tlm = s.tlm := rfl
@[simp] theorem State.returnWhere_fab : (s.returnWhere p).fab = s.fab := rfl
@[simp] theorem State.returnWhere_bnd : (s.returnWhere p).bnd = s.bnd := rfl
@[simp] theorem State.returnWhere_kck : (s.returnWhere p).kck = s.kck := rfl
@[simp] theorem State.returnWhere_tap : (s.returnWhere p).tap = s.tap := rfl
@[simp] theorem State.returnWhere_pending : (s.returnWhere p).pending = s.pending := rfl

end returnWhere

section withdraw
variable (s : State) (p : Leave → Bool)

@[simp] theorem State.withdraw_csr : (s.withdraw p).csr = s.csr := rfl
@[simp] theorem State.withdraw_latch : (s.withdraw p).latch = s.latch := rfl
@[simp] theorem State.withdraw_rdata : (s.withdraw p).rdata = s.rdata := rfl
@[simp] theorem State.withdraw_mem : (s.withdraw p).mem = s.mem := rfl
@[simp] theorem State.withdraw_chk : (s.withdraw p).chk = s.chk := rfl
@[simp] theorem State.withdraw_memst : (s.withdraw p).memst = s.memst := rfl
@[simp] theorem State.withdraw_tmb : (s.withdraw p).tmb = s.tmb := rfl
@[simp] theorem State.withdraw_pace : (s.withdraw p).pace = s.pace := rfl
@[simp] theorem State.withdraw_sec : (s.withdraw p).sec = s.sec := rfl
@[simp] theorem State.withdraw_hif : (s.withdraw p).hif = s.hif := rfl
@[simp] theorem State.withdraw_drk : (s.withdraw p).drk = s.drk := rfl
@[simp] theorem State.withdraw_obs : (s.withdraw p).obs = s.obs := rfl
@[simp] theorem State.withdraw_eth : (s.withdraw p).eth = s.eth := rfl
@[simp] theorem State.withdraw_skm : (s.withdraw p).skm = s.skm := rfl
@[simp] theorem State.withdraw_tmg : (s.withdraw p).tmg = s.tmg := rfl
@[simp] theorem State.withdraw_cph : (s.withdraw p).cph = s.cph := rfl
@[simp] theorem State.withdraw_air : (s.withdraw p).air = s.air := rfl
@[simp] theorem State.withdraw_wmac : (s.withdraw p).wmac = s.wmac := rfl
@[simp] theorem State.withdraw_wb : (s.withdraw p).wb = s.wb := rfl
@[simp] theorem State.withdraw_fel : (s.withdraw p).fel = s.fel := rfl
@[simp] theorem State.withdraw_spe : (s.withdraw p).spe = s.spe := rfl
@[simp] theorem State.withdraw_tlm : (s.withdraw p).tlm = s.tlm := rfl
@[simp] theorem State.withdraw_fab : (s.withdraw p).fab = s.fab := rfl
@[simp] theorem State.withdraw_bnd : (s.withdraw p).bnd = s.bnd := rfl
@[simp] theorem State.withdraw_kck : (s.withdraw p).kck = s.kck := rfl
@[simp] theorem State.withdraw_tap : (s.withdraw p).tap = s.tap := rfl
@[simp] theorem State.withdraw_pending : (s.withdraw p).pending = s.pending := rfl

end withdraw

section setPort
variable (s : State) (p : Nat) (x : EthPort)

@[simp] theorem State.setPort_csr : (s.setPort p x).csr = s.csr := rfl
@[simp] theorem State.setPort_latch : (s.setPort p x).latch = s.latch := rfl
@[simp] theorem State.setPort_rdata : (s.setPort p x).rdata = s.rdata := rfl
@[simp] theorem State.setPort_mem : (s.setPort p x).mem = s.mem := rfl
@[simp] theorem State.setPort_chk : (s.setPort p x).chk = s.chk := rfl
@[simp] theorem State.setPort_memst : (s.setPort p x).memst = s.memst := rfl
@[simp] theorem State.setPort_tmb : (s.setPort p x).tmb = s.tmb := rfl
@[simp] theorem State.setPort_pace : (s.setPort p x).pace = s.pace := rfl
@[simp] theorem State.setPort_sec : (s.setPort p x).sec = s.sec := rfl
@[simp] theorem State.setPort_hif : (s.setPort p x).hif = s.hif := rfl
@[simp] theorem State.setPort_drk : (s.setPort p x).drk = s.drk := rfl
@[simp] theorem State.setPort_pwr : (s.setPort p x).pwr = s.pwr := rfl
@[simp] theorem State.setPort_obs : (s.setPort p x).obs = s.obs := rfl
@[simp] theorem State.setPort_skm : (s.setPort p x).skm = s.skm := rfl
@[simp] theorem State.setPort_tmg : (s.setPort p x).tmg = s.tmg := rfl
@[simp] theorem State.setPort_cph : (s.setPort p x).cph = s.cph := rfl
@[simp] theorem State.setPort_air : (s.setPort p x).air = s.air := rfl
@[simp] theorem State.setPort_wmac : (s.setPort p x).wmac = s.wmac := rfl
@[simp] theorem State.setPort_wb : (s.setPort p x).wb = s.wb := rfl
@[simp] theorem State.setPort_fel : (s.setPort p x).fel = s.fel := rfl
@[simp] theorem State.setPort_spe : (s.setPort p x).spe = s.spe := rfl
@[simp] theorem State.setPort_tlm : (s.setPort p x).tlm = s.tlm := rfl
@[simp] theorem State.setPort_fab : (s.setPort p x).fab = s.fab := rfl
@[simp] theorem State.setPort_bnd : (s.setPort p x).bnd = s.bnd := rfl
@[simp] theorem State.setPort_kck : (s.setPort p x).kck = s.kck := rfl
@[simp] theorem State.setPort_tap : (s.setPort p x).tap = s.tap := rfl
@[simp] theorem State.setPort_pending : (s.setPort p x).pending = s.pending := rfl

end setPort

section setSec
variable (s : State) (x : Sec)

@[simp] theorem State.setSec_csr : (s.setSec x).csr = s.csr := rfl
@[simp] theorem State.setSec_latch : (s.setSec x).latch = s.latch := rfl
@[simp] theorem State.setSec_rdata : (s.setSec x).rdata = s.rdata := rfl
@[simp] theorem State.setSec_mem : (s.setSec x).mem = s.mem := rfl
@[simp] theorem State.setSec_chk : (s.setSec x).chk = s.chk := rfl
@[simp] theorem State.setSec_memst : (s.setSec x).memst = s.memst := rfl
@[simp] theorem State.setSec_tmb : (s.setSec x).tmb = s.tmb := rfl
@[simp] theorem State.setSec_pace : (s.setSec x).pace = s.pace := rfl
@[simp] theorem State.setSec_hif : (s.setSec x).hif = s.hif := rfl
@[simp] theorem State.setSec_drk : (s.setSec x).drk = s.drk := rfl
@[simp] theorem State.setSec_pwr : (s.setSec x).pwr = s.pwr := rfl
@[simp] theorem State.setSec_obs : (s.setSec x).obs = s.obs := rfl
@[simp] theorem State.setSec_eth : (s.setSec x).eth = s.eth := rfl
@[simp] theorem State.setSec_skm : (s.setSec x).skm = s.skm := rfl
@[simp] theorem State.setSec_tmg : (s.setSec x).tmg = s.tmg := rfl
@[simp] theorem State.setSec_cph : (s.setSec x).cph = s.cph := rfl
@[simp] theorem State.setSec_air : (s.setSec x).air = s.air := rfl
@[simp] theorem State.setSec_wmac : (s.setSec x).wmac = s.wmac := rfl
@[simp] theorem State.setSec_wb : (s.setSec x).wb = s.wb := rfl
@[simp] theorem State.setSec_fel : (s.setSec x).fel = s.fel := rfl
@[simp] theorem State.setSec_spe : (s.setSec x).spe = s.spe := rfl
@[simp] theorem State.setSec_tlm : (s.setSec x).tlm = s.tlm := rfl
@[simp] theorem State.setSec_fab : (s.setSec x).fab = s.fab := rfl
@[simp] theorem State.setSec_bnd : (s.setSec x).bnd = s.bnd := rfl
@[simp] theorem State.setSec_kck : (s.setSec x).kck = s.kck := rfl
@[simp] theorem State.setSec_tap : (s.setSec x).tap = s.tap := rfl
@[simp] theorem State.setSec_pending : (s.setSec x).pending = s.pending := rfl
@[simp] theorem State.setSec_sec : (s.setSec x).sec = x := rfl

end setSec

section stepTime
variable (s : State) (d : Int)

@[simp] theorem State.stepTime_csr : (s.stepTime d).csr = s.csr := rfl
@[simp] theorem State.stepTime_latch : (s.stepTime d).latch = s.latch := rfl
@[simp] theorem State.stepTime_rdata : (s.stepTime d).rdata = s.rdata := rfl
@[simp] theorem State.stepTime_mem : (s.stepTime d).mem = s.mem := rfl
@[simp] theorem State.stepTime_chk : (s.stepTime d).chk = s.chk := rfl
@[simp] theorem State.stepTime_memst : (s.stepTime d).memst = s.memst := rfl
@[simp] theorem State.stepTime_pace : (s.stepTime d).pace = s.pace := rfl
@[simp] theorem State.stepTime_sec : (s.stepTime d).sec = s.sec := rfl
@[simp] theorem State.stepTime_hif : (s.stepTime d).hif = s.hif := rfl
@[simp] theorem State.stepTime_drk : (s.stepTime d).drk = s.drk := rfl
@[simp] theorem State.stepTime_pwr : (s.stepTime d).pwr = s.pwr := rfl
@[simp] theorem State.stepTime_obs : (s.stepTime d).obs = s.obs := rfl
@[simp] theorem State.stepTime_eth : (s.stepTime d).eth = s.eth := rfl
@[simp] theorem State.stepTime_skm : (s.stepTime d).skm = s.skm := rfl
@[simp] theorem State.stepTime_tmg : (s.stepTime d).tmg = s.tmg := rfl
@[simp] theorem State.stepTime_cph : (s.stepTime d).cph = s.cph := rfl
@[simp] theorem State.stepTime_air : (s.stepTime d).air = s.air := rfl
@[simp] theorem State.stepTime_wmac : (s.stepTime d).wmac = s.wmac := rfl
@[simp] theorem State.stepTime_wb : (s.stepTime d).wb = s.wb := rfl
@[simp] theorem State.stepTime_fel : (s.stepTime d).fel = s.fel := rfl
@[simp] theorem State.stepTime_spe : (s.stepTime d).spe = s.spe := rfl
@[simp] theorem State.stepTime_tlm : (s.stepTime d).tlm = s.tlm := rfl
@[simp] theorem State.stepTime_fab : (s.stepTime d).fab = s.fab := rfl
@[simp] theorem State.stepTime_bnd : (s.stepTime d).bnd = s.bnd := rfl
@[simp] theorem State.stepTime_kck : (s.stepTime d).kck = s.kck := rfl
@[simp] theorem State.stepTime_tap : (s.stepTime d).tap = s.tap := rfl
@[simp] theorem State.stepTime_pending : (s.stepTime d).pending = s.pending := rfl

end stepTime

section latchFrac
variable (s : State) (k : Nat)

@[simp] theorem State.latchFrac_csr : (s.latchFrac k).csr = s.csr := rfl
@[simp] theorem State.latchFrac_latch : (s.latchFrac k).latch = s.latch := rfl
@[simp] theorem State.latchFrac_rdata : (s.latchFrac k).rdata = s.rdata := rfl
@[simp] theorem State.latchFrac_mem : (s.latchFrac k).mem = s.mem := rfl
@[simp] theorem State.latchFrac_chk : (s.latchFrac k).chk = s.chk := rfl
@[simp] theorem State.latchFrac_memst : (s.latchFrac k).memst = s.memst := rfl
@[simp] theorem State.latchFrac_pace : (s.latchFrac k).pace = s.pace := rfl
@[simp] theorem State.latchFrac_sec : (s.latchFrac k).sec = s.sec := rfl
@[simp] theorem State.latchFrac_hif : (s.latchFrac k).hif = s.hif := rfl
@[simp] theorem State.latchFrac_drk : (s.latchFrac k).drk = s.drk := rfl
@[simp] theorem State.latchFrac_pwr : (s.latchFrac k).pwr = s.pwr := rfl
@[simp] theorem State.latchFrac_obs : (s.latchFrac k).obs = s.obs := rfl
@[simp] theorem State.latchFrac_eth : (s.latchFrac k).eth = s.eth := rfl
@[simp] theorem State.latchFrac_skm : (s.latchFrac k).skm = s.skm := rfl
@[simp] theorem State.latchFrac_tmg : (s.latchFrac k).tmg = s.tmg := rfl
@[simp] theorem State.latchFrac_cph : (s.latchFrac k).cph = s.cph := rfl
@[simp] theorem State.latchFrac_air : (s.latchFrac k).air = s.air := rfl
@[simp] theorem State.latchFrac_wmac : (s.latchFrac k).wmac = s.wmac := rfl
@[simp] theorem State.latchFrac_wb : (s.latchFrac k).wb = s.wb := rfl
@[simp] theorem State.latchFrac_fel : (s.latchFrac k).fel = s.fel := rfl
@[simp] theorem State.latchFrac_spe : (s.latchFrac k).spe = s.spe := rfl
@[simp] theorem State.latchFrac_tlm : (s.latchFrac k).tlm = s.tlm := rfl
@[simp] theorem State.latchFrac_fab : (s.latchFrac k).fab = s.fab := rfl
@[simp] theorem State.latchFrac_bnd : (s.latchFrac k).bnd = s.bnd := rfl
@[simp] theorem State.latchFrac_kck : (s.latchFrac k).kck = s.kck := rfl
@[simp] theorem State.latchFrac_tap : (s.latchFrac k).tap = s.tap := rfl
@[simp] theorem State.latchFrac_pending : (s.latchFrac k).pending = s.pending := rfl

end latchFrac

section setTlm
variable (s : State) (x : Tlm)

@[simp] theorem State.setTlm_csr : (s.setTlm x).csr = s.csr := rfl
@[simp] theorem State.setTlm_latch : (s.setTlm x).latch = s.latch := rfl
@[simp] theorem State.setTlm_rdata : (s.setTlm x).rdata = s.rdata := rfl
@[simp] theorem State.setTlm_mem : (s.setTlm x).mem = s.mem := rfl
@[simp] theorem State.setTlm_chk : (s.setTlm x).chk = s.chk := rfl
@[simp] theorem State.setTlm_memst : (s.setTlm x).memst = s.memst := rfl
@[simp] theorem State.setTlm_tmb : (s.setTlm x).tmb = s.tmb := rfl
@[simp] theorem State.setTlm_pace : (s.setTlm x).pace = s.pace := rfl
@[simp] theorem State.setTlm_sec : (s.setTlm x).sec = s.sec := rfl
@[simp] theorem State.setTlm_hif : (s.setTlm x).hif = s.hif := rfl
@[simp] theorem State.setTlm_drk : (s.setTlm x).drk = s.drk := rfl
@[simp] theorem State.setTlm_pwr : (s.setTlm x).pwr = s.pwr := rfl
@[simp] theorem State.setTlm_obs : (s.setTlm x).obs = s.obs := rfl
@[simp] theorem State.setTlm_eth : (s.setTlm x).eth = s.eth := rfl
@[simp] theorem State.setTlm_skm : (s.setTlm x).skm = s.skm := rfl
@[simp] theorem State.setTlm_tmg : (s.setTlm x).tmg = s.tmg := rfl
@[simp] theorem State.setTlm_cph : (s.setTlm x).cph = s.cph := rfl
@[simp] theorem State.setTlm_air : (s.setTlm x).air = s.air := rfl
@[simp] theorem State.setTlm_wmac : (s.setTlm x).wmac = s.wmac := rfl
@[simp] theorem State.setTlm_wb : (s.setTlm x).wb = s.wb := rfl
@[simp] theorem State.setTlm_fel : (s.setTlm x).fel = s.fel := rfl
@[simp] theorem State.setTlm_spe : (s.setTlm x).spe = s.spe := rfl
@[simp] theorem State.setTlm_fab : (s.setTlm x).fab = s.fab := rfl
@[simp] theorem State.setTlm_bnd : (s.setTlm x).bnd = s.bnd := rfl
@[simp] theorem State.setTlm_kck : (s.setTlm x).kck = s.kck := rfl
@[simp] theorem State.setTlm_tap : (s.setTlm x).tap = s.tap := rfl
@[simp] theorem State.setTlm_pending : (s.setTlm x).pending = s.pending := rfl
@[simp] theorem State.setTlm_tlm : (s.setTlm x).tlm = x := rfl

end setTlm

section tlmPlace
variable (s : State) (b : TlmBurst)

@[simp] theorem State.tlmPlace_csr : (s.tlmPlace b).csr = s.csr := rfl
@[simp] theorem State.tlmPlace_latch : (s.tlmPlace b).latch = s.latch := rfl
@[simp] theorem State.tlmPlace_rdata : (s.tlmPlace b).rdata = s.rdata := rfl
@[simp] theorem State.tlmPlace_mem : (s.tlmPlace b).mem = s.mem := rfl
@[simp] theorem State.tlmPlace_chk : (s.tlmPlace b).chk = s.chk := rfl
@[simp] theorem State.tlmPlace_memst : (s.tlmPlace b).memst = s.memst := rfl
@[simp] theorem State.tlmPlace_tmb : (s.tlmPlace b).tmb = s.tmb := rfl
@[simp] theorem State.tlmPlace_pace : (s.tlmPlace b).pace = s.pace := rfl
@[simp] theorem State.tlmPlace_sec : (s.tlmPlace b).sec = s.sec := rfl
@[simp] theorem State.tlmPlace_hif : (s.tlmPlace b).hif = s.hif := rfl
@[simp] theorem State.tlmPlace_drk : (s.tlmPlace b).drk = s.drk := rfl
@[simp] theorem State.tlmPlace_pwr : (s.tlmPlace b).pwr = s.pwr := rfl
@[simp] theorem State.tlmPlace_obs : (s.tlmPlace b).obs = s.obs := rfl
@[simp] theorem State.tlmPlace_eth : (s.tlmPlace b).eth = s.eth := rfl
@[simp] theorem State.tlmPlace_skm : (s.tlmPlace b).skm = s.skm := rfl
@[simp] theorem State.tlmPlace_tmg : (s.tlmPlace b).tmg = s.tmg := rfl
@[simp] theorem State.tlmPlace_cph : (s.tlmPlace b).cph = s.cph := rfl
@[simp] theorem State.tlmPlace_air : (s.tlmPlace b).air = s.air := rfl
@[simp] theorem State.tlmPlace_wmac : (s.tlmPlace b).wmac = s.wmac := rfl
@[simp] theorem State.tlmPlace_wb : (s.tlmPlace b).wb = s.wb := rfl
@[simp] theorem State.tlmPlace_fel : (s.tlmPlace b).fel = s.fel := rfl
@[simp] theorem State.tlmPlace_spe : (s.tlmPlace b).spe = s.spe := rfl
@[simp] theorem State.tlmPlace_fab : (s.tlmPlace b).fab = s.fab := rfl
@[simp] theorem State.tlmPlace_bnd : (s.tlmPlace b).bnd = s.bnd := rfl
@[simp] theorem State.tlmPlace_kck : (s.tlmPlace b).kck = s.kck := rfl
@[simp] theorem State.tlmPlace_tap : (s.tlmPlace b).tap = s.tap := rfl
@[simp] theorem State.tlmPlace_pending : (s.tlmPlace b).pending = s.pending := rfl

end tlmPlace

section tlmCut
variable (s : State)

@[simp] theorem State.tlmCut_csr : (s.tlmCut).csr = s.csr := rfl
@[simp] theorem State.tlmCut_latch : (s.tlmCut).latch = s.latch := rfl
@[simp] theorem State.tlmCut_rdata : (s.tlmCut).rdata = s.rdata := rfl
@[simp] theorem State.tlmCut_mem : (s.tlmCut).mem = s.mem := rfl
@[simp] theorem State.tlmCut_chk : (s.tlmCut).chk = s.chk := rfl
@[simp] theorem State.tlmCut_memst : (s.tlmCut).memst = s.memst := rfl
@[simp] theorem State.tlmCut_tmb : (s.tlmCut).tmb = s.tmb := rfl
@[simp] theorem State.tlmCut_pace : (s.tlmCut).pace = s.pace := rfl
@[simp] theorem State.tlmCut_sec : (s.tlmCut).sec = s.sec := rfl
@[simp] theorem State.tlmCut_hif : (s.tlmCut).hif = s.hif := rfl
@[simp] theorem State.tlmCut_drk : (s.tlmCut).drk = s.drk := rfl
@[simp] theorem State.tlmCut_pwr : (s.tlmCut).pwr = s.pwr := rfl
@[simp] theorem State.tlmCut_obs : (s.tlmCut).obs = s.obs := rfl
@[simp] theorem State.tlmCut_eth : (s.tlmCut).eth = s.eth := rfl
@[simp] theorem State.tlmCut_skm : (s.tlmCut).skm = s.skm := rfl
@[simp] theorem State.tlmCut_tmg : (s.tlmCut).tmg = s.tmg := rfl
@[simp] theorem State.tlmCut_cph : (s.tlmCut).cph = s.cph := rfl
@[simp] theorem State.tlmCut_air : (s.tlmCut).air = s.air := rfl
@[simp] theorem State.tlmCut_wmac : (s.tlmCut).wmac = s.wmac := rfl
@[simp] theorem State.tlmCut_wb : (s.tlmCut).wb = s.wb := rfl
@[simp] theorem State.tlmCut_fel : (s.tlmCut).fel = s.fel := rfl
@[simp] theorem State.tlmCut_spe : (s.tlmCut).spe = s.spe := rfl
@[simp] theorem State.tlmCut_fab : (s.tlmCut).fab = s.fab := rfl
@[simp] theorem State.tlmCut_bnd : (s.tlmCut).bnd = s.bnd := rfl
@[simp] theorem State.tlmCut_kck : (s.tlmCut).kck = s.kck := rfl
@[simp] theorem State.tlmCut_tap : (s.tlmCut).tap = s.tap := rfl
@[simp] theorem State.tlmCut_pending : (s.tlmCut).pending = s.pending := rfl

end tlmCut

section setSp
variable (s : State) (k : Nat) (x : TmgSp)

@[simp] theorem State.setSp_csr : (s.setSp k x).csr = s.csr := rfl
@[simp] theorem State.setSp_latch : (s.setSp k x).latch = s.latch := rfl
@[simp] theorem State.setSp_rdata : (s.setSp k x).rdata = s.rdata := rfl
@[simp] theorem State.setSp_mem : (s.setSp k x).mem = s.mem := rfl
@[simp] theorem State.setSp_chk : (s.setSp k x).chk = s.chk := rfl
@[simp] theorem State.setSp_memst : (s.setSp k x).memst = s.memst := rfl
@[simp] theorem State.setSp_tmb : (s.setSp k x).tmb = s.tmb := rfl
@[simp] theorem State.setSp_pace : (s.setSp k x).pace = s.pace := rfl
@[simp] theorem State.setSp_sec : (s.setSp k x).sec = s.sec := rfl
@[simp] theorem State.setSp_hif : (s.setSp k x).hif = s.hif := rfl
@[simp] theorem State.setSp_drk : (s.setSp k x).drk = s.drk := rfl
@[simp] theorem State.setSp_pwr : (s.setSp k x).pwr = s.pwr := rfl
@[simp] theorem State.setSp_obs : (s.setSp k x).obs = s.obs := rfl
@[simp] theorem State.setSp_eth : (s.setSp k x).eth = s.eth := rfl
@[simp] theorem State.setSp_skm : (s.setSp k x).skm = s.skm := rfl
@[simp] theorem State.setSp_cph : (s.setSp k x).cph = s.cph := rfl
@[simp] theorem State.setSp_air : (s.setSp k x).air = s.air := rfl
@[simp] theorem State.setSp_wmac : (s.setSp k x).wmac = s.wmac := rfl
@[simp] theorem State.setSp_wb : (s.setSp k x).wb = s.wb := rfl
@[simp] theorem State.setSp_fel : (s.setSp k x).fel = s.fel := rfl
@[simp] theorem State.setSp_spe : (s.setSp k x).spe = s.spe := rfl
@[simp] theorem State.setSp_tlm : (s.setSp k x).tlm = s.tlm := rfl
@[simp] theorem State.setSp_fab : (s.setSp k x).fab = s.fab := rfl
@[simp] theorem State.setSp_bnd : (s.setSp k x).bnd = s.bnd := rfl
@[simp] theorem State.setSp_kck : (s.setSp k x).kck = s.kck := rfl
@[simp] theorem State.setSp_tap : (s.setSp k x).tap = s.tap := rfl
@[simp] theorem State.setSp_pending : (s.setSp k x).pending = s.pending := rfl

end setSp

section setPol
variable (s : State) (i : Nat) (x : TmgPol)

@[simp] theorem State.setPol_csr : (s.setPol i x).csr = s.csr := rfl
@[simp] theorem State.setPol_latch : (s.setPol i x).latch = s.latch := rfl
@[simp] theorem State.setPol_rdata : (s.setPol i x).rdata = s.rdata := rfl
@[simp] theorem State.setPol_mem : (s.setPol i x).mem = s.mem := rfl
@[simp] theorem State.setPol_chk : (s.setPol i x).chk = s.chk := rfl
@[simp] theorem State.setPol_memst : (s.setPol i x).memst = s.memst := rfl
@[simp] theorem State.setPol_tmb : (s.setPol i x).tmb = s.tmb := rfl
@[simp] theorem State.setPol_pace : (s.setPol i x).pace = s.pace := rfl
@[simp] theorem State.setPol_sec : (s.setPol i x).sec = s.sec := rfl
@[simp] theorem State.setPol_hif : (s.setPol i x).hif = s.hif := rfl
@[simp] theorem State.setPol_drk : (s.setPol i x).drk = s.drk := rfl
@[simp] theorem State.setPol_pwr : (s.setPol i x).pwr = s.pwr := rfl
@[simp] theorem State.setPol_obs : (s.setPol i x).obs = s.obs := rfl
@[simp] theorem State.setPol_eth : (s.setPol i x).eth = s.eth := rfl
@[simp] theorem State.setPol_skm : (s.setPol i x).skm = s.skm := rfl
@[simp] theorem State.setPol_cph : (s.setPol i x).cph = s.cph := rfl
@[simp] theorem State.setPol_air : (s.setPol i x).air = s.air := rfl
@[simp] theorem State.setPol_wmac : (s.setPol i x).wmac = s.wmac := rfl
@[simp] theorem State.setPol_wb : (s.setPol i x).wb = s.wb := rfl
@[simp] theorem State.setPol_fel : (s.setPol i x).fel = s.fel := rfl
@[simp] theorem State.setPol_spe : (s.setPol i x).spe = s.spe := rfl
@[simp] theorem State.setPol_tlm : (s.setPol i x).tlm = s.tlm := rfl
@[simp] theorem State.setPol_fab : (s.setPol i x).fab = s.fab := rfl
@[simp] theorem State.setPol_bnd : (s.setPol i x).bnd = s.bnd := rfl
@[simp] theorem State.setPol_kck : (s.setPol i x).kck = s.kck := rfl
@[simp] theorem State.setPol_tap : (s.setPol i x).tap = s.tap := rfl
@[simp] theorem State.setPol_pending : (s.setPol i x).pending = s.pending := rfl

end setPol

section setFelUnit
variable (s : State) (x : Nat) (u : FelUnit)

@[simp] theorem State.setFelUnit_csr : (s.setFelUnit x u).csr = s.csr := rfl
@[simp] theorem State.setFelUnit_latch : (s.setFelUnit x u).latch = s.latch := rfl
@[simp] theorem State.setFelUnit_rdata : (s.setFelUnit x u).rdata = s.rdata := rfl
@[simp] theorem State.setFelUnit_mem : (s.setFelUnit x u).mem = s.mem := rfl
@[simp] theorem State.setFelUnit_chk : (s.setFelUnit x u).chk = s.chk := rfl
@[simp] theorem State.setFelUnit_memst : (s.setFelUnit x u).memst = s.memst := rfl
@[simp] theorem State.setFelUnit_tmb : (s.setFelUnit x u).tmb = s.tmb := rfl
@[simp] theorem State.setFelUnit_pace : (s.setFelUnit x u).pace = s.pace := rfl
@[simp] theorem State.setFelUnit_sec : (s.setFelUnit x u).sec = s.sec := rfl
@[simp] theorem State.setFelUnit_hif : (s.setFelUnit x u).hif = s.hif := rfl
@[simp] theorem State.setFelUnit_drk : (s.setFelUnit x u).drk = s.drk := rfl
@[simp] theorem State.setFelUnit_pwr : (s.setFelUnit x u).pwr = s.pwr := rfl
@[simp] theorem State.setFelUnit_obs : (s.setFelUnit x u).obs = s.obs := rfl
@[simp] theorem State.setFelUnit_eth : (s.setFelUnit x u).eth = s.eth := rfl
@[simp] theorem State.setFelUnit_skm : (s.setFelUnit x u).skm = s.skm := rfl
@[simp] theorem State.setFelUnit_tmg : (s.setFelUnit x u).tmg = s.tmg := rfl
@[simp] theorem State.setFelUnit_cph : (s.setFelUnit x u).cph = s.cph := rfl
@[simp] theorem State.setFelUnit_air : (s.setFelUnit x u).air = s.air := rfl
@[simp] theorem State.setFelUnit_wmac : (s.setFelUnit x u).wmac = s.wmac := rfl
@[simp] theorem State.setFelUnit_wb : (s.setFelUnit x u).wb = s.wb := rfl
@[simp] theorem State.setFelUnit_spe : (s.setFelUnit x u).spe = s.spe := rfl
@[simp] theorem State.setFelUnit_tlm : (s.setFelUnit x u).tlm = s.tlm := rfl
@[simp] theorem State.setFelUnit_fab : (s.setFelUnit x u).fab = s.fab := rfl
@[simp] theorem State.setFelUnit_bnd : (s.setFelUnit x u).bnd = s.bnd := rfl
@[simp] theorem State.setFelUnit_kck : (s.setFelUnit x u).kck = s.kck := rfl
@[simp] theorem State.setFelUnit_tap : (s.setFelUnit x u).tap = s.tap := rfl
@[simp] theorem State.setFelUnit_pending : (s.setFelUnit x u).pending = s.pending := rfl

end setFelUnit

section setSpe
variable (s : State) (x : Spe)

@[simp] theorem State.setSpe_csr : (s.setSpe x).csr = s.csr := rfl
@[simp] theorem State.setSpe_latch : (s.setSpe x).latch = s.latch := rfl
@[simp] theorem State.setSpe_rdata : (s.setSpe x).rdata = s.rdata := rfl
@[simp] theorem State.setSpe_mem : (s.setSpe x).mem = s.mem := rfl
@[simp] theorem State.setSpe_chk : (s.setSpe x).chk = s.chk := rfl
@[simp] theorem State.setSpe_memst : (s.setSpe x).memst = s.memst := rfl
@[simp] theorem State.setSpe_tmb : (s.setSpe x).tmb = s.tmb := rfl
@[simp] theorem State.setSpe_pace : (s.setSpe x).pace = s.pace := rfl
@[simp] theorem State.setSpe_sec : (s.setSpe x).sec = s.sec := rfl
@[simp] theorem State.setSpe_hif : (s.setSpe x).hif = s.hif := rfl
@[simp] theorem State.setSpe_drk : (s.setSpe x).drk = s.drk := rfl
@[simp] theorem State.setSpe_pwr : (s.setSpe x).pwr = s.pwr := rfl
@[simp] theorem State.setSpe_obs : (s.setSpe x).obs = s.obs := rfl
@[simp] theorem State.setSpe_eth : (s.setSpe x).eth = s.eth := rfl
@[simp] theorem State.setSpe_skm : (s.setSpe x).skm = s.skm := rfl
@[simp] theorem State.setSpe_tmg : (s.setSpe x).tmg = s.tmg := rfl
@[simp] theorem State.setSpe_cph : (s.setSpe x).cph = s.cph := rfl
@[simp] theorem State.setSpe_air : (s.setSpe x).air = s.air := rfl
@[simp] theorem State.setSpe_wmac : (s.setSpe x).wmac = s.wmac := rfl
@[simp] theorem State.setSpe_wb : (s.setSpe x).wb = s.wb := rfl
@[simp] theorem State.setSpe_fel : (s.setSpe x).fel = s.fel := rfl
@[simp] theorem State.setSpe_tlm : (s.setSpe x).tlm = s.tlm := rfl
@[simp] theorem State.setSpe_fab : (s.setSpe x).fab = s.fab := rfl
@[simp] theorem State.setSpe_bnd : (s.setSpe x).bnd = s.bnd := rfl
@[simp] theorem State.setSpe_kck : (s.setSpe x).kck = s.kck := rfl
@[simp] theorem State.setSpe_tap : (s.setSpe x).tap = s.tap := rfl
@[simp] theorem State.setSpe_pending : (s.setSpe x).pending = s.pending := rfl
@[simp] theorem State.setSpe_spe : (s.setSpe x).spe = x := rfl

end setSpe

section setReorder
variable (s : State) (n t : Nat) (r : Reorder)

@[simp] theorem State.setReorder_csr : (s.setReorder n t r).csr = s.csr := rfl
@[simp] theorem State.setReorder_latch : (s.setReorder n t r).latch = s.latch := rfl
@[simp] theorem State.setReorder_rdata : (s.setReorder n t r).rdata = s.rdata := rfl
@[simp] theorem State.setReorder_mem : (s.setReorder n t r).mem = s.mem := rfl
@[simp] theorem State.setReorder_chk : (s.setReorder n t r).chk = s.chk := rfl
@[simp] theorem State.setReorder_memst : (s.setReorder n t r).memst = s.memst := rfl
@[simp] theorem State.setReorder_tmb : (s.setReorder n t r).tmb = s.tmb := rfl
@[simp] theorem State.setReorder_pace : (s.setReorder n t r).pace = s.pace := rfl
@[simp] theorem State.setReorder_sec : (s.setReorder n t r).sec = s.sec := rfl
@[simp] theorem State.setReorder_hif : (s.setReorder n t r).hif = s.hif := rfl
@[simp] theorem State.setReorder_drk : (s.setReorder n t r).drk = s.drk := rfl
@[simp] theorem State.setReorder_pwr : (s.setReorder n t r).pwr = s.pwr := rfl
@[simp] theorem State.setReorder_obs : (s.setReorder n t r).obs = s.obs := rfl
@[simp] theorem State.setReorder_eth : (s.setReorder n t r).eth = s.eth := rfl
@[simp] theorem State.setReorder_skm : (s.setReorder n t r).skm = s.skm := rfl
@[simp] theorem State.setReorder_tmg : (s.setReorder n t r).tmg = s.tmg := rfl
@[simp] theorem State.setReorder_cph : (s.setReorder n t r).cph = s.cph := rfl
@[simp] theorem State.setReorder_air : (s.setReorder n t r).air = s.air := rfl
@[simp] theorem State.setReorder_wb : (s.setReorder n t r).wb = s.wb := rfl
@[simp] theorem State.setReorder_fel : (s.setReorder n t r).fel = s.fel := rfl
@[simp] theorem State.setReorder_spe : (s.setReorder n t r).spe = s.spe := rfl
@[simp] theorem State.setReorder_tlm : (s.setReorder n t r).tlm = s.tlm := rfl
@[simp] theorem State.setReorder_fab : (s.setReorder n t r).fab = s.fab := rfl
@[simp] theorem State.setReorder_bnd : (s.setReorder n t r).bnd = s.bnd := rfl
@[simp] theorem State.setReorder_kck : (s.setReorder n t r).kck = s.kck := rfl
@[simp] theorem State.setReorder_tap : (s.setReorder n t r).tap = s.tap := rfl
@[simp] theorem State.setReorder_pending : (s.setReorder n t r).pending = s.pending := rfl

end setReorder

section setScore
variable (s : State) (n t x : Nat) (c : Score)

@[simp] theorem State.setScore_csr : (s.setScore n t x c).csr = s.csr := rfl
@[simp] theorem State.setScore_latch : (s.setScore n t x c).latch = s.latch := rfl
@[simp] theorem State.setScore_rdata : (s.setScore n t x c).rdata = s.rdata := rfl
@[simp] theorem State.setScore_mem : (s.setScore n t x c).mem = s.mem := rfl
@[simp] theorem State.setScore_chk : (s.setScore n t x c).chk = s.chk := rfl
@[simp] theorem State.setScore_memst : (s.setScore n t x c).memst = s.memst := rfl
@[simp] theorem State.setScore_tmb : (s.setScore n t x c).tmb = s.tmb := rfl
@[simp] theorem State.setScore_pace : (s.setScore n t x c).pace = s.pace := rfl
@[simp] theorem State.setScore_sec : (s.setScore n t x c).sec = s.sec := rfl
@[simp] theorem State.setScore_hif : (s.setScore n t x c).hif = s.hif := rfl
@[simp] theorem State.setScore_drk : (s.setScore n t x c).drk = s.drk := rfl
@[simp] theorem State.setScore_pwr : (s.setScore n t x c).pwr = s.pwr := rfl
@[simp] theorem State.setScore_obs : (s.setScore n t x c).obs = s.obs := rfl
@[simp] theorem State.setScore_eth : (s.setScore n t x c).eth = s.eth := rfl
@[simp] theorem State.setScore_skm : (s.setScore n t x c).skm = s.skm := rfl
@[simp] theorem State.setScore_tmg : (s.setScore n t x c).tmg = s.tmg := rfl
@[simp] theorem State.setScore_cph : (s.setScore n t x c).cph = s.cph := rfl
@[simp] theorem State.setScore_air : (s.setScore n t x c).air = s.air := rfl
@[simp] theorem State.setScore_wb : (s.setScore n t x c).wb = s.wb := rfl
@[simp] theorem State.setScore_fel : (s.setScore n t x c).fel = s.fel := rfl
@[simp] theorem State.setScore_spe : (s.setScore n t x c).spe = s.spe := rfl
@[simp] theorem State.setScore_tlm : (s.setScore n t x c).tlm = s.tlm := rfl
@[simp] theorem State.setScore_fab : (s.setScore n t x c).fab = s.fab := rfl
@[simp] theorem State.setScore_bnd : (s.setScore n t x c).bnd = s.bnd := rfl
@[simp] theorem State.setScore_kck : (s.setScore n t x c).kck = s.kck := rfl
@[simp] theorem State.setScore_tap : (s.setScore n t x c).tap = s.tap := rfl
@[simp] theorem State.setScore_pending : (s.setScore n t x c).pending = s.pending := rfl

end setScore

section precDrop
variable (s : State) (p : Prec → Bool)

@[simp] theorem State.precDrop_csr : (s.precDrop p).csr = s.csr := rfl
@[simp] theorem State.precDrop_latch : (s.precDrop p).latch = s.latch := rfl
@[simp] theorem State.precDrop_rdata : (s.precDrop p).rdata = s.rdata := rfl
@[simp] theorem State.precDrop_mem : (s.precDrop p).mem = s.mem := rfl
@[simp] theorem State.precDrop_chk : (s.precDrop p).chk = s.chk := rfl
@[simp] theorem State.precDrop_memst : (s.precDrop p).memst = s.memst := rfl
@[simp] theorem State.precDrop_tmb : (s.precDrop p).tmb = s.tmb := rfl
@[simp] theorem State.precDrop_pace : (s.precDrop p).pace = s.pace := rfl
@[simp] theorem State.precDrop_sec : (s.precDrop p).sec = s.sec := rfl
@[simp] theorem State.precDrop_hif : (s.precDrop p).hif = s.hif := rfl
@[simp] theorem State.precDrop_drk : (s.precDrop p).drk = s.drk := rfl
@[simp] theorem State.precDrop_pwr : (s.precDrop p).pwr = s.pwr := rfl
@[simp] theorem State.precDrop_obs : (s.precDrop p).obs = s.obs := rfl
@[simp] theorem State.precDrop_eth : (s.precDrop p).eth = s.eth := rfl
@[simp] theorem State.precDrop_skm : (s.precDrop p).skm = s.skm := rfl
@[simp] theorem State.precDrop_tmg : (s.precDrop p).tmg = s.tmg := rfl
@[simp] theorem State.precDrop_cph : (s.precDrop p).cph = s.cph := rfl
@[simp] theorem State.precDrop_air : (s.precDrop p).air = s.air := rfl
@[simp] theorem State.precDrop_wmac : (s.precDrop p).wmac = s.wmac := rfl
@[simp] theorem State.precDrop_wb : (s.precDrop p).wb = s.wb := rfl
@[simp] theorem State.precDrop_fel : (s.precDrop p).fel = s.fel := rfl
@[simp] theorem State.precDrop_tlm : (s.precDrop p).tlm = s.tlm := rfl
@[simp] theorem State.precDrop_fab : (s.precDrop p).fab = s.fab := rfl
@[simp] theorem State.precDrop_bnd : (s.precDrop p).bnd = s.bnd := rfl
@[simp] theorem State.precDrop_kck : (s.precDrop p).kck = s.kck := rfl
@[simp] theorem State.precDrop_tap : (s.precDrop p).tap = s.tap := rfl
@[simp] theorem State.precDrop_pending : (s.precDrop p).pending = s.pending := rfl

end precDrop

section dropRequests
variable (s : State) (n : Nat)

@[simp] theorem State.dropRequests_csr : (s.dropRequests n).csr = s.csr := rfl
@[simp] theorem State.dropRequests_latch : (s.dropRequests n).latch = s.latch := rfl
@[simp] theorem State.dropRequests_rdata : (s.dropRequests n).rdata = s.rdata := rfl
@[simp] theorem State.dropRequests_mem : (s.dropRequests n).mem = s.mem := rfl
@[simp] theorem State.dropRequests_chk : (s.dropRequests n).chk = s.chk := rfl
@[simp] theorem State.dropRequests_memst : (s.dropRequests n).memst = s.memst := rfl
@[simp] theorem State.dropRequests_tmb : (s.dropRequests n).tmb = s.tmb := rfl
@[simp] theorem State.dropRequests_pace : (s.dropRequests n).pace = s.pace := rfl
@[simp] theorem State.dropRequests_sec : (s.dropRequests n).sec = s.sec := rfl
@[simp] theorem State.dropRequests_hif : (s.dropRequests n).hif = s.hif := rfl
@[simp] theorem State.dropRequests_drk : (s.dropRequests n).drk = s.drk := rfl
@[simp] theorem State.dropRequests_pwr : (s.dropRequests n).pwr = s.pwr := rfl
@[simp] theorem State.dropRequests_obs : (s.dropRequests n).obs = s.obs := rfl
@[simp] theorem State.dropRequests_eth : (s.dropRequests n).eth = s.eth := rfl
@[simp] theorem State.dropRequests_skm : (s.dropRequests n).skm = s.skm := rfl
@[simp] theorem State.dropRequests_tmg : (s.dropRequests n).tmg = s.tmg := rfl
@[simp] theorem State.dropRequests_cph : (s.dropRequests n).cph = s.cph := rfl
@[simp] theorem State.dropRequests_air : (s.dropRequests n).air = s.air := rfl
@[simp] theorem State.dropRequests_wb : (s.dropRequests n).wb = s.wb := rfl
@[simp] theorem State.dropRequests_fel : (s.dropRequests n).fel = s.fel := rfl
@[simp] theorem State.dropRequests_spe : (s.dropRequests n).spe = s.spe := rfl
@[simp] theorem State.dropRequests_tlm : (s.dropRequests n).tlm = s.tlm := rfl
@[simp] theorem State.dropRequests_fab : (s.dropRequests n).fab = s.fab := rfl
@[simp] theorem State.dropRequests_bnd : (s.dropRequests n).bnd = s.bnd := rfl
@[simp] theorem State.dropRequests_kck : (s.dropRequests n).kck = s.kck := rfl
@[simp] theorem State.dropRequests_tap : (s.dropRequests n).tap = s.tap := rfl
@[simp] theorem State.dropRequests_pending : (s.dropRequests n).pending = s.pending := rfl

end dropRequests

section wsFresh
variable (s : State) (n : Nat)

@[simp] theorem State.wsFresh_csr : (s.wsFresh n).csr = s.csr := rfl
@[simp] theorem State.wsFresh_latch : (s.wsFresh n).latch = s.latch := rfl
@[simp] theorem State.wsFresh_rdata : (s.wsFresh n).rdata = s.rdata := rfl
@[simp] theorem State.wsFresh_mem : (s.wsFresh n).mem = s.mem := rfl
@[simp] theorem State.wsFresh_chk : (s.wsFresh n).chk = s.chk := rfl
@[simp] theorem State.wsFresh_memst : (s.wsFresh n).memst = s.memst := rfl
@[simp] theorem State.wsFresh_tmb : (s.wsFresh n).tmb = s.tmb := rfl
@[simp] theorem State.wsFresh_pace : (s.wsFresh n).pace = s.pace := rfl
@[simp] theorem State.wsFresh_sec : (s.wsFresh n).sec = s.sec := rfl
@[simp] theorem State.wsFresh_hif : (s.wsFresh n).hif = s.hif := rfl
@[simp] theorem State.wsFresh_drk : (s.wsFresh n).drk = s.drk := rfl
@[simp] theorem State.wsFresh_pwr : (s.wsFresh n).pwr = s.pwr := rfl
@[simp] theorem State.wsFresh_obs : (s.wsFresh n).obs = s.obs := rfl
@[simp] theorem State.wsFresh_eth : (s.wsFresh n).eth = s.eth := rfl
@[simp] theorem State.wsFresh_skm : (s.wsFresh n).skm = s.skm := rfl
@[simp] theorem State.wsFresh_tmg : (s.wsFresh n).tmg = s.tmg := rfl
@[simp] theorem State.wsFresh_cph : (s.wsFresh n).cph = s.cph := rfl
@[simp] theorem State.wsFresh_air : (s.wsFresh n).air = s.air := rfl
@[simp] theorem State.wsFresh_wb : (s.wsFresh n).wb = s.wb := rfl
@[simp] theorem State.wsFresh_fel : (s.wsFresh n).fel = s.fel := rfl
@[simp] theorem State.wsFresh_spe : (s.wsFresh n).spe = s.spe := rfl
@[simp] theorem State.wsFresh_tlm : (s.wsFresh n).tlm = s.tlm := rfl
@[simp] theorem State.wsFresh_fab : (s.wsFresh n).fab = s.fab := rfl
@[simp] theorem State.wsFresh_bnd : (s.wsFresh n).bnd = s.bnd := rfl
@[simp] theorem State.wsFresh_kck : (s.wsFresh n).kck = s.kck := rfl
@[simp] theorem State.wsFresh_tap : (s.wsFresh n).tap = s.tap := rfl
@[simp] theorem State.wsFresh_pending : (s.wsFresh n).pending = s.pending := rfl

end wsFresh

section setWbx
variable (s : State) (x : Nat) (w : Wb)

@[simp] theorem State.setWbx_csr : (s.setWbx x w).csr = s.csr := rfl
@[simp] theorem State.setWbx_latch : (s.setWbx x w).latch = s.latch := rfl
@[simp] theorem State.setWbx_rdata : (s.setWbx x w).rdata = s.rdata := rfl
@[simp] theorem State.setWbx_mem : (s.setWbx x w).mem = s.mem := rfl
@[simp] theorem State.setWbx_chk : (s.setWbx x w).chk = s.chk := rfl
@[simp] theorem State.setWbx_memst : (s.setWbx x w).memst = s.memst := rfl
@[simp] theorem State.setWbx_tmb : (s.setWbx x w).tmb = s.tmb := rfl
@[simp] theorem State.setWbx_pace : (s.setWbx x w).pace = s.pace := rfl
@[simp] theorem State.setWbx_sec : (s.setWbx x w).sec = s.sec := rfl
@[simp] theorem State.setWbx_hif : (s.setWbx x w).hif = s.hif := rfl
@[simp] theorem State.setWbx_drk : (s.setWbx x w).drk = s.drk := rfl
@[simp] theorem State.setWbx_pwr : (s.setWbx x w).pwr = s.pwr := rfl
@[simp] theorem State.setWbx_obs : (s.setWbx x w).obs = s.obs := rfl
@[simp] theorem State.setWbx_eth : (s.setWbx x w).eth = s.eth := rfl
@[simp] theorem State.setWbx_skm : (s.setWbx x w).skm = s.skm := rfl
@[simp] theorem State.setWbx_tmg : (s.setWbx x w).tmg = s.tmg := rfl
@[simp] theorem State.setWbx_cph : (s.setWbx x w).cph = s.cph := rfl
@[simp] theorem State.setWbx_air : (s.setWbx x w).air = s.air := rfl
@[simp] theorem State.setWbx_wmac : (s.setWbx x w).wmac = s.wmac := rfl
@[simp] theorem State.setWbx_fel : (s.setWbx x w).fel = s.fel := rfl
@[simp] theorem State.setWbx_spe : (s.setWbx x w).spe = s.spe := rfl
@[simp] theorem State.setWbx_tlm : (s.setWbx x w).tlm = s.tlm := rfl
@[simp] theorem State.setWbx_fab : (s.setWbx x w).fab = s.fab := rfl
@[simp] theorem State.setWbx_bnd : (s.setWbx x w).bnd = s.bnd := rfl
@[simp] theorem State.setWbx_kck : (s.setWbx x w).kck = s.kck := rfl
@[simp] theorem State.setWbx_tap : (s.setWbx x w).tap = s.tap := rfl
@[simp] theorem State.setWbx_pending : (s.setWbx x w).pending = s.pending := rfl

end setWbx

section setExch
variable (s : State) (x : Nat) (e : Option Exchange)

@[simp] theorem State.setExch_csr : (s.setExch x e).csr = s.csr := rfl
@[simp] theorem State.setExch_latch : (s.setExch x e).latch = s.latch := rfl
@[simp] theorem State.setExch_rdata : (s.setExch x e).rdata = s.rdata := rfl
@[simp] theorem State.setExch_mem : (s.setExch x e).mem = s.mem := rfl
@[simp] theorem State.setExch_chk : (s.setExch x e).chk = s.chk := rfl
@[simp] theorem State.setExch_memst : (s.setExch x e).memst = s.memst := rfl
@[simp] theorem State.setExch_tmb : (s.setExch x e).tmb = s.tmb := rfl
@[simp] theorem State.setExch_pace : (s.setExch x e).pace = s.pace := rfl
@[simp] theorem State.setExch_sec : (s.setExch x e).sec = s.sec := rfl
@[simp] theorem State.setExch_hif : (s.setExch x e).hif = s.hif := rfl
@[simp] theorem State.setExch_drk : (s.setExch x e).drk = s.drk := rfl
@[simp] theorem State.setExch_pwr : (s.setExch x e).pwr = s.pwr := rfl
@[simp] theorem State.setExch_obs : (s.setExch x e).obs = s.obs := rfl
@[simp] theorem State.setExch_eth : (s.setExch x e).eth = s.eth := rfl
@[simp] theorem State.setExch_skm : (s.setExch x e).skm = s.skm := rfl
@[simp] theorem State.setExch_tmg : (s.setExch x e).tmg = s.tmg := rfl
@[simp] theorem State.setExch_cph : (s.setExch x e).cph = s.cph := rfl
@[simp] theorem State.setExch_air : (s.setExch x e).air = s.air := rfl
@[simp] theorem State.setExch_wb : (s.setExch x e).wb = s.wb := rfl
@[simp] theorem State.setExch_fel : (s.setExch x e).fel = s.fel := rfl
@[simp] theorem State.setExch_spe : (s.setExch x e).spe = s.spe := rfl
@[simp] theorem State.setExch_tlm : (s.setExch x e).tlm = s.tlm := rfl
@[simp] theorem State.setExch_fab : (s.setExch x e).fab = s.fab := rfl
@[simp] theorem State.setExch_bnd : (s.setExch x e).bnd = s.bnd := rfl
@[simp] theorem State.setExch_kck : (s.setExch x e).kck = s.kck := rfl
@[simp] theorem State.setExch_tap : (s.setExch x e).tap = s.tap := rfl
@[simp] theorem State.setExch_pending : (s.setExch x e).pending = s.pending := rfl

end setExch

section setRetx
variable (s : State) (q : Nat) (l : List Mpdu)

@[simp] theorem State.setRetx_csr : (s.setRetx q l).csr = s.csr := rfl
@[simp] theorem State.setRetx_latch : (s.setRetx q l).latch = s.latch := rfl
@[simp] theorem State.setRetx_rdata : (s.setRetx q l).rdata = s.rdata := rfl
@[simp] theorem State.setRetx_mem : (s.setRetx q l).mem = s.mem := rfl
@[simp] theorem State.setRetx_chk : (s.setRetx q l).chk = s.chk := rfl
@[simp] theorem State.setRetx_memst : (s.setRetx q l).memst = s.memst := rfl
@[simp] theorem State.setRetx_tmb : (s.setRetx q l).tmb = s.tmb := rfl
@[simp] theorem State.setRetx_pace : (s.setRetx q l).pace = s.pace := rfl
@[simp] theorem State.setRetx_sec : (s.setRetx q l).sec = s.sec := rfl
@[simp] theorem State.setRetx_hif : (s.setRetx q l).hif = s.hif := rfl
@[simp] theorem State.setRetx_drk : (s.setRetx q l).drk = s.drk := rfl
@[simp] theorem State.setRetx_pwr : (s.setRetx q l).pwr = s.pwr := rfl
@[simp] theorem State.setRetx_obs : (s.setRetx q l).obs = s.obs := rfl
@[simp] theorem State.setRetx_eth : (s.setRetx q l).eth = s.eth := rfl
@[simp] theorem State.setRetx_skm : (s.setRetx q l).skm = s.skm := rfl
@[simp] theorem State.setRetx_tmg : (s.setRetx q l).tmg = s.tmg := rfl
@[simp] theorem State.setRetx_cph : (s.setRetx q l).cph = s.cph := rfl
@[simp] theorem State.setRetx_air : (s.setRetx q l).air = s.air := rfl
@[simp] theorem State.setRetx_wb : (s.setRetx q l).wb = s.wb := rfl
@[simp] theorem State.setRetx_fel : (s.setRetx q l).fel = s.fel := rfl
@[simp] theorem State.setRetx_spe : (s.setRetx q l).spe = s.spe := rfl
@[simp] theorem State.setRetx_tlm : (s.setRetx q l).tlm = s.tlm := rfl
@[simp] theorem State.setRetx_fab : (s.setRetx q l).fab = s.fab := rfl
@[simp] theorem State.setRetx_bnd : (s.setRetx q l).bnd = s.bnd := rfl
@[simp] theorem State.setRetx_kck : (s.setRetx q l).kck = s.kck := rfl
@[simp] theorem State.setRetx_tap : (s.setRetx q l).tap = s.tap := rfl
@[simp] theorem State.setRetx_pending : (s.setRetx q l).pending = s.pending := rfl

end setRetx

section setEdca
variable (s : State) (x a : Nat) (e : Edca)

@[simp] theorem State.setEdca_csr : (s.setEdca x a e).csr = s.csr := rfl
@[simp] theorem State.setEdca_latch : (s.setEdca x a e).latch = s.latch := rfl
@[simp] theorem State.setEdca_rdata : (s.setEdca x a e).rdata = s.rdata := rfl
@[simp] theorem State.setEdca_mem : (s.setEdca x a e).mem = s.mem := rfl
@[simp] theorem State.setEdca_chk : (s.setEdca x a e).chk = s.chk := rfl
@[simp] theorem State.setEdca_memst : (s.setEdca x a e).memst = s.memst := rfl
@[simp] theorem State.setEdca_tmb : (s.setEdca x a e).tmb = s.tmb := rfl
@[simp] theorem State.setEdca_pace : (s.setEdca x a e).pace = s.pace := rfl
@[simp] theorem State.setEdca_sec : (s.setEdca x a e).sec = s.sec := rfl
@[simp] theorem State.setEdca_hif : (s.setEdca x a e).hif = s.hif := rfl
@[simp] theorem State.setEdca_drk : (s.setEdca x a e).drk = s.drk := rfl
@[simp] theorem State.setEdca_pwr : (s.setEdca x a e).pwr = s.pwr := rfl
@[simp] theorem State.setEdca_obs : (s.setEdca x a e).obs = s.obs := rfl
@[simp] theorem State.setEdca_eth : (s.setEdca x a e).eth = s.eth := rfl
@[simp] theorem State.setEdca_skm : (s.setEdca x a e).skm = s.skm := rfl
@[simp] theorem State.setEdca_tmg : (s.setEdca x a e).tmg = s.tmg := rfl
@[simp] theorem State.setEdca_cph : (s.setEdca x a e).cph = s.cph := rfl
@[simp] theorem State.setEdca_air : (s.setEdca x a e).air = s.air := rfl
@[simp] theorem State.setEdca_wb : (s.setEdca x a e).wb = s.wb := rfl
@[simp] theorem State.setEdca_fel : (s.setEdca x a e).fel = s.fel := rfl
@[simp] theorem State.setEdca_spe : (s.setEdca x a e).spe = s.spe := rfl
@[simp] theorem State.setEdca_tlm : (s.setEdca x a e).tlm = s.tlm := rfl
@[simp] theorem State.setEdca_fab : (s.setEdca x a e).fab = s.fab := rfl
@[simp] theorem State.setEdca_bnd : (s.setEdca x a e).bnd = s.bnd := rfl
@[simp] theorem State.setEdca_kck : (s.setEdca x a e).kck = s.kck := rfl
@[simp] theorem State.setEdca_tap : (s.setEdca x a e).tap = s.tap := rfl
@[simp] theorem State.setEdca_pending : (s.setEdca x a e).pending = s.pending := rfl

end setEdca

end Sys2Proof.Machine
end

