-- ==== Sys2Proof/Laws/Ops.lean ====
section
/-! SUPPORT. Laws of the register operations and of what is recorded: a register reads as it was last written, another one
is left, and the event log, the scorebook and the counters touch only their own state. -/

namespace Sys2Proof.Machine

/-! ## Registers -/

@[simp] theorem State.rg_wg_same (s : State) (r : Reg) (i : List Nat) (v : Word) : (s.wg r v i).rg r i = v := by
  simp [State.rg, State.wg]

theorem State.rg_wg_other (s : State) (r q : Reg) (i j : List Nat) (v : Word) (h : q.addr j ≠ r.addr i) :
    (s.wg r v i).rg q j = s.rg q j := by
  simp only [State.rg, State.wg]
  exact SMap.get_set_other _ _ _ _ _ _ h

/-- The ones of a field's mask. -/
theorem fmask_bit (hi lo j : Nat) (hj : j < 64) :
    (fmask hi lo).getLsbD j = (decide (lo ≤ j) && decide (j - lo < hi + 1 - lo)) := by
  simp only [fmask, BitVec.getLsbD_ofNat, hj, decide_true, Bool.true_and, Nat.testBit_shiftLeft,
    Nat.testBit_two_pow_sub_one, ge_iff_le]

/-- A bit of a word with a field replaced. -/
theorem setFld_bit (v : Word) (hi lo x j : Nat) (hj : j < 64) :
    (setFld v hi lo x).getLsbD j =
      if lo ≤ j ∧ j - lo < hi + 1 - lo then x.testBit (j - lo) else v.getLsbD j := by
  simp only [setFld, BitVec.getLsbD_or, BitVec.getLsbD_and, BitVec.getLsbD_not, fmask_bit _ _ _ hj,
    BitVec.getLsbD_ofNat, hj, decide_true, Bool.true_and, Nat.testBit_shiftLeft, ge_iff_le]
  by_cases h1 : lo ≤ j <;> by_cases h2 : j - lo < hi + 1 - lo <;> simp [h1, h2]

/-- A bit of a field's value. -/
theorem fld_bit (v : Word) (hi lo i : Nat) :
    (fld v hi lo).testBit i = (decide (i < hi + 1 - lo) && v.getLsbD (lo + i)) := by
  simp only [fld, bits, Nat.testBit_mod_two_pow, Nat.testBit_shiftRight, BitVec.testBit_toNat]

/-- A field within the word reads as set, cut to its width. -/
theorem fld_setFld_same (v : Word) (hi lo x : Nat) (h1 : lo ≤ hi) (h2 : hi < 64) :
    fld (setFld v hi lo x) hi lo = x % 2 ^ (hi + 1 - lo) := by
  apply Nat.eq_of_testBit_eq
  intro i
  rw [fld_bit, Nat.testBit_mod_two_pow]
  by_cases hw : i < hi + 1 - lo
  · have h3 : lo + i < 64 := by omega
    rw [setFld_bit _ _ _ _ _ h3]
    simp [hw]
  · simp [hw]

/-- A field apart from the one set reads as before. -/
theorem fld_setFld_other (v : Word) (hi lo h l x : Nat) (hd : h < lo ∨ hi < l) :
    fld (setFld v hi lo x) h l = fld v h l := by
  apply Nat.eq_of_testBit_eq
  intro i
  rw [fld_bit, fld_bit]
  by_cases hw : i < h + 1 - l
  · by_cases h3 : l + i < 64
    · rw [setFld_bit _ _ _ _ _ h3, if_neg (by omega)]
    · simp [BitVec.getLsbD_of_ge _ _ (Nat.le_of_not_lt h3)]
  · simp [hw]

theorem State.fg_wg_other (s : State) (r q : Reg) (f : Fld) (i j : List Nat) (v : Word) (h : q.addr j ≠ r.addr i) :
    (s.wg r v i).fg q f j = s.fg q f j := by
  simp [State.fg, State.rg_wg_other s r q i j v h]

theorem State.fg_fs_same (s : State) (r : Reg) (f : Fld) (x : Nat) (i : List Nat) (h1 : f.lo ≤ f.hi) (h2 : f.hi < 64) :
    (s.fs r f x i).fg r f i = x % 2 ^ (f.hi + 1 - f.lo) := by
  simp [State.fg, State.fs, fld_setFld_same _ _ _ _ h1 h2]

theorem State.fg_fs_apart (s : State) (r : Reg) (f g : Fld) (x : Nat) (i : List Nat) (h : g.hi < f.lo ∨ f.hi < g.lo) :
    (s.fs r f x i).fg r g i = s.fg r g i := by
  simp [State.fg, State.fs, fld_setFld_other _ _ _ _ _ _ h]

theorem State.fg_fs_other (s : State) (r q : Reg) (f g : Fld) (x : Nat) (i j : List Nat) (h : q.addr j ≠ r.addr i) :
    (s.fs r f x i).fg q g j = s.fg q g j := by
  simp [State.fs, State.fg_wg_other _ _ _ _ _ _ _ h]

theorem State.rg_fs_other (s : State) (r q : Reg) (f : Fld) (x : Nat) (i j : List Nat) (h : q.addr j ≠ r.addr i) :
    (s.fs r f x i).rg q j = s.rg q j := by
  simp [State.fs, State.rg_wg_other _ _ _ _ _ _ h]

end Sys2Proof.Machine
end

