-- ==== Sys2Proof/Laws/Record.lean ====
section
/-! SUPPORT. Laws of what is recorded: the scorebook, the event log and the interrupt messages change only their own state,
and a register write by an initiator gives its effect on a state that differs only in what is recorded. -/

namespace Sys2Proof.Machine

theorem Recorded.refl (s : State) : Recorded s s :=
  ⟨rfl, fun h => ⟨rfl, rfl, h, fun _ => rfl⟩, fun h => ⟨h, rfl⟩, fun _ _ _ => rfl⟩

theorem Recorded.still {s t : State} (h : Recorded s t) (hr : s.recording = false) : t.recording = false := (h.2.1 hr).2.2.1

theorem Recorded.trans {s t u : State} (h : Recorded s t) (k : Recorded t u) : Recorded s u := by
  refine ⟨?_, fun hr => ?_, fun hp => ?_, fun a d ha => (k.2.2.2 a d ha).trans (h.2.2.2 a d ha)⟩
  · rw [k.1, h.1]
  · obtain ⟨h1, h2, h3, h4⟩ := h.2.1 hr
    obtain ⟨k1, k2, k3, k4⟩ := k.2.1 h3
    exact ⟨k1.trans h1, k2.trans h2, k3, fun hp => (k4 (h.2.2.1 hp).1).trans (h4 hp)⟩
  · obtain ⟨h1, h2⟩ := h.2.2.1 hp
    obtain ⟨k1, k2⟩ := k.2.2.1 h1
    exact ⟨k1, k2.trans h2⟩

/-- What leaves the registers, the replay and stored bytes alone. -/
theorem Recorded.setObs (s : State) (o : Obs) (h : o.rep = s.obs.rep) : Recorded s { s with obs := o } :=
  ⟨rfl, fun hr => ⟨rfl, rfl, hr, fun _ => rfl⟩, fun hp => ⟨hp, h⟩, fun _ _ _ => rfl⟩

/-- While a recording runs, stored bytes and check symbols may change; it does not turn into a replay. -/
theorem Recorded.ofRecording {s t : State} (hr : s.recording = true)
    (h : t = { s with csr := t.csr, mem := t.mem, chk := t.chk, obs := t.obs })
    (hp : t.replaying = false ∧ t.obs.rep = s.obs.rep)
    (k : ∀ a d, a ∉ recordRegs → SMap.get t.csr a d = SMap.get s.csr a d) : Recorded s t :=
  ⟨h, fun e => by simp [hr] at e, fun _ => hp, k⟩

/-- A register that is recorded in is written, and it is not SCB_STATUS. -/
theorem Recorded.wg (s : State) (r : Reg) (v : Word) (i : List Nat) (h : r.addr i ∈ recordRegs)
    (hs : SCB_STATUS.addr [] ≠ r.addr i) : Recorded s (s.wg r v i) := by
  have e : (s.wg r v i).rg SCB_STATUS = s.rg SCB_STATUS := State.rg_wg_other _ _ _ _ _ _ hs
  refine ⟨rfl, fun hr => ⟨rfl, rfl, ?_, fun _ => e⟩, fun hp => ⟨?_, rfl⟩, fun a d ha =>
    SMap.get_set_other _ _ _ _ _ _ fun e => ?_⟩
  · simpa only [State.recording, State.fg, e] using hr
  · simpa only [State.replaying, State.fg, e] using hp
  · subst e; exact ha h

theorem Recorded.sendMsix (s : State) (v : Nat) : Recorded s (s.sendMsix v) := by
  unfold State.sendMsix
  split
  · exact Recorded.refl s
  · split
    · exact Recorded.wg _ _ _ _ (by decide) (by decide)
    · exact Recorded.setObs _ _ rfl

theorem Recorded.logPut (s : State) (b k x y : Nat) : Recorded s (s.logPut b k x y) := by
  unfold State.logPut
  dsimp only
  split
  · exact Recorded.trans (Recorded.trans (Recorded.setObs s _ rfl) (Recorded.wg _ _ _ _ (by decide) (by decide))) (Recorded.sendMsix _ _)
  · exact Recorded.trans (Recorded.setObs s _ rfl) (Recorded.wg _ _ _ _ (by decide) (by decide))

/-- The log leaves stored bytes and SCB_STATUS alone. -/
theorem State.logPut_still (s : State) (b k x y : Nat) :
    (s.logPut b k x y).mem = s.mem ∧ (s.logPut b k x y).chk = s.chk ∧
      (s.logPut b k x y).rg SCB_STATUS = s.rg SCB_STATUS ∧ (s.logPut b k x y).obs.rep = s.obs.rep := by
  unfold State.logPut
  dsimp only
  split
  · unfold State.sendMsix
    split
    · exact ⟨rfl, rfl, State.rg_wg_other _ _ _ _ _ _ (by decide), rfl⟩
    · split
      · exact ⟨rfl, rfl, (State.rg_wg_other _ _ _ _ _ _ (by decide)).trans (State.rg_wg_other _ _ _ _ _ _ (by decide)), rfl⟩
      · exact ⟨rfl, rfl, State.rg_wg_other _ _ _ _ _ _ (by decide), rfl⟩
  · exact ⟨rfl, rfl, State.rg_wg_other _ _ _ _ _ _ (by decide), rfl⟩

/-- Like `Recorded`, with stored bytes, check symbols and SCB_STATUS free to change as they do while a recording runs. -/
def Streamed (s t : State) : Prop :=
  t = { s with csr := t.csr, mem := t.mem, chk := t.chk, obs := t.obs } ∧
    ∀ a d, a ∉ recordRegs → SMap.get t.csr a d = SMap.get s.csr a d

theorem Streamed.refl (s : State) : Streamed s s := ⟨rfl, fun _ _ _ => rfl⟩

theorem Streamed.trans {s t u : State} (h : Streamed s t) (k : Streamed t u) : Streamed s u :=
  ⟨by rw [k.1, h.1], fun a d ha => (k.2 a d ha).trans (h.2 a d ha)⟩

theorem Recorded.streamed {s t : State} (h : Recorded s t) : Streamed s t := ⟨h.1, h.2.2.2⟩

theorem Streamed.setObs (s : State) (o : Obs) : Streamed s { s with obs := o } := ⟨rfl, fun _ _ _ => rfl⟩

theorem Streamed.wg (s : State) (r : Reg) (v : Word) (i : List Nat) (h : r.addr i ∈ recordRegs) : Streamed s (s.wg r v i) := by
  refine ⟨rfl, fun a d ha => SMap.get_set_other _ _ _ _ _ _ fun e => ?_⟩
  subst e; exact ha h

theorem Streamed.setBytes (s : State) (a : Nat) (b : Bytes) : Streamed s (s.setBytes a b) := by
  induction b generalizing s a with
  | nil => exact Streamed.refl s
  | cons x t ih => exact Streamed.trans ⟨rfl, fun _ _ _ => rfl⟩ (ih (s.setByte a x) (a + 1))

theorem Streamed.setDiff (s : State) (w : Nat) (e : BitVec 32) : Streamed s (s.setDiff w e) := ⟨rfl, fun _ _ _ => rfl⟩

theorem Streamed.scbFlush (s : State) (n : Nat) : Streamed s (s.scbFlush n) := by
  induction n generalizing s with
  | zero => exact Streamed.refl s
  | succ n ih =>
    unfold State.scbFlush
    split
    · split
      · refine Streamed.trans (Streamed.trans ?_ (Streamed.wg _ _ _ _ (by decide))) (ih _)
        exact Streamed.trans (Streamed.setBytes _ _ _) (Streamed.trans (Streamed.setObs _ _) (Streamed.setDiff _ _ _))
      · exact Streamed.refl s
    · exact Streamed.refl s

@[simp] theorem State.setBytes_csr (s : State) (a : Nat) (b : Bytes) : (s.setBytes a b).csr = s.csr := by
  induction b generalizing s a with
  | nil => rfl
  | cons x t ih => exact (ih (s.setByte a x) (a + 1)).trans rfl

@[simp] theorem State.setBytes_obs (s : State) (a : Nat) (b : Bytes) : (s.setBytes a b).obs = s.obs := by
  induction b generalizing s a with
  | nil => rfl
  | cons x t ih => exact (ih (s.setByte a x) (a + 1)).trans rfl

/-- Staged words move to memory: SCB_STATUS and the replay stand. -/
theorem State.scbFlush_still (s : State) (n : Nat) :
    (s.scbFlush n).rg SCB_STATUS = s.rg SCB_STATUS ∧ (s.scbFlush n).obs.rep = s.obs.rep := by
  induction n generalizing s with
  | zero => exact ⟨rfl, rfl⟩
  | succ n ih =>
    unfold State.scbFlush
    split
    · split
      · dsimp only
        rw [(ih _).1, (ih _).2, State.rg_wg_other _ _ _ _ _ _ (by decide)]
        simp only [State.rg, State.setDiff, State.setBytes_csr, State.setBytes_obs, State.wg, and_self]
      · exact ⟨rfl, rfl⟩
    · exact ⟨rfl, rfl⟩

/-- A recording is no replay. -/
theorem State.not_replaying {s : State} (h : s.recording = true) : s.replaying = false := by
  simp only [State.recording, beq_iff_eq] at h
  simp [State.replaying, h]

theorem Recorded.scbEnd (s : State) (m c : Nat) : Recorded s (s.scbEnd m c) := by
  unfold State.scbEnd
  split
  · rename_i hr
    suffices h : ∀ u : State, Streamed s u → u.obs.rep = s.obs.rep →
        Recorded s (((u.fs SCB_STATUS SCB_STATUS_STATE 4).fs SCB_STATUS SCB_STATUS_CAUSE c).logPut 7 0x0D 0 c) from
      h _ (Streamed.trans (Streamed.setObs _ _) (Streamed.scbFlush _ _)) (State.scbFlush_still _ _).2
    intro u hu ho
    have hs : Streamed s (((u.fs SCB_STATUS SCB_STATUS_STATE 4).fs SCB_STATUS SCB_STATUS_CAUSE c).logPut 7 0x0D 0 c) :=
      Streamed.trans (Streamed.trans (Streamed.trans hu (Streamed.wg _ _ _ _ (by decide))) (Streamed.wg _ _ _ _ (by decide)))
        (Recorded.logPut _ _ _ _ _).streamed
    refine Recorded.ofRecording hr hs.1 ⟨?_, ?_⟩ hs.2
    · rw [State.replaying, State.fg, (State.logPut_still _ _ _ _ _).2.2.1]
      rw [← State.fg, State.fg_fs_apart _ _ _ _ _ _ (by decide), State.fg_fs_same _ _ _ _ _ (by decide) (by decide)]
      decide
    · rw [(State.logPut_still _ _ _ _ _).2.2.2]
      exact ho
  · exact Recorded.refl s

theorem Recorded.scb (s : State) (ws : List Word) : Recorded s (s.scb ws) := by
  unfold State.scb
  split
  · rename_i hr
    dsimp only
    split
    · exact Recorded.scbEnd _ _ _
    · generalize hu : ({ s with obs := { s.obs with staging := s.obs.staging ++ ws } } : State) = u
      have hs : Streamed s (u.scbFlush (s.obs.staging ++ ws).length) :=
        Streamed.trans (by rw [← hu]; exact Streamed.setObs _ _) (Streamed.scbFlush _ _)
      refine Recorded.ofRecording hr hs.1 ⟨?_, ?_⟩ hs.2
      · rw [State.replaying, State.fg, (State.scbFlush_still _ _).1, ← hu]
        exact State.not_replaying hr
      · rw [(State.scbFlush_still _ _).2, ← hu]
  · exact Recorded.refl s

/-- A replay's own state moves. -/
theorem Recorded.setRep (s : State) (r : Replay) (h : s.replaying = true) : Recorded s (s.setRep r) :=
  ⟨rfl, fun hr => ⟨rfl, rfl, hr, fun _ => rfl⟩, fun hp => by simp [h] at hp, fun _ _ _ => rfl⟩

/-- A replay stops. -/
theorem Recorded.repStop (s : State) (c o : Nat) (h : s.replaying = true) : Recorded s (s.repStop c o) := by
  unfold State.repStop
  generalize hu : (((s.fs SCB_STATUS SCB_STATUS_STATE 4).fs SCB_STATUS SCB_STATUS_CAUSE c).wg SCB_DIVERGE
    (BitVec.ofNat 64 o)).setRep { s.obs.rep with frozen := true } = u
  have hs : Streamed s (u.logPut 7 0x0D 0 c) := by
    refine Streamed.trans ?_ (Recorded.logPut _ _ _ _ _).streamed
    rw [← hu]
    exact Streamed.trans (Streamed.trans (Streamed.trans (Streamed.wg _ _ _ _ (by decide)) (Streamed.wg _ _ _ _ (by decide)))
      (Streamed.wg _ _ _ _ (by decide))) (Streamed.setObs _ _)
  obtain ⟨h1, h2, h3, -⟩ := State.logPut_still u 7 0x0D 0 c
  refine ⟨hs.1, fun _ => ⟨h1.trans ?_, h2.trans ?_, ?_, fun hp => by simp [h] at hp⟩, fun hp => by simp [h] at hp, hs.2⟩
  · rw [← hu]; rfl
  · rw [← hu]; rfl
  · have e : u.fg SCB_STATUS SCB_STATUS_STATE = 4 := by
      rw [← hu]
      show State.fg (State.wg _ _ _ _) _ _ _ = 4
      rw [State.fg_wg_other _ _ _ _ _ _ _ (by decide), State.fg_fs_apart _ _ _ _ _ _ (by decide),
        State.fg_fs_same _ _ _ _ _ (by decide) (by decide)]
      decide
    rw [State.recording, State.fg, h3, ← State.fg, e]
    decide

theorem Recorded.judge (s : State) (k c : Nat) : Recorded s (s.judge k c) := by
  unfold State.judge
  split
  · rename_i h
    split
    · split
      · exact Recorded.setRep _ _ h
      · exact Recorded.repStop _ _ _ h
    · exact Recorded.refl s
  · exact Recorded.refl s

theorem Recorded.repCross (s : State) (k : Nat) : Recorded s (s.repCross k) := by
  unfold State.repCross
  split
  · rename_i h
    split
    · exact Recorded.setRep _ _ h
    · exact Recorded.refl s
  · exact Recorded.refl s

theorem Recorded.repMeet (s : State) (a b : Nat) : Recorded s (s.repMeet a b) := by
  unfold State.repMeet
  split
  · rename_i h
    rw [Bool.and_eq_true] at h
    split
    · exact Recorded.setRep _ _ h.1
    · exact Recorded.refl s
  · exact Recorded.refl s

theorem Recorded.repCheck (s : State) (k l c : Nat) : Recorded s (s.repCheck k l c) := by
  unfold State.repCheck
  split
  · rename_i h
    split
    · split
      · exact Recorded.setRep _ _ h
      · exact Recorded.repStop _ _ _ h
    · exact Recorded.refl s
  · exact Recorded.refl s

/-- A value comes from the stream only in a replay. -/
theorem Recorded.repValue (s : State) (o : Nat) (v : Word) :
    Recorded s (s.repValue o v).1 ∧ (s.replaying = false → (s.repValue o v).2 = v) := by
  unfold State.repValue
  by_cases h : s.replaying = true
  · simp only [h, if_true]
    split
    · exact ⟨Recorded.setRep _ _ h, by simp⟩
    · exact ⟨Recorded.refl s, by simp⟩
  · simp only [h]
    exact ⟨Recorded.refl s, fun _ => rfl⟩

theorem Recorded.contestAt (s : State) (p i l c : Nat) : Recorded s (s.contestAt p i l c) := by
  unfold State.contestAt
  dsimp only
  refine Recorded.trans ?_ (Recorded.setObs _ _ rfl)
  split
  · exact Recorded.trans (Recorded.scb _ _) (Recorded.judge _ _ _)
  · exact Recorded.refl s

theorem Recorded.contest (s : State) (p i c : Nat) : Recorded s (s.contest p i c) := Recorded.contestAt _ _ _ _ _
theorem Recorded.paceOutcome (s : State) (i c : Nat) : Recorded s (s.paceOutcome i c) := Recorded.scb _ _
theorem Recorded.hostw (s : State) (a : Nat) (v : Word) (n : Nat) : Recorded s (s.hostw a v n) := Recorded.scb _ _
theorem Recorded.phy (s : State) (u e a : Nat) : Recorded s (s.phy u e a) := Recorded.scb _ _
theorem Recorded.value (s : State) (o : Nat) (v : Word) : Recorded s (s.value o v) := Recorded.scb _ _

theorem Recorded.cross (s : State) (p i : Nat) : Recorded s (s.cross p i) := by
  unfold State.cross
  split
  · exact Recorded.trans (Recorded.scb _ _) (Recorded.setObs _ _ rfl)
  · exact Recorded.repCross _ _

theorem Recorded.crossIn (s : State) (a b : Nat) : Recorded s (s.crossIn a b) := by
  unfold State.crossIn
  repeat' split
  all_goals first | exact Recorded.cross _ _ _ | exact Recorded.refl s

theorem Recorded.input (s : State) (a b : Nat) (m : Bytes) : Recorded s (s.input a b m) := by
  unfold State.input
  refine Recorded.trans (Recorded.crossIn s a b) ?_
  generalize s.crossIn a b = u
  generalize payloads (wordsOf m (ceilDiv m.length 8)) (m.length + 1) = ws
  generalize (crc32c m).toNat = c
  dsimp only
  split
  · split
    · exact Recorded.trans (Recorded.scb u _) (Recorded.scb _ ws)
    · exact Recorded.scb u _
  · exact Recorded.repMeet u _ _

theorem Recorded.egress (s : State) (a : Nat) (m : Bytes) : Recorded s (s.egress a m) := by
  unfold State.egress
  generalize (crc32c m).toNat = c
  dsimp only
  generalize hu : ({ s with obs := { s.obs with egress := s.obs.egress + 1 } } : State) = u
  have h : Recorded s u := by rw [← hu]; exact Recorded.setObs _ _ rfl
  split
  · generalize [scbHead 11 1 (a * 2 ^ 52 + m.length % 2 ^ 21 * 2 ^ 26 + s.tick), BitVec.ofNat 64 c] = ws
    refine Recorded.trans h (Recorded.trans (Recorded.scb u ws) ?_)
    exact Recorded.repCheck _ _ _ _
  · exact h

theorem Recorded.logEv (s : State) (b k x y : Nat) : Recorded s (s.logEv b k x y) :=
  Recorded.trans (Recorded.contest _ _ _ _) (Recorded.logPut _ _ _ _ _)
theorem Recorded.logDiscard (s : State) (a : Nat) : Recorded s (s.logDiscard a) := Recorded.logEv _ _ _ _ _

theorem Recorded.logLim (s : State) (q b k x y : Nat) : Recorded s (s.logLim q b k x y) := by
  unfold State.logLim
  split
  · exact Recorded.refl s
  · generalize hu : ({ s with obs := { s.obs with limit := SMap.ins s.obs.limit q s.ms } } : State) = u
    refine Recorded.trans ?_ (Recorded.logEv u b k x y)
    rw [← hu]
    exact Recorded.setObs _ _ rfl

/-- A read by self-timed logic or the management core is recorded, and outside a replay it gives the register's value. -/
theorem Recorded.readBy (s : State) (w : Init) (o : Nat) (v : Word) :
    Recorded s (s.readBy w o v).1 ∧ (s.replaying = false → (s.readBy w o v).2 = v) := by
  have key : Recorded s ((s.value o v).repValue o v).1 ∧ (s.replaying = false → ((s.value o v).repValue o v).2 = v) :=
    ⟨Recorded.trans (Recorded.value _ _ _) (Recorded.repValue _ _ _).1, fun h =>
      (Recorded.repValue _ _ _).2 ((Recorded.value s o v).2.2.1 h).1⟩
  unfold State.readBy
  split
  · exact key
  · exact key
  · exact ⟨Recorded.refl s, fun _ => rfl⟩

/-! ## What a state that differs only in what is recorded shows -/

theorem Recorded.rg {s t : State} (h : Recorded s t) (r : Reg) (i : List Nat) (hr : r.addr i ∉ recordRegs) :
    t.rg r i = s.rg r i := h.2.2.2 _ _ hr

theorem Recorded.fg {s t : State} (h : Recorded s t) (r : Reg) (f : Fld) (i : List Nat) (hr : r.addr i ∉ recordRegs) :
    t.fg r f i = s.fg r f i := by
  simp only [State.fg, h.rg r i hr]

theorem Recorded.flag {s t : State} (h : Recorded s t) (r : Reg) (f : Fld) (i : List Nat) (hr : r.addr i ∉ recordRegs) :
    t.flag r f i = s.flag r f i := by
  simp only [State.flag, h.fg r f i hr]

theorem Recorded.domState {s t : State} (h : Recorded s t) (d : Dom) : t.domState d = s.domState d :=
  h.fg _ _ _ (by cases d <;> decide)

theorem Recorded.domOn {s t : State} (h : Recorded s t) (d : Dom) : t.domOn d = s.domOn d := by
  simp only [State.domOn, h.domState]

theorem Recorded.now {s t : State} (h : Recorded s t) : t.now = s.now := by rw [h.1]; rfl

end Sys2Proof.Machine
end

