-- ==== Sys2Proof/Laws/Access.lean ====
section
/-! SUPPORT. Laws of register writes: a write that may take its effect gives it, on a state that differs from the one before
only in what is recorded. -/

namespace Sys2Proof.Machine

theorem Recorded.kickHolds {s t : State} (h : Recorded s t) (a n : Nat) : t.kickHolds a n = s.kickHolds a n := by
  have e : ∀ k, t.kState k = s.kState k := by
    intro k; rw [h.1]; rfl
  rw [h.1]; rfl

/-- What a live unit records leaves it live. -/
theorem Recorded.live {s t : State} (h : Recorded s t) (hl : Live s) : Live t := by
  obtain ⟨h1, h2⟩ := h.2.2.1 hl.1
  exact ⟨h1, by rw [h2]; exact hl.2⟩

theorem Live.deaf {s : State} (h : Live s) : s.deaf = false := by simp [State.deaf, h.1, h.2]

/-- A write that may take its effect. -/
theorem State.csrWrite_spec (s : State) (r : Reg) (i : List Nat) (who : Init) (v : Word) (f : State → State)
    (h : Writes s r i who) : ∃ m, Recorded s m ∧ s.csrWrite r i who v f = f m := by
  obtain ⟨h1, h2, h3, h4, h5⟩ := h
  unfold State.csrWrite
  dsimp only
  generalize hs0 : (if who = .host then s.hostw (0x8000000000 + r.addr i) v (r.width / 8) else s) = s0
  have hs : Recorded s s0 := by
    rw [← hs0]
    split
    · exact Recorded.hostw _ _ _ _
    · exact Recorded.refl s
  have hc := hs.trans (Recorded.contest s0 25 (r.addr i / 0x100000) who.contender)
  refine ⟨_, hc, ?_⟩
  rw [if_neg (by simp [h1]), if_neg (by simp [(hs.live h5).deaf]), if_pos (by rw [hs.domOn, h2]),
    if_neg (by rw [hc.kickHolds, h3]; decide)]
  unfold State.guardWrite
  split
  · split
    · rename_i hg; rcases h4 hg with h | h <;> simp_all
    · rfl
  · split
    · rename_i hg; rcases h4 hg with h | h <;> simp_all
    · rfl
  · rfl

end Sys2Proof.Machine
end

