-- ==== Sys2Proof/Laws/Issue.lean ====
section
/-! SUPPORT. Laws of the issue of an instruction: what a context that is ready does before the instruction's own effect. -/

namespace Sys2Proof.Machine

@[simp] theorem State.ctx_setCtx_same (s : State) (c : Nat) (x : Ctx) : (s.setCtx c x).ctx c = x := by
  simp [State.ctx, State.setCtx]

theorem State.ctx_setCtx_other (s : State) (c k : Nat) (x : Ctx) (h : k ≠ c) : (s.setCtx c x).ctx k = s.ctx k := by
  simp only [State.ctx, State.setCtx]
  exact SMap.get_set_other _ _ _ _ _ _ h

@[simp] theorem State.core_setCtx (s : State) (c n : Nat) (x : Ctx) : (s.setCtx c x).core n = s.core n := rfl
@[simp] theorem State.ctx_setCore (s : State) (c n : Nat) (x : Core) : (s.setCore n x).ctx c = s.ctx c := rfl
@[simp] theorem State.ctx_wg (s : State) (r : Reg) (v : Word) (i : List Nat) (c : Nat) : (s.wg r v i).ctx c = s.ctx c := rfl
@[simp] theorem State.core_wg (s : State) (r : Reg) (v : Word) (i : List Nat) (n : Nat) : (s.wg r v i).core n = s.core n := rfl
@[simp] theorem State.coreImage_setCtx (s : State) (c n : Nat) (x : Ctx) : (s.setCtx c x).coreImage n = s.coreImage n := rfl

@[simp] theorem State.core_setCore_same (s : State) (n : Nat) (x : Core) : (s.setCore n x).core n = x := by
  simp [State.core, State.setCore]

theorem State.core_setCore_other (s : State) (n k : Nat) (x : Core) (h : k ≠ n) : (s.setCore n x).core k = s.core k := by
  simp only [State.core, State.setCore]
  exact SMap.get_set_other _ _ _ _ _ _ h

theorem OnlyCore.refl (s : State) (n : Nat) : OnlyCore s s n := ⟨rfl, rfl, rfl, fun _ _ => rfl, rfl, fun _ _ _ => rfl⟩

theorem OnlyCore.trans {s t u : State} {n : Nat} (h : OnlyCore s t n) (k : OnlyCore t u n) : OnlyCore s u n := by
  obtain ⟨h1, h0, h2, h3, h4, h5⟩ := h
  obtain ⟨k1, k0, k2, k3, k4, k5⟩ := k
  refine ⟨?_, ?_, ?_, fun j hj => (k3 j hj).trans (h3 j hj), ?_, fun a d ha => (k5 a d ha).trans (h5 a d ha)⟩
  · rw [k1]; rw [h1]
  · rw [k0]; rw [h0]
  · rw [k2]; rw [h2]
  · rw [k4]; rw [h4]

theorem OnlyCore.setCtx (s : State) (c n : Nat) (x : Ctx) : OnlyCore s (s.setCtx c x) n :=
  ⟨rfl, rfl, rfl, fun _ _ => rfl, rfl, fun _ _ _ => rfl⟩

/-- A change of a core's tag alone. -/
theorem OnlyCore.setTag (s : State) (n : Nat) (g : Nat) (l : BitVec 32) (t : Option TagRec) :
    OnlyCore s (s.setCore n { s.core n with tagGap := g, lfsr := l, tag := t }) n := by
  refine ⟨rfl, rfl, rfl, fun k hk => State.core_setCore_other _ _ _ _ hk, ?_, fun _ _ _ => rfl⟩
  simp

/-- A core counter counts. -/
theorem OnlyCore.pmcAdd (s : State) (n j k : Nat) (hj : j < 8) : OnlyCore s (s.pmcAdd PMC_CORE_CNT [n, j] k) n := by
  refine ⟨rfl, rfl, rfl, fun _ _ => rfl, rfl, fun a d ha => ?_⟩
  exact SMap.get_set_other _ _ _ _ _ _ (ha j hj)

/-- The core counters count; nothing else changes. -/
theorem State.pmcCore_spec (s : State) (c ev n : Nat) (l : List Nat) (hl : ∀ j ∈ l, j < 8) :
    OnlyCore s (s.pmcCore c ev n l) (c / 4) ∧ ∀ k, (s.pmcCore c ev n l).ctx k = s.ctx k := by
  induction l generalizing s with
  | nil => exact ⟨OnlyCore.refl s _, fun _ => rfl⟩
  | cons j t ih =>
    unfold State.pmcCore
    have hj : j < 8 := hl j (by simp)
    have ht : ∀ i ∈ t, i < 8 := fun i hi => hl i (by simp [hi])
    dsimp only
    split
    · obtain ⟨h1, h2⟩ := ih (s.pmcAdd PMC_CORE_CNT [c / 4, j] n) ht
      exact ⟨(OnlyCore.pmcAdd s (c / 4) j _ hj).trans h1, fun k => by rw [h2 k]; rfl⟩
    · exact ih s ht

/-- Counting an event of a context. -/
theorem State.count_spec (s : State) (c ev : Nat) :
    OnlyCore s (s.count c ev) (c / 4) ∧ ∀ k, (s.count c ev).ctx k = s.ctx k :=
  State.pmcCore_spec s c ev 1 _ (by decide)

/-- Noting something in a tag. -/
theorem State.tagUpd_spec (s : State) (c : Nat) (f : TagRec → TagRec) :
    OnlyCore s (s.tagUpd c f) (c / 4) ∧ ∀ k, (s.tagUpd c f).ctx k = s.ctx k := by
  unfold State.tagUpd
  dsimp only
  split
  · split
    · exact ⟨OnlyCore.setTag s _ (s.core (c / 4)).tagGap (s.core (c / 4)).lfsr _, fun _ => rfl⟩
    · exact ⟨OnlyCore.refl s _, fun _ => rfl⟩
  · exact ⟨OnlyCore.refl s _, fun _ => rfl⟩

theorem Core.tagEnds_spec (x : Core) (c now : Nat) : ∃ t, x.tagEnds c now = { x with tag := t } := by
  unfold Core.tagEnds
  split
  · split
    · exact ⟨_, rfl⟩
    · exact ⟨x.tag, rfl⟩
  · exact ⟨x.tag, rfl⟩

theorem Core.drawTag_spec (x : Core) (m : Nat) : ∃ g l, x.drawTag m = { x with tagGap := g, lfsr := l } := ⟨_, _, rfl⟩

/-- Tagging an instruction as it issues. -/
theorem State.tagIssue_spec (s : State) (c flags : Nat) :
    OnlyCore s (s.tagIssue c flags) (c / 4) ∧ ∀ k, (s.tagIssue c flags).ctx k = s.ctx k := by
  have key : ∀ g l t, OnlyCore s (s.setCore (c / 4) { s.core (c / 4) with tagGap := g, lfsr := l, tag := t }) (c / 4) ∧
      ∀ k, (s.setCore (c / 4) { s.core (c / 4) with tagGap := g, lfsr := l, tag := t }).ctx k = s.ctx k :=
    fun g l t => ⟨OnlyCore.setTag s _ g l t, fun _ => rfl⟩
  obtain ⟨t1, h1⟩ := Core.tagEnds_spec (s.core (c / 4)) c s.now
  unfold State.tagIssue
  dsimp only
  rw [h1]
  split
  · split
    · exact ⟨OnlyCore.refl s _, fun _ => rfl⟩
    · exact key _ _ _
  · split
    · exact key _ _ _
    · split
      · exact key _ _ _
      · obtain ⟨g, l, h2⟩ := Core.drawTag_spec { s.core (c / 4) with tag := t1 } (s.fg PMC_TAG_CFG PMC_TAG_CFG_MEAN_LOG2)
        rw [h2]
        exact key _ _ _

/-- Two states agree on a context but for its budget, and are otherwise as OnlyCore says. -/
theorem State.issueWith_ready (s : State) (c n flags : Nat) (p : Bool) (body : State → State) (h : Ready s c n) :
    ∃ u, s.issueWith c n flags p body = body u ∧ OnlyCore s u (c / 4) ∧
      u.ctx c = { s.ctx c with budget := (s.ctx c).budget - 1 } ∧ ∀ k, k ≠ c → u.ctx k = s.ctx k := by
  obtain ⟨h1, h2, h3, h4⟩ := h
  unfold State.issueWith State.modCtx
  simp only [h1, h2, h3, Bool.not_true, Bool.false_eq_true, if_false]
  rw [if_neg (by simp; omega)]
  refine ⟨_, rfl, ?_, ?_, ?_⟩
  · exact ((OnlyCore.setCtx _ _ _ _).trans (State.tagIssue_spec _ _ _).1).trans (State.count_spec _ _ _).1
  · rw [(State.count_spec _ _ _).2, (State.tagIssue_spec _ _ _).2, State.ctx_setCtx_same]
  · intro k hk
    rw [(State.count_spec _ _ _).2, (State.tagIssue_spec _ _ _).2, State.ctx_setCtx_other _ _ _ _ hk]

/-- Retiring an instruction. -/
theorem State.retire_spec (s : State) (c : Nat) (f : Ctx → Ctx) :
    OnlyCore s (s.retire c f) (c / 4) ∧ (s.retire c f).ctx c = { f (s.ctx c) with pc := (f (s.ctx c)).pc + 1 } ∧
      ∀ k, k ≠ c → (s.retire c f).ctx k = s.ctx k :=
  ⟨OnlyCore.setCtx _ _ _ _, by simp [State.retire, State.modCtx], fun k hk => State.ctx_setCtx_other _ _ _ _ hk⟩

/-- An instruction of one word whose effect is to retire with `f` of its context retires so. -/
theorem State.issue_retires (s : State) (c flags : Nat) (p : Bool) (f : Ctx → Ctx) (h : Ready s c 1)
    (hf : ∀ x : Ctx, (f x).pc = x.pc ∧ (f x).budget = x.budget ∧
      f { x with budget := x.budget - 1 } = { f x with budget := x.budget - 1 }) :
    ∃ t, s.issueWith c 1 flags p (fun u => u.retire c f) = t ∧
      t.ctx c = { f (s.ctx c) with pc := (s.ctx c).pc + 1, budget := (s.ctx c).budget - 1 } ∧
      (∀ k, k ≠ c → t.ctx k = s.ctx k) ∧ OnlyCore s t (c / 4) := by
  obtain ⟨u, hu, ho, hc, hk⟩ := State.issueWith_ready s c 1 flags p (fun u => u.retire c f) h
  obtain ⟨r1, r2, r3⟩ := State.retire_spec u c f
  refine ⟨_, hu, ?_, fun k h' => (r3 k h').trans (hk k h'), ho.trans r1⟩
  rw [r2, hc, (hf (s.ctx c)).2.2]
  simp [(hf (s.ctx c)).1]

@[simp] theorem Ctx.setReg_pc (x : Ctx) (d : Nat) (v : Word) : (x.setReg d v).pc = x.pc := by
  unfold Ctx.setReg; split <;> rfl
@[simp] theorem Ctx.setReg_budget (x : Ctx) (d : Nat) (v : Word) : (x.setReg d v).budget = x.budget := by
  unfold Ctx.setReg; split <;> rfl

end Sys2Proof.Machine
end

