-- ==== Sys2Proof/Laws/Memory.lean ====
section
/-! SUPPORT. Laws of memory: a byte reads as it was last stored and another one is left, and every memory operation keeps the
canonical form (R334, R402, assumption 1). -/

namespace Sys2Proof.Machine

/-! ## Bytes -/

@[simp] theorem State.byte_setByte_same (s : State) (a : Nat) (v : Byte) : (s.setByte a v).byte a = v := by
  simp [State.byte, State.setByte]

theorem State.byte_setByte_other (s : State) (a b : Nat) (v : Byte) (h : b ≠ a) : (s.setByte a v).byte b = s.byte b :=
  SMap.get_set_other _ _ _ _ _ _ h

/-- Storing bytes leaves every byte outside them. -/
theorem State.byte_setBytes_other (s : State) (a b : Nat) (d : Bytes) (h : b < a ∨ a + d.length ≤ b) :
    (s.setBytes a d).byte b = s.byte b := by
  induction d generalizing s a with
  | nil => rfl
  | cons x t ih =>
    simp only [List.length_cons] at h
    rw [State.setBytes, ih (s.setByte a x) (a + 1) (by omega), State.byte_setByte_other _ _ _ _ (by omega)]

@[simp] theorem State.diff_setDiff_same (s : State) (w : Nat) (e : BitVec 32) : (s.setDiff w e).diff w = e := by
  simp [State.diff, State.setDiff]

theorem State.diff_setDiff_other (s : State) (w k : Nat) (e : BitVec 32) (h : k ≠ w) : (s.setDiff w e).diff k = s.diff k :=
  SMap.get_set_other _ _ _ _ _ _ h

/-! ## The canonical form of a table -/

theorem SMap.set_canonical {α : Type} [DecidableEq α] (m : SMap α) (k : Nat) (v d : α)
    (h : (SMap.sorted m && m.all fun e => e.2 != d) = true) :
    (SMap.sorted (SMap.set m k v d) && (SMap.set m k v d).all fun e => e.2 != d) = true := by
  simp only [Bool.and_eq_true] at h ⊢
  unfold SMap.set
  split
  · exact ⟨SMap.sorted_del _ _ h.1, SMap.all_del _ _ _ h.2⟩
  · rename_i hv
    exact ⟨SMap.sorted_ins _ _ _ h.1, SMap.all_ins _ _ _ _ (by simpa using hv) h.2⟩

/-- A change of region order keeps a table sorted, with every value it lists. -/
theorem reorderMap_canonical {α : Type} [DecidableEq α] (u r old new : Nat) (m : SMap α) (d : α)
    (h : (SMap.sorted m && m.all fun e => e.2 != d) = true) :
    (SMap.sorted (reorderMap u r old new m) && (reorderMap u r old new m).all fun e => e.2 != d) = true := by
  suffices g : ∀ l acc : SMap α, (l.all fun e => e.2 != d) = true →
      (SMap.sorted acc && acc.all fun e => e.2 != d) = true →
      (SMap.sorted (l.foldl (fun acc e => SMap.ins acc (if e.1 / u / 2 ^ 19 = r then reorderKey u old new e.1 else e.1) e.2) acc)
        && (l.foldl (fun acc e => SMap.ins acc (if e.1 / u / 2 ^ 19 = r then reorderKey u old new e.1 else e.1) e.2) acc).all
          fun e => e.2 != d) = true by
    simp only [Bool.and_eq_true] at h
    exact g m [] h.2 rfl
  intro l
  induction l with
  | nil => intro acc _ ha; exact ha
  | cons e t ih =>
    intro acc hl ha
    simp only [List.all_cons, Bool.and_eq_true] at hl ha
    refine ih _ hl.2 ?_
    simp only [Bool.and_eq_true]
    exact ⟨SMap.sorted_ins _ _ _ ha.1, SMap.all_ins _ _ _ _ hl.1 ha.2⟩

/-! ## Every memory operation keeps it -/

/-- A state's memory is in its canonical form. -/
def State.MemOk (s : State) : Prop := Memory.wf s.mem = true ∧ Memory.chkWf s.chk = true

theorem State.MemOk.reset : State.reset.MemOk := ⟨rfl, rfl⟩

/-- A state with the same memory has the same form. -/
theorem State.MemOk.same {s t : State} (h : s.MemOk) (hm : t.mem = s.mem) (hc : t.chk = s.chk) : t.MemOk := by
  unfold State.MemOk
  rw [hm, hc]
  exact h

theorem State.MemOk.setByte {s : State} (h : s.MemOk) (a : Nat) (v : Byte) : (s.setByte a v).MemOk :=
  ⟨SMap.set_canonical _ _ _ _ h.1, h.2⟩

theorem State.MemOk.setDiff {s : State} (h : s.MemOk) (w : Nat) (e : BitVec 32) : (s.setDiff w e).MemOk :=
  ⟨h.1, SMap.set_canonical _ _ _ _ h.2⟩

theorem State.MemOk.setBytes {s : State} (h : s.MemOk) (a : Nat) (d : Bytes) : (s.setBytes a d).MemOk := by
  induction d generalizing s a with
  | nil => exact h
  | cons x t ih => exact ih (h.setByte a x) (a + 1)

theorem State.MemOk.wg {s : State} (h : s.MemOk) (r : Reg) (v : Word) (i : List Nat) : (s.wg r v i).MemOk := h
theorem State.MemOk.fs {s : State} (h : s.MemOk) (r : Reg) (f : Fld) (x : Nat) (i : List Nat) : (s.fs r f x i).MemOk := h
theorem State.MemOk.setObs {s : State} (h : s.MemOk) (o : Obs) : ({ s with obs := o } : State).MemOk := h

theorem State.MemOk.reorder {s : State} (h : s.MemOk) (r old new : Nat) :
    ({ s with mem := reorderMap 1792 r old new s.mem, chk := reorderMap 56 r old new s.chk } : State).MemOk :=
  ⟨reorderMap_canonical _ _ _ _ _ _ h.1, reorderMap_canonical _ _ _ _ _ _ h.2⟩

theorem State.MemOk.pmcBlk {s : State} (h : s.MemOk) (b off n : Nat) (js : List Nat) : (s.pmcBlk b off n js).MemOk := by
  induction js generalizing s with
  | nil => exact h
  | cons j t ih =>
    unfold State.pmcBlk
    dsimp only
    split
    · exact ih h
    · exact ih h

theorem State.MemOk.sendMsix {s : State} (h : s.MemOk) (v : Nat) : (s.sendMsix v).MemOk := by
  unfold State.sendMsix
  split
  · exact h
  · split <;> exact h

theorem State.MemOk.logPut {s : State} (h : s.MemOk) (b k x y : Nat) : (s.logPut b k x y).MemOk := by
  unfold State.logPut
  dsimp only
  split
  · exact State.MemOk.sendMsix ((h.setObs _).wg _ _ _) _
  · exact (h.setObs _).wg _ _ _

theorem State.MemOk.scbFlush {s : State} (h : s.MemOk) (n : Nat) : (s.scbFlush n).MemOk := by
  induction n generalizing s with
  | zero => exact h
  | succ n ih =>
    unfold State.scbFlush
    split
    · split
      · exact ih (State.MemOk.wg (State.MemOk.setDiff ((h.setBytes _ _).setObs _) _ _) _ _ _)
      · exact h
    · exact h

theorem State.MemOk.scbEnd {s : State} (h : s.MemOk) (m c : Nat) : (s.scbEnd m c).MemOk := by
  unfold State.scbEnd
  split
  · exact State.MemOk.logPut (((State.MemOk.scbFlush (h.setObs _) _).fs _ _ _ _).fs _ _ _ _) _ _ _ _
  · exact h

theorem State.MemOk.scb {s : State} (h : s.MemOk) (ws : List Word) : (s.scb ws).MemOk := by
  unfold State.scb
  split
  · dsimp only
    split
    · exact h.scbEnd _ _
    · exact State.MemOk.scbFlush (h.setObs _) _
  · exact h

theorem State.MemOk.rcUpdate {s : State} (h : s.MemOk) (a : Nat) : (s.rcUpdate a).MemOk := by
  unfold State.rcUpdate
  split
  · dsimp only
    refine State.MemOk.setObs ?_ _
    split
    · exact h.scb _
    · exact h
  · exact h

theorem State.MemOk.bump {s : State} (h : s.MemOk) (r : Reg) (i : List Nat) (n : Nat) : (s.bump r i n).MemOk := by
  unfold State.bump
  refine State.MemOk.pmcBlk ?_ _ _ _ _
  split
  · exact h.wg _ _ _
  · exact State.MemOk.wg (h.rcUpdate _) _ _ _

theorem State.MemOk.repStop {s : State} (h : s.MemOk) (c o : Nat) : (s.repStop c o).MemOk := by
  unfold State.repStop
  exact State.MemOk.logPut (by exact h) _ _ _ _

theorem State.MemOk.judge {s : State} (h : s.MemOk) (k c : Nat) : (s.judge k c).MemOk := by
  unfold State.judge
  split
  · split
    · split
      · exact h
      · exact h.repStop _ _
    · exact h
  · exact h

/-- A part of memory has the form. -/
theorem SMap.above_filter {α : Type} (m : SMap α) (b : Nat) (p : Nat × α → Bool) (h : SMap.above b m = true) :
    SMap.above b (m.filter p) = true := by
  induction m generalizing b with
  | nil => rfl
  | cons e t ih =>
    simp only [SMap.above, Bool.and_eq_true, decide_eq_true_eq] at h
    rw [List.filter_cons]
    split
    · simp only [SMap.above, Bool.and_eq_true, decide_eq_true_eq]
      exact ⟨h.1, ih _ h.2⟩
    · exact ih b (SMap.above_weaken _ _ _ (by omega) h.2)

theorem SMap.canonical_filter {α : Type} (m : SMap α) (p q : Nat × α → Bool) (h : (SMap.sorted m && m.all q) = true) :
    (SMap.sorted (m.filter p) && (m.filter p).all q) = true := by
  simp only [Bool.and_eq_true] at h ⊢
  refine ⟨?_, ?_⟩
  · cases m with
    | nil => rfl
    | cons e t =>
      rw [List.filter_cons]
      split
      · exact SMap.above_filter _ _ _ h.1
      · exact SMap.sorted_of_above _ _ (SMap.above_filter _ _ _ h.1)
  · rw [List.all_eq_true] at h ⊢
    exact fun x hx => h.2 x (List.mem_filter.mp hx).1

theorem State.MemOk.wipe {s : State} (h : s.MemOk) : s.wipe.MemOk :=
  ⟨SMap.canonical_filter _ _ _ h.1, SMap.canonical_filter _ _ _ h.2⟩

theorem State.MemOk.contestAt {s : State} (h : s.MemOk) (p i l c : Nat) : (s.contestAt p i l c).MemOk := by
  unfold State.contestAt
  dsimp only
  refine State.MemOk.setObs ?_ _
  split
  · exact State.MemOk.judge (h.scb _) _ _
  · exact h

theorem State.MemOk.contest {s : State} (h : s.MemOk) (p i c : Nat) : (s.contest p i c).MemOk := h.contestAt _ _ _ _

theorem State.MemOk.logEv {s : State} (h : s.MemOk) (b k x y : Nat) : (s.logEv b k x y).MemOk :=
  State.MemOk.logPut (h.contest _ _ _) _ _ _ _

theorem State.MemOk.logLim {s : State} (h : s.MemOk) (q b k x y : Nat) : (s.logLim q b k x y).MemOk := by
  unfold State.logLim
  split
  · exact h
  · exact State.MemOk.logEv (h.setObs _) _ _ _ _

theorem State.MemOk.memErr {s : State} (h : s.MemOk) (w k p c : Nat) : (s.memErr w k p c).MemOk :=
  ((h.wg _ _ _).wg _ _ _).wg _ _ _

theorem State.MemOk.decodeWord {s : State} (h : s.MemOk) (w c : Nat) : (s.decodeWord w c).1.MemOk := by
  unfold State.decodeWord
  split
  · exact h
  · exact State.MemOk.logLim (((h.setDiff _ _).bump _ _ _).memErr _ _ _ _) _ _ _ _ _
  · exact State.MemOk.logLim ((((h.setByte _ _).setDiff _ _).bump _ _ _).memErr _ _ _ _) _ _ _ _ _
  · exact State.MemOk.scb (((h.bump _ _ _).memErr _ _ _ _).logEv _ _ _ _) _

theorem State.MemOk.decodeWords {s : State} (h : s.MemOk) (w c n : Nat) : (s.decodeWords w c n).1.MemOk := by
  induction n generalizing s w with
  | zero => exact h
  | succ n ih => exact ih (h.decodeWord w c) (w + 1)

theorem State.MemOk.read {s : State} (h : s.MemOk) (a n c : Nat) : (s.read a n c).1.MemOk := h.decodeWords _ _ _

theorem State.MemOk.writeWord {s : State} (h : s.MemOk) (w : Nat) (d : Bytes) : (s.writeWord w d).MemOk := by
  unfold State.writeWord
  dsimp only
  have h1 : ((s.setBytes (w * 32) d).setDiff w 0).MemOk := (h.setBytes _ _).setDiff _ _
  split
  · split <;> refine State.MemOk.fs ?_ _ _ _ _ <;> split <;> (try split) <;>
      first
      | exact h1.setDiff _ _
      | exact (h1.setDiff _ _).setDiff _ _
      | exact (h1.setByte _ _).setDiff _ _
      | exact State.MemOk.setDiff (State.MemOk.setByte (h1.setDiff _ _) _ _) _ _
      | exact ((h1.setByte _ _).setDiff _ _).setDiff _ _
      | exact State.MemOk.setDiff (State.MemOk.setByte ((h1.setByte _ _).setDiff _ _) _ _) _ _
  · exact h1

theorem State.MemOk.mergeWord {s : State} (h : s.MemOk) (a : Nat) (d : Bytes) : (s.mergeWord a d).1.MemOk := by
  unfold State.mergeWord
  dsimp only
  split
  · exact State.MemOk.logEv ((h.bump _ _ _).memErr _ _ _ _) _ _ _ _
  · exact h.setBytes _ _
  · exact State.MemOk.setBytes (h.decodeWord _ _) _ _

theorem State.MemOk.writeN {s : State} (h : s.MemOk) (a : Nat) (d : Bytes) (n : Nat) : (s.writeN a d n).1.MemOk := by
  induction n generalizing s a d with
  | zero => exact h
  | succ n ih =>
    unfold State.writeN
    dsimp only
    split
    · exact h
    · split
      · exact ih (h.writeWord _ _) _ _
      · exact ih (h.mergeWord _ _) _ _

theorem State.MemOk.write {s : State} (h : s.MemOk) (a : Nat) (d : Bytes) : (s.write a d).1.MemOk := h.writeN _ _ _
theorem State.MemOk.writeLe {s : State} (h : s.MemOk) (a n v : Nat) : (s.writeLe a n v).MemOk := h.write _ _
theorem State.MemOk.setLink {s : State} (h : s.MemOk) (a n b f : Nat) : (s.setLink a n b f).MemOk := h.writeLe _ _ _

theorem State.MemOk.readPails {s : State} (h : s.MemOk) (c : Nat) (hs : List Nat) : (s.readPails c hs).1.MemOk := by
  induction hs generalizing s with
  | nil => exact h
  | cons x t ih => exact ih (h.read _ _ _)

theorem State.MemOk.fillPails {s : State} (h : s.MemOk) (hs : List Nat) (start : Nat) (d : Bytes) :
    (s.fillPails hs start d).MemOk := by
  induction hs generalizing s start d with
  | nil => exact h
  | cons x t ih => exact ih (State.MemOk.setLink (h.write _ _) _ _ _ _) _ _

theorem State.MemOk.setStrict {s : State} (h : s.MemOk) (a b : Nat) : (s.setStrict a b).MemOk := by
  unfold State.setStrict
  dsimp only
  split <;> split <;>
    first
    | exact ((h.fs _ _ _ _).fs _ _ _ _).fs _ _ _ _
    | exact State.MemOk.logEv (((h.fs _ _ _ _).fs _ _ _ _).fs _ _ _ _) _ _ _ _

end Sys2Proof.Machine
end

