-- ==== Sys2Proof/Tests/Slice0.lean ====
section
/-! SUPPORT. Tests: one step on a small state each, with the hypotheses of the statement it bears witness to. Expected values
come from the rules and tables of the spec and, for the ciphers and digests, from their published vectors. -/

namespace Sys2Proof.Tests

open Sys2Proof.Machine

set_option Elab.async false

/-- A command completes, and the state it leaves passes a test. -/
def ran (i : Instr) (s : State) (P : State → Prop) [DecidablePred P] : Bool :=
  match exec i s with
  | .next t => decide (P t)
  | _ => false

theorem gives_of_ran (i : Instr) (s : State) (P : State → Prop) [DecidablePred P] (h : ran i s P = true) : Gives i s P := by
  unfold ran at h
  split at h
  · rename_i t ht
    exact ⟨t, ht, of_decide_eq_true h⟩
  · cases h

/-- Every domain on, a second after power-on. -/
def on : State :=
  let s := Dom.all.foldl (fun (s : State) d => s.fs PWR_DOM_STATUS PWR_DOM_STATUS_STATE 2 [d.num]) State.reset
  { s with tmb := { s.tmb with ns := 1000000000, running := true } }

/-- A 100-byte frame in pail 1. -/
def fr : Frame := { pail := 1, len := 100 }

/-! ## Well-formed commands: one ill-formed command for each check -/

theorem test_wf :
    Instr.wf (.add 383 31 31 31) = true ∧ Instr.wf (.csrWrite (.peer 15) 0x300020 8 0) = true ∧
    Instr.wf (.ext 0 1 2 60 4) = true ∧ Instr.wf (.frameTxEnd 1 3) = true := by decide +kernel

/-- An operand of an instruction out of its range: context, register, predicate, immediate, shift, field, guard. -/
theorem test_wf_instruction :
    ∀ i ∈ [Instr.add 384 0 0 0, .add 0 32 0 0, .add 0 0 32 0, .cmpEq 0 8 0 0, .addi 0 0 0 0x10000, .shli 0 0 0 64, .ext 0 0 0 61 4,
      .ext 0 0 0 0 0, .pred 0 0 false 0, .pred 0 0 false 5, .bt 0 0 0x200000, .movx 0 0 0x100000000, .treeLookup 0 0 0 0 4,
      .mfs 0 0 32],
      i.wf = false := by decide +kernel

/-- An operand of another command out of its range: access, initiator, index, unit, queue pair, device, station, TID, SN, sub-port,
FIFO, length, leases. -/
theorem test_wf_command :
    ∀ i ∈ [Instr.csrWrite .host 0x300024 8 0, .csrWrite .host 0 3 0, .csrWrite (.ctx 384) 0 4 0, .csrWrite (.peer 16) 0 4 0,
      .indirRelease 513, .planRequest 3, .hifNop 64 0, .lostTimeout 16, .ackResponseReceive 0 1024 0 [], .ackResponseReceive 0 0 8 [],
      .blockackreqReceive 0 0 0 4096, .frameTxEnd 2 0, .frameTxEnd 0 4, .boundaryFifoEvent (.jesdTx 16), .boundaryFifoEvent (.linkRx 7),
      .commandFetch 0 [(0, [1])], .leaseGrantReceive 0 0 0 0 0 false, .takeoverLeaseReport 3 [(0x10000, 0, 0, 1)],
      .migrateStateArrive 0 [] [(8, 0, 0, 1)], .strapLatch 4 0 0, .paceWindowEnd (List.replicate 129 0)],
      i.wf = false := by decide +kernel

/-! ## Instructions -/

/-- Context 5, on core 1, runs at word 2 of 16 with ten instructions left, `a` in g2 and `b` in g3; p2 is 1. -/
def isa (a b : Word) : State :=
  let x : Ctx := { st := .running, pc := 2, budget := 10, p := 5, g := [(2, a), (3, b)] }
  let m : Image := { id := 7, sharedLen := 4096, budget := 100, faultEntry := 3, code := List.replicate 64 0 }
  { on with drk := { ctxs := [(5, x)], cores := [(1, { bound := 1 })], images := [(1, m)] } }

/-- The instruction retires with `v` in g4. -/
def puts (i : Instr) (a b v : Word) : Bool :=
  ran i (isa a b) fun t => (t.ctx 5).reg 4 = v ∧ (t.ctx 5).pc = 3 ∧ (t.ctx 5).budget = 9

/-- The instruction retires with `q` in p1. -/
def sets (i : Instr) (a b : Word) (q : Bool) : Bool :=
  ran i (isa a b) fun t => (t.ctx 5).pred 1 = q ∧ (t.ctx 5).pred 2 = true ∧ (t.ctx 5).pc = 3 ∧ (t.ctx 5).budget = 9

theorem test_ready : Ready (isa 1 2) 5 1 ∧ Ready (isa 1 2) 5 2 := by unfold Ready; decide +kernel

theorem test_registers :
    (((isa 1 2).ctx 5).setReg 0 9).reg 0 = 0 ∧ (((isa 1 2).ctx 5).setReg 36 9).reg 4 = 9 ∧
    (((isa 1 2).ctx 5).setPred 0 false).pred 8 = true ∧ (((isa 1 2).ctx 5).setPred 3 true).pred 11 = true := by decide +kernel

theorem test_arithmetic :
    puts (.add 5 4 2 3) (-1) 2 1 = true ∧ puts (.sub 5 4 2 3) 1 2 (-1) = true ∧ puts (.mul 5 4 2 3) (-1) 3 (-3) = true ∧
    puts (.mulhu 5 4 2 3) (-1) 3 2 = true ∧ puts (.min 5 4 2 3) (-1) 2 (-1) = true ∧ puts (.max 5 4 2 3) (-1) 2 2 = true ∧
    puts (.minu 5 4 2 3) (-1) 2 2 = true ∧ puts (.maxu 5 4 2 3) (-1) 2 (-1) = true ∧
    puts (.sel 5 4 2 3 2) 8 9 8 = true ∧ puts (.sel 5 4 2 3 1) 8 9 9 = true := by decide +kernel

theorem test_logic :
    puts (.and 5 4 2 3) 12 10 8 = true ∧ puts (.or 5 4 2 3) 12 10 14 = true ∧ puts (.xor 5 4 2 3) 12 10 6 = true ∧
    puts (.andn 5 4 2 3) 12 10 4 = true ∧ puts (.shl 5 4 2 3) 1 65 2 = true ∧ puts (.shr 5 4 2 3) (-1) 127 1 = true ∧
    puts (.sar 5 4 2 3) (-8) 65 (-4) = true := by decide +kernel

theorem test_bits :
    puts (.popc 5 4 2) (-1) 0 64 = true ∧ puts (.clz 5 4 2) 0 0 64 = true ∧ puts (.clz 5 4 2) 0x8000 0 48 = true ∧
    puts (.bswap 5 4 2) 0x0102030405060708 0 0x0807060504030201 = true ∧
    puts (.bswap4 5 4 2) 0x0102030405060708 0 0x08070605 = true ∧ puts (.bswap2 5 4 2) 0x0102030405060708 0 0x0807 = true := by
  decide +kernel

theorem test_compare :
    sets (.cmpEq 5 1 2 3) 3 3 true = true ∧ sets (.cmpNe 5 1 2 3) 3 3 false = true ∧ sets (.cmpLt 5 1 2 3) (-1) 0 true = true ∧
    sets (.cmpGe 5 1 2 3) (-1) 0 false = true ∧ sets (.cmpLtu 5 1 2 3) (-1) 0 false = true ∧
    sets (.cmpGeu 5 1 2 3) (-1) 0 true = true ∧ sets (.cmpTst 5 1 2 3) 6 4 true = true ∧
    sets (.cmpNtst 5 1 2 3) 6 4 false = true := by decide +kernel

theorem test_predicates :
    sets (.pand 5 1 2 0) 0 0 true = true ∧ sets (.por 5 1 3 2) 0 0 true = true ∧ sets (.pxor 5 1 2 0) 0 0 false = true ∧
    sets (.pandn 5 1 2 3) 0 0 true = true ∧ sets (.pnot 5 1 3) 0 0 true = true ∧ puts (.mfp 5 4) 0 0 5 = true ∧
    sets (.mtp 5 2) 6 0 true = true := by decide +kernel

theorem test_fields :
    puts (.ext 5 4 2 4 8) 0xABCD 0 0xBC = true ∧ puts (.exts 5 4 2 4 8) 0xABCD 0 (BitVec.ofInt 64 (-68)) = true ∧
    puts (.ins 5 4 2 8 4) 0xF 0 0xF00 = true ∧ puts (.clrf 5 4 2 60 4) (-1) 0 0x0FFFFFFFFFFFFFFF = true := by decide +kernel

theorem test_immediates :
    puts (.addi 5 4 2 0xFFFF) 1 0 0 = true ∧ puts (.andi 5 4 2 0xFFF0) (-1) 0 0xFFF0 = true ∧ puts (.ori 5 4 2 0x8000) 1 0 0x8001 = true ∧
    puts (.xori 5 4 2 0xFFFF) 1 0 0xFFFE = true ∧ puts (.shli 5 4 2 63) 1 0 0x8000000000000000 = true ∧
    puts (.shri 5 4 2 63) (-1) 0 1 = true ∧ puts (.sari 5 4 2 63) (-2) 0 (-1) = true ∧
    puts (.lui 5 4 0x8000) 0 0 0xFFFFFFFF80000000 = true := by decide +kernel

theorem test_compareImmediates :
    sets (.cmpiEq 5 1 2 0xFFFF) (-1) 0 true = true ∧ sets (.cmpiNe 5 1 2 0xFFFF) (-1) 0 false = true ∧
    sets (.cmpiLt 5 1 2 0xFFFF) (-2) 0 true = true ∧ sets (.cmpiGe 5 1 2 0xFFFF) 0 0 true = true ∧
    sets (.cmpiuEq 5 1 2 0xFFFF) (-1) 0 false = true ∧ sets (.cmpiuNe 5 1 2 0xFFFF) 0xFFFF 0 false = true ∧
    sets (.cmpiuLtu 5 1 2 0xFFFF) 0xFFFE 0 true = true ∧ sets (.cmpiuGeu 5 1 2 0xFFFF) (-1) 0 true = true := by decide +kernel

/-- A wide immediate, which takes two words. -/
def wide (i : Instr) (a v : Word) : Bool :=
  ran i (isa a 0) fun t => (t.ctx 5).reg 4 = v ∧ (t.ctx 5).pc = 4 ∧ (t.ctx 5).budget = 9

theorem test_wideImmediates :
    wide (.movx 5 4 0x80000000) 0 0x80000000 = true ∧ wide (.movxs 5 4 0x80000000) 0 0xFFFFFFFF80000000 = true ∧
    wide (.orhx 5 4 2 0x12345678) 1 0x1234567800000001 = true ∧ wide (.addx 5 4 2 0xFFFFFFFF) 5 4 = true := by decide +kernel

/-- The context continues at word `pc` with `v` in g31. -/
def goes (i : Instr) (pc : Nat) (v : Word) : Bool :=
  ran i (isa 15 0) fun t => (t.ctx 5).pc = pc ∧ (t.ctx 5).reg 31 = v ∧ (t.ctx 5).budget = 9 ∧ (t.ctx 5).inFault = false

theorem test_branches :
    goes (.bt 5 2 0x1FFFFE) 0 0 = true ∧ goes (.bt 5 1 5) 3 0 = true ∧ goes (.bf 5 1 13) 15 0 = true ∧ goes (.bf 5 2 1) 3 0 = true ∧
    goes (.branchB 5 4) 6 0 = true := by decide +kernel

theorem test_calls :
    goes (.call 5 4) 6 3 = true ∧ goes (.callt 5 2 4) 6 3 = true ∧ goes (.callt 5 1 4) 3 0 = true ∧ goes (.callf 5 1 4) 6 3 = true ∧
    goes (.callf 5 2 4) 3 0 = true ∧ goes (.jr 5 31 2) 15 3 = true := by decide +kernel

/-- Context 5 with its next two instructions squashed. -/
def squashed : State := (isa 1 2).setCtx 5 { (isa 1 2).ctx 5 with guardN := 2, guardSquash := true }

theorem test_squash :
    squashed.canIssue 5 = true ∧ ∀ i ∈ [Instr.add 5 4 2 3, .ld8 5 4 2 0, .st8 5 4 2 0, .aadd 5 4 2 3, .jr 5 4 2, .mts 5 4 2,
      .pred 5 4 true 2, .endEvent 5, .drop 5 4 2, .enqTmg 5 4 2 3, .churn 5, .unassignedInstruction 5 0],
      ran i squashed (fun t => t = squashed.setCtx 5 { squashed.ctx 5 with pc := 3, budget := 9, guardN := 1 }) = true := by
  decide +kernel

/-- A squashed word of form X takes two words, assigned or not. -/
theorem test_squashWide :
    assigned 0xC0000004 = false ∧ ∀ i ∈ [Instr.unassignedInstruction 5 0xC0000004, .movx 5 4 1], ran i squashed (fun t =>
      (t.ctx 5).pc = 4 ∧ (t.ctx 5).budget = 9 ∧ (t.ctx 5).guardN = 1 ∧ (t.ctx 5).reg 4 = 0) = true := by decide +kernel

theorem test_nop : ran (.nop 5) (isa 1 2) (fun t => t.ctx 5 = { (isa 1 2).ctx 5 with pc := 3, budget := 9 }) = true := by decide +kernel

theorem test_mfs :
    puts (.mfs 5 4 0) 0 0 5 = true ∧ puts (.mfs 5 4 1) 0 0 0 = true ∧ puts (.mfs 5 4 2) 0 0 7 = true ∧ puts (.mfs 5 4 4) 0 0 9 = true ∧
    puts (.mfs 5 4 9) 0 0 ((isa 0 0).rg PMC_CORE_TICK [1]) = true := by decide +kernel

theorem test_mts :
    ran (.mts 5 23 2) (isa 6 0) (fun t => SMap.get (t.ctx 5).keep 7 0 = 6 ∧ (t.ctx 5).pc = 3) = true := by decide +kernel

theorem test_pred :
    ran (.pred 5 2 true 4) (isa 6 0) (fun t => (t.ctx 5).guardN = 4 ∧ (t.ctx 5).guardSquash = true) = true ∧
    ran (.pred 5 2 false 1) (isa 6 0) (fun t => (t.ctx 5).guardN = 1 ∧ (t.ctx 5).guardSquash = false) = true := by decide +kernel

theorem test_end :
    ran (.endEvent 5) (isa 6 0) (fun t => (t.ctx 5).st = .waiting ∧ (t.ctx 5).blocked = .drain ∧ (t.ctx 5).budget = 9) = true := by
  decide +kernel

/-- The same with a store through the fabric window on its way. -/
def isaStore : State :=
  let s := isa 1 2
  let o : FabOp := { seq := 0, msg := .store 0 8 0, tok := .store 5 0, at_ := 0, sent := 0 }
  { s with fab := { s.fab with ops := [(3, [o])] } }

theorem test_fence :
    ((isa 1 2).storesBefore 5 0 = false ∧ ran (.fence 5) (isa 1 2) (fun t => (t.ctx 5).st = .running ∧ (t.ctx 5).pc = 3) = true) ∧
    (isaStore.storesBefore 5 0 = true ∧ ran (.fence 5) isaStore (fun t => (t.ctx 5).st = .waiting ∧ (t.ctx 5).blocked = .fence) = true) := by
  decide +kernel

/-- g2 points at an offset of a space. -/
def near (sp off : Nat) (b : Word) : State :=
  let s := isa (BitVec.ofNat 64 (sp * 2 ^ 40 + off)) b
  { s with drk := { s.drk with cores := [(1, { bound := 1, locl := [(9, 0x34), (10, 0x82)] })] } }

theorem test_near_witness :
    Near (near 1 65528 0) 5 (((near 1 65528 0).ctx 5).reg 2 + (0 : BitVec 16).signExtend 64) 8 1 65528 ∧
    Near (near 2 4088 0) 5 (((near 2 4088 0).ctx 5).reg 2 + (0 : BitVec 16).signExtend 64) 8 2 4088 ∧
    Near (near 3 248 0) 5 (((near 3 248 0).ctx 5).reg 2 + (0 : BitVec 16).signExtend 64) 8 3 248 := by unfold Near; decide +kernel

theorem test_loads :
    (∀ p ∈ [(Instr.ld1 5 4 2 10, (0x82 : Word)), (.ld1s 5 4 2 10, BitVec.ofInt 64 (-126)), (.ld2 5 4 2 10, 0x82), (.ld2s 5 4 2 10, 0x82),
      (.ld4 5 4 2 8, 0x823400), (.ld4s 5 4 2 8, 0x823400), (.ld8 5 4 2 8, 0x823400)],
      ran p.1 (near 1 0 0) (fun t => (t.ctx 5).reg 4 = p.2 ∧ (t.ctx 5).pc = 3) = true) := by decide +kernel

theorem test_stores :
    (∀ p ∈ [(Instr.st1 5 3 2 0, 1), (.st2 5 3 2 0, 2), (.st4 5 3 2 0, 4), (.st8 5 3 2 0, 8)],
      ran p.1 (near 2 4088 0x0102030405060708) (fun t =>
        t.nearBytes 5 2 4088 8 = ([8, 7, 6, 5, 4, 3, 2, 1] : Bytes).take p.2 ++ List.replicate (8 - p.2) 0 ∧ (t.ctx 5).pc = 3) = true) ∧
    ran (.st1 5 3 2 0) (near 3 64 0xAA) (fun t => (t.ctx 5).winByte 64 = 0xAA ∧ (t.ctx 5).winDirty = true) = true := by decide +kernel

/-- An atomic on local word 8 leaves `new` there and the old value in g4. -/
def atom (i : Instr) (b : Word) (new : Nat) : Bool :=
  ran i (near 1 8 b) fun t => (t.ctx 5).reg 4 = 0x823400 ∧ leNat (t.nearBytes 5 1 8 8) = new

theorem test_atomics :
    atom (.aswap 5 4 2 3) 7 7 = true ∧ atom (.aadd 5 4 2 3) 1 0x823401 = true ∧ atom (.aor 5 4 2 3) 1 0x823401 = true ∧
    atom (.aand 5 4 2 3) 0xFF00 0x3400 = true ∧ atom (.acas 5 4 2 3) 9 0x823400 = true ∧
    ran (.acas 5 2 2 3) (near 1 16 9) (fun t => leNat (t.nearBytes 5 1 16 8) = 0) = true := by decide +kernel

/-- g2 points at a word of DRAM that holds 3. -/
def memS (b : Word) : State := (isa 0x1000 b).writeLe 0x1000 8 3

theorem test_memoryAccess :
    (((memS 9).ctx 5).reg 2 + (0 : BitVec 16).signExtend 64).toNat = 0x1000 ∧ (memS 9).domOn .memory = true ∧
    ((memS 9).recording = false ∧ (memS 9).flag MEM_INJECT MEM_INJECT_ARM = false ∧ (memS 9).cph.slots = []) ∧
    ran (.ld8 5 4 2 0) (memS 9) (fun t => (t.ctx 5).reg 4 = 3 ∧ (t.ctx 5).pc = 3) = true ∧
    ran (.st8 5 3 2 0) (memS 9) (fun t => t.bytes 0x1000 8 = leBytes 8 9 ∧ (t.ctx 5).pc = 3) = true := by decide +kernel

/-- The context enters its fault entry with a code and an address. -/
def flt (i : Instr) (s : State) (code : Nat) (a : Word) : Bool :=
  ran i s fun t => t.ctx 5 = { s.ctx 5 with pc := 3, budget := 73, faultCode := code, faultPc := 2, faultAddr := a, inFault := true }

theorem test_operandFaults :
    assigned 0xFFFFFFFF = false ∧ flt (.unassignedInstruction 5 0xFFFFFFFF) (isa 0 0) 1 0 = true ∧ flt (.mts 5 15 2) (isa 0 0) 1 0 = true ∧
    flt (.jr 5 4 2) (isa 0x100000000 0) 0xC 0 = true ∧ flt (.ld8 5 4 2 0) (isa 0x10000000001 0) 3 0x10000000001 = true ∧
    flt (.st8 5 4 2 0) (isa 0x10000000001 0) 3 0x10000000001 = true ∧ flt (.hdrFetch 5 4 2) (isa 0 0) 0xA 0 = true ∧
    flt (.hdrPush 5 4 2) (isa 0 0) 0xA 0 = true ∧ flt (.churn 5) (isa 0 0) 0xA 0 = true ∧ flt (.enqTmg 5 4 2 0) (isa 7 0) 0xB 0 = true ∧
    flt (.drop 5 4 2) (isa 7 0) 0xB 0 = true ∧ flt (.clone 5 4 2) (isa 7 0) 0xB 0 = true ∧ flt (.waitany 5 4) (isa 0 0) 0xA 0 = true ∧
    flt (.wait 5 4 0) (isa 0 0) 0xA 0 = true := by decide +kernel

/-- Only g2 decides whether these fault. -/
theorem test_takesFaults : TakesFaults (isa 0 0) 5 ∧ TakesFaults (memS 9) 5 := by unfold TakesFaults; decide +kernel

theorem test_codeRange :
    flt (.bt 5 2 14) (isa 0 0) 0xC 0 = true ∧ flt (.bf 5 1 0x1FFFFD) (isa 0 0) 0xC 0 = true ∧ flt (.branchB 5 14) (isa 0 0) 0xC 0 = true ∧
    flt (.call 5 14) (isa 0 0) 0xC 0 = true ∧ flt (.callt 5 2 14) (isa 0 0) 0xC 0 = true ∧ flt (.callf 5 1 14) (isa 0 0) 0xC 0 = true ∧
    flt (.jr 5 4 2) (isa 16 0) 0xC 0 = true ∧ goes (.branchB 5 13) 15 0 = true := by decide +kernel

theorem test_reservedSpecials :
    flt (.mts 5 0 2) (isa 6 0) 1 0 = true ∧ flt (.mts 5 24 2) (isa 6 0) 1 0 = true ∧ flt (.mts 5 31 2) (isa 6 0) 1 0 = true ∧
    puts (.mfs 5 4 10) 6 0 0 = true ∧ puts (.mfs 5 4 31) 6 0 0 = true := by decide +kernel

theorem test_atomicMemory :
    inMem 0x1000 = true ∧ (memS 9).diff (0x1000 / 32) = 0 ∧ ran (.aadd 5 4 2 3) (memS 9) (fun t =>
      (t.ctx 5).reg 4 = 3 ∧ t.bytes 0x1000 8 = leBytes 8 12 ∧ t.byte 0x1008 = 0 ∧ (t.ctx 5).pc = 3) = true := by decide +kernel

theorem test_atomicFaults :
    flt (.aadd 5 4 2 3) (isa 0x10000000001 0) 3 0x10000000001 = true ∧ flt (.aswap 5 4 2 3) (isa 0x30000000040 0) 6 0x30000000040 = true ∧
    flt (.aor 5 4 2 3) (isa 0x8000300020 0) 2 0x8000300020 = true ∧ flt (.acas 5 4 2 3) (isa 0xC000000000 0) 2 0xC000000000 = true := by
  decide +kernel

theorem test_unmappedFaults :
    (isa 0x1C0000000 0).isUnmapped 0x1C0000000 8 = true ∧ flt (.ld8 5 4 2 0) (isa 0x1C0000000 0) 2 0x1C0000000 = true ∧
    flt (.st8 5 4 2 0) (isa 0x8000900000 0) 2 0x8000900000 = true := by decide +kernel

/-! ## Engine operations -/

/-- Context 5's event has the frame as its own; `a` is in g2 and `b` in g3. Of its bytes the first four are 1 to 4, and byte 40 is 41. -/
def evS (a b : Word) : State :=
  let s := (isa a b).setLink 1 0 64 100
  let s := (s.writeLe (s.pailAddr 1 + 64) 4 0x04030201).writeLe (s.pailAddr 1 + 104) 1 41
  { s.setCtx 5 { s.ctx 5 with frame := some fr, owned := [fr] } with memst := { s.memst with freshS := 1 } }

/-- A blocking operation answers a status and a value in g4. -/
def answers (i : Instr) (s : State) (st v : Nat) : Bool :=
  ran i s fun t => (t.ctx 5).pc = 3 ∧ (t.ctx 5).budget = 9 ∧ (t.ctx 5).reg 4 = BitVec.ofNat 64 (st * 2 ^ 56 + v)

theorem test_evS : ((evS 0 0).ctx 5).frame = some fr ∧ (evS 0 0).link 1 = (0, 64, 100) := by decide +kernel

theorem test_headerWindow :
    answers (.hdrFetch 5 4 2) (evS 40 0) 0 60 = true ∧ answers (.hdrStore 5 4 2) (evS 10 0) 0 64 = true ∧
    answers (.hdrPush 5 4 2) (evS 64 0) 0 164 = true ∧ answers (.hdrPull 5 4 2) (evS 99 0) 0 1 = true ∧
    ran (.hdrFetch 5 4 2) (evS 40 0) (fun t => (t.ctx 5).winByte 192 = 41) = true ∧
    ran (.hdrPush 5 4 2) (evS 3 0) (fun t => (t.ctx 5).winBytes 64 4 = [0, 0, 0, 1] ∧ (t.ctx 5).winBytes 6 2 = [103, 0]) = true ∧
    ran (.hdrPull 5 4 2) (evS 3 0) (fun t => (t.ctx 5).winByte 64 = 4 ∧ t.link 1 = (0, 67, 97)) = true := by decide +kernel

/-- g2 points at local memory, and WIRED is on or off. -/
def keyS (b : Word) (wired : Bool) : State :=
  let s := near 1 0 b
  if wired then s else s.fs PWR_DOM_STATUS PWR_DOM_STATUS_STATE 0 [Dom.wired.num]

theorem test_trees :
    (keyS 16 true).engineBytes 5 (((keyS 16 true).ctx 5).reg 2) 16 8 = some ([0, 0, 0, 0, 0, 0, 0, 0, 0, 0x34, 0x82, 0, 0, 0, 0, 0] : Bytes) ∧
    answers (.treeLookup 5 4 2 3 0) (keyS 16 false) 1 0 = true ∧
    ran (.treeLookup 5 4 2 3 1) (keyS 16 true) (fun t => (t.ctx 5).inFault = true) = ((keyS 16 true).treeKeyLen 0 1 != 16) := by
  decide +kernel

/-- Tree 1 of rule slot 0 is one leaf of one rule that any 8-byte key matches, with action 0x55. -/
def treeS : State :=
  let s := (keyS 8 true).fs SKM_SET_TREE0 SKM_SET_TREE0_NODE_BASE (0x4000000000 / 32) [0, 1]
  let s := (s.fs SKM_SET_TREE1 SKM_SET_TREE1_RULE_BASE (0x4000000000 / 32 + 1) [0, 1]).fs SKM_SET_TREE1 SKM_SET_TREE1_NRULES 1 [0, 1]
  (s.writeLe 0x4000000000 8 6).writeLe (0x4000000000 + 32 + 16) 8 0x100000055

theorem test_treeMatch :
    treeS.treeKeyLen (treeS.fg SKM_EPOCH SKM_EPOCH_CUR_SLOT) 1 = 8 ∧ answers (.treeLookup 5 4 2 3 1) treeS 0 0x550000 = true ∧
    answers (.treeLookup 5 4 2 3 2) treeS 4 0 = true := by decide +kernel

/-- An event whose epoch names no resident rule set. -/
theorem test_treeNoSet :
    (let s := (keyS 16 true).setCtx 5 { (keyS 16 true).ctx 5 with frame := some fr, epoch := 7 }
     s.setSlot 7 = none ∧ answers (.treeLookup 5 4 2 3 0) s 4 0 = true) := by decide +kernel

theorem test_hash :
    puts (.hash 5 4 2 3) 0x10000000000 8 0 = true ∧ puts (.hashix 5 4 2) 511 0 (BitVec.ofNat 64 (on.fg SKM_INDIR SKM_INDIR_CTX [511])) = true ∧
    ran (.hash 5 4 2 3) (keyS 64 false) (fun t => (t.ctx 5).reg 4 = 0) = true := by decide +kernel

theorem test_products :
    puts (.clmul 5 4 2 3) 3 3 5 = true ∧ puts (.clmulh 5 4 2 3) 0x8000000000000000 6 3 = true ∧ puts (.timefrac 5 4) 0 0 0 = true ∧
    puts (.time 5 4) 0 0 1000000000 = true := by decide +kernel

/-- Posted in ticket slot 0: g4 is 0 and the operation is kept. -/
def posted (i : Instr) (s : State) (k : OpKind) (f : Option Frame) : Bool :=
  ran i s fun t => (t.ctx 5).pc = 3 ∧ (t.ctx 5).reg 4 = 0 ∧ (t.ctx 5).ticket 0 = .pending 0 ∧
    (SMap.find t.drk.ops 0).map (fun o => o.ctx == 5 && o.slot == 0 && o.kind == k && o.frame == f && !o.orphan) = some true ∧
    (f = none ∨ (t.ctx 5).owned = [])

theorem test_posted :
    posted (.enqAir 5 4 2 3) (evS 1 0x70123) (.enqAir 0x123 7) (some fr) = true ∧
    posted (.enqTmg 5 4 2 3) (evS 1 767) (.enqTmg 767 (List.replicate 8 0)) (some fr) = true ∧
    posted (.clone 5 4 2) (evS 1 0) .clone (some fr) = true ∧
    posted (.renq 5 4 2 3) (evS 1 0x310123) (.renq 0x123 1 3) (some fr) = true ∧
    posted (.cblkEnc 5 4 2 3) (near 1 32 4095) (.cblk true 4095 32 (List.replicate 16 0)) none = true ∧
    posted (.cblkDec 5 4 2 3) (near 1 32 4095) (.cblk false 4095 32 (List.replicate 16 0)) none = true ∧
    posted (.rmsg 5 4 2 3) (near 1 64 15) (.rmsg 15 (List.replicate 64 0)) none = true ∧
    posted (.leaveAsk 5 4 2 3) (isa 7 65535) .leave none = true := by decide +kernel

theorem test_deqAir :
    answers (.deqAir 5 4 2) (isa 8191 0) 8 0 = true ∧ answers (.deqAir 5 4 2) ((isa 8191 0).fs PWR_DOM_STATUS PWR_DOM_STATUS_STATE 0 [10]) 1 0 = true ∧
    ran (.deqAir 5 4 2) { isa 3 0 with air := { qs := [(3, { frames := [{ frame := fr, stamp := 1000000000 }] })] } } (fun t =>
      (t.ctx 5).reg 4 = BitVec.ofNat 64 (1 + 100 * 2 ^ 32) ∧ (t.ctx 5).owned = [fr] ∧ (t.aq 3).frames = []) = true := by decide +kernel

theorem test_drop :
    ran (.drop 5 4 2) (evS 1 0) (fun t => (t.ctx 5).pc = 3 ∧ (t.ctx 5).reg 4 = 0 ∧ (t.ctx 5).owned = [] ∧ t.memst.retS = [1]) = true := by
  decide +kernel

/-- Context 5 holds grant 12. -/
def grantS : State :=
  let s := (isa 12 0).setCtx 5 { (isa 12 0).ctx 5 with grants := [12] }
  { s with pwr := { s.pwr with grants := [(0, { cls := clsProgram, amount := 5, req := 6, index := 5, id := 12 })] } }

theorem test_leaveGive :
    ran (.leaveGive 5 4 2) grantS (fun t => (t.ctx 5).pc = 3 ∧ (t.ctx 5).reg 4 = 0 ∧ (t.ctx 5).grants = [] ∧ t.pwr.grants = []) = true := by
  decide +kernel

/-- Context 5 with its tickets. -/
def tick (a : Word) (m : SMap Ticket) : State := (isa a 0).setCtx 5 { (isa a 0).ctx 5 with tickets := m }

theorem test_wait :
    ran (.wait 5 4 2) (tick 7 [(7, .ready 99)]) (fun t => (t.ctx 5).reg 4 = 99 ∧ (t.ctx 5).ticket 7 = .free ∧ (t.ctx 5).pc = 3) = true ∧
    ran (.wait 5 4 2) (tick 7 [(7, .pending 1)]) (fun t => (t.ctx 5).st = .waiting ∧ (t.ctx 5).blocked = .ticket 7 4 ∧ (t.ctx 5).pc = 2) = true := by
  decide +kernel

theorem test_waitany :
    ran (.waitany 5 4) (tick 0 [(1, .pending 1), (2, .ready 8), (3, .ready 9)]) (fun t => (t.ctx 5).reg 4 = 8 ∧ (t.ctx 5).ticket 2 = .free) = true ∧
    ran (.waitany 5 4) (tick 0 [(1, .pending 1)]) (fun t => (t.ctx 5).st = .waiting ∧ (t.ctx 5).blocked = .anyTicket 4) = true := by decide +kernel

theorem test_until :
    puts (.untilTime 5 4 2) 1000000000 0 1000000000 = true ∧
    ran (.untilTime 5 4 2) (isa 1001000000 0) (fun t => (t.ctx 5).st = .waiting ∧ (t.ctx 5).blocked = .instant 1001000000 4) = true := by decide +kernel

theorem test_untilWake :
    ran (.untilWake 5) ((isa 0 0).setCtx 5 { (isa 0 0).ctx 5 with st := .waiting, blocked := .instant 1000000000 4 }) (fun t =>
      t.ctx 5 = { ((isa 0 0).ctx 5).setReg 4 1000000000 with pc := 3 }) = true := by decide +kernel

theorem test_churn :
    ((evS 0 0).ctx 5).winByte 2 ≠ 3 ∧
    ran (.churn 5) (evS 0 0) (fun t => (t.ctx 5).st = .waiting ∧ (t.ctx 5).blocked = .drainChurn ∧ (t.ctx 5).budget = 9) = true := by decide +kernel

/-- Operation 3 of context 5 has been answered with status 2 and value 6, for slot 1. -/
def opS (st : CtxSt) (b : Blocked) : State :=
  let s := (isa 0 0).setCtx 5 { (isa 0 0).ctx 5 with tickets := [(1, .pending 3)], st := st, blocked := b }
  { s with drk := { s.drk with ops := [(3, { ctx := 5, slot := 1, kind := .leave, frame := none, orphan := false, res := some (2, 6) })] } }

theorem test_opComplete :
    ran (.engineOpComplete 3) (opS .running .nothing) (fun t =>
      (t.ctx 5).ticket 1 = .ready 0x0210000000000006 ∧ t.drk.ops = []) = true ∧
    ran (.engineOpComplete 3) (opS .waiting (.ticket 1 4)) (fun t =>
      (t.ctx 5).reg 4 = 0x0210000000000006 ∧ (t.ctx 5).ticket 1 = .free ∧ (t.ctx 5).st = .running ∧ (t.ctx 5).pc = 3) = true ∧
    ran (.engineOpComplete 3) (opS .waiting (.anyTicket 4)) (fun t => (t.ctx 5).reg 4 = 0x0210000000000006) = true := by decide +kernel

theorem test_endDrainDone :
    ran (.endDrainDone 5) (grantS.setCtx 5 { grantS.ctx 5 with st := .waiting, blocked := .drain }) (fun t =>
      (t.ctx 5).st = .idle ∧ (t.ctx 5).grants = [] ∧ t.pwr.grants = [] ∧ (t.ctx 5).reg 2 = 12) = true := by decide +kernel

/-- A station's context at index 0x21, generation 1, held here as its home; g2 names its word `m`. -/
def staS (m : Nat) (b : Word) : State :=
  ((isa (BitVec.ofNat 64 (0x4021 + m * 2 ^ 16)) b).wg WMAC_CTX 0x14021 [0x21, 0]).wg WMAC_CTX 6 [0x21, 27]

/-- A station operation on word 27, which holds 6, leaves `new` there. -/
def staOp (i : Instr) (b new : Word) : Bool :=
  ran i (staS 27 b) fun t => (t.ctx 5).reg 4 = 6 ∧ (t.ctx 5).pred 7 = true ∧ (t.ctx 5).pc = 3 ∧ t.rg WMAC_CTX [0x21, 27] = new

theorem test_sta :
    (staS 27 0).ctxFor 0x4021 = true ∧ staOp (.staLd 5 4 2) 0 6 = true ∧ staOp (.staAdd 5 4 2 3) 3 9 = true ∧
    staOp (.staOr 5 4 2 3) 3 7 = true ∧ staOp (.staAndn 5 4 2 3) 3 4 = true ∧ staOp (.staCas 5 4 2 3) 3 6 = true ∧
    ran (.staCas 5 1 2 3) ((staS 27 9).setCtx 5 (((staS 27 9).ctx 5).setReg 1 6)) (fun t => t.rg WMAC_CTX [0x21, 27] = 9) = true ∧
    ran (.staAdd 5 4 2 3) (isa 0x1B4021 3) (fun t => (t.ctx 5).reg 4 = 0 ∧ (t.ctx 5).pred 7 = false ∧ (t.ctx 5).pc = 3) = true ∧
    ran (.staLd 5 4 2) (((staS 4 0).wg WMAC_CTX 0x24021 [0x21, 0]).wg WMAC_CTX 9 [0x21, 4]) (fun t =>
      (t.ctx 5).reg 4 = 0 ∧ (t.ctx 5).pred 7 = true) = true := by
  decide +kernel

/-! ## Words of instructions -/

theorem test_decode :
    Instr.wf (.add 5 5 6 7) = true ∧ decodeDreka 5 0x04A63800 0 = some (.add 5 5 6 7) ∧ encodeDreka (.add 5 5 6 7) = some 0x04A63800 ∧
    encodeWide (.movx 5 5 0x0C001234) = some (0xC0A00000, 0x0C001234) ∧ encodeDreka (.treeLookup 5 8 6 7 0) = some 0xA1063840 ∧
    assigned 0x04A63800 = true ∧ assigned 0 = false ∧ fetchedDreka 5 0 0 = .unassignedInstruction 5 0 := by decide +kernel

/-! ## Steps -/

theorem test_step :
    (match step { isa 1 2 with pending := [.nop 5, .nop 5] } with
     | .next t => decide (t.pending = [.nop 5] ∧ (t.ctx 5).pc = 3)
     | _ => false) = true := by decide +kernel

/-! ## Registers and addresses -/

theorem test_csrWrite :
    Writes on TMB_CTRL [] .host ∧
    ran (.csrWrite .host 0x300020 4 0xFFFFFFFF) on (fun t => t.rg TMB_CTRL = (on.rg TMB_CTRL &&& ~~~ 0x133) ||| 0x133) = true := by
  unfold Writes Live; decide +kernel

theorem test_rcRead :
    ran (.rcRead .host false 0x130008 4) (on.fs PWR_DOWN_CNT PWR_DOWN_CNT_COUNT 7) (fun t =>
      SMap.find t.rdata Init.host.key = some 7 ∧ t.fg PWR_DOWN_CNT PWR_DOWN_CNT_COUNT = 0) = true := by decide +kernel

theorem test_unmapped :
    (∀ k, k < 64 → (blockAssigned k = true ↔ k ∈ [0, 1, 2, 3, 4, 5, 6, 7, 8, 0x10, 0x11, 0x12, 0x13, 0x14, 0x15, 0x16, 0x18, 0x20, 0x21,
      0x22, 0x23, 0x24, 0x28, 0x29, 0x30, 0x31])) ∧
    (∀ a ∈ [0x1C0000000, 0x3FFFFFFFF8, 0x4003000000, 0x8000900000, 0x8000FFFFF8, 0x8004000000, 0x10000000000],
      on.isUnmapped a 8 = true ∧ ran (.unmappedAccess .host a 8 true 5) on (fun t => t.mem = [] ∧
        SMap.find t.obs.log 0 = some ⟨1000000000, 7, 9, 0, a, Init.host.contender⟩) = true) ∧
    ran (.unmappedAccess (.ctx 5) 0x1C0000000 8 true 5) on (fun t =>
      SMap.find t.obs.log 0 = some ⟨1000000000, 7, 9, 0, 0x1C0000000, 5⟩) = true ∧
    ran (.unmappedAccess .host 0x10000000000 8 false 0) on (fun t => SMap.find t.rdata Init.host.key = some 0) = true := by decide +kernel

theorem test_downAccess :
    State.reset.domOn .memory = false ∧
    ran (.downBlockAccess .host 0x1000 8 true 5) State.reset (fun t => t.mem = [] ∧ t.fg PWR_DOWN_ACC PWR_DOWN_ACC_ADDR = 0x1000 ∧
      t.fg PWR_DOWN_ACC PWR_DOWN_ACC_DOMAIN = 10 ∧ t.fg PWR_DOWN_ACC PWR_DOWN_ACC_WRITE = 1) = true ∧
    ran (.downBlockAccess .host 0x1000 8 false 0) State.reset (fun t =>
      SMap.find t.rdata Init.host.key = some 0x0BAD0FF00BAD0FF0 ∧ t.fg PWR_DOWN_ACC PWR_DOWN_ACC_WRITE = 0) = true := by decide +kernel

theorem test_bar2Read :
    ran (.rcRead .host true 0x1000 8) ((on.fs HIF_BAR2_BASE HIF_BAR2_BASE_WIN 6).writeLe 0x180001000 8 0x0102) (fun t =>
      SMap.find t.rdata Init.host.key = some 0x0102) = true := by decide +kernel

theorem test_bar2Write :
    ran (.bar2Write 0x1004 4 0x01020304) (on.fs HIF_BAR2_BASE HIF_BAR2_BASE_WIN 6) (fun t =>
      t.bytes 0x180001000 12 = [0, 0, 0, 0, 4, 3, 2, 1, 0, 0, 0, 0]) = true := by decide +kernel

/-! ## The timebase, pace and the supply -/

/-- The timebase runs, with only AON and HOST on: no timer falls due at its next tick. -/
def clockS (steps : List Int) : State :=
  { State.reset.fs TMB_RATE TMB_RATE_ADJ 0xFFFFFFFF with tmb := { State.reset.tmb with ns := 1000000100, running := true, steps } }

theorem test_tick :
    (∀ p ∈ [(([] : List Int), 1000000101), ([5, 7], 1000000106), ([-5], 1000000096)],
      (clockS p.1).tick2.nextDue [] = none ∧
      (match step (clockS p.1) with
       | .next t => decide (t.tmb.ns = BitVec.ofNat 64 p.2 ∧ t.tmb.frac = 0xFFFFFFFE ∧ t.tmb.steps = p.1.tail)
       | _ => false) = true) ∧ (match step State.reset with | .next t => decide (t = State.reset) | _ => false) = true := by decide +kernel

theorem test_rateWrite :
    (Writes on TMB_RATE [] .host ∧ on.ppsSteers = false ∧ on.fabSteers = false) ∧
    ran (.tmbRateWrite .host 2147483) on (fun t => t.fg TMB_RATE TMB_RATE_ADJ = 2147483) = true := by unfold Writes Live; decide +kernel

theorem test_timebaseStep :
    Writes on TMB_STEP [] .host ∧ ran (.timebaseStep .host 5) on (fun t => t.tmb.ns = 1000000000 ∧ t.tmb.steps = [5]) = true ∧
    ran (.timebaseStep .host (-5)) on (fun t => t.tmb.steps = []) = true ∧
    ran (.timebaseStep .host (-5)) (on.fs TMB_CTRL TMB_CTRL_ALLOW_BACK 1) (fun t => t.tmb.steps = [-5]) = true := by
  unfold Writes Live; decide +kernel

theorem test_timeRead :
    ran (.tmbTimeRead .host false) on (fun t => SMap.find t.rdata Init.host.key = some 1000000000) = true := by decide +kernel

theorem test_refLost :
    ran .refLost on (fun t => t.flag TMB_STATUS TMB_STATUS_REF_LOST = true ∧ t.tmb = on.tmb) = true ∧
    ran .refReturn (on.fs TMB_STATUS TMB_STATUS_REF_LOST 1) (fun t => t.flag TMB_STATUS TMB_STATUS_REF_LOST = false) = true := by decide +kernel

/-- The PPS servo steers; the last accepted edge came `d` ns ago; the time is `n` ns past a whole second. -/
def ppsS (mode d : Nat) (n : Int) : State :=
  let s := on.fs TMB_CTRL TMB_CTRL_PPS_MODE mode
  { s with tmb := { s.tmb with ns := BitVec.ofInt 64 (5000000000 + n), ppsLast := some ((5000000000 + n).toNat - d) } }

theorem test_ppsEdge :
    (ppsS 2 500000000 0).flag TMB_CTRL TMB_CTRL_PPS_EDGE = false ∧
    ran (.ppsEdge true) (ppsS 2 1000000000 0) (fun t => t = ppsS 2 1000000000 0) = true ∧
    ran (.ppsEdge false) (ppsS 2 500000000 0) (fun t => t.tmb.ppsIgnored = 1) = true ∧
    ran (.ppsEdge false) (ppsS 1 1000000000 70) (fun t => t.rg TMB_PPS_STAMP = 5000000070 ∧ t.rg TMB_RATE = on.rg TMB_RATE) = true ∧
    ran (.ppsEdge false) (ppsS 2 1000000000 (-100001)) (fun t => t.tmb.steps = [100001] ∧ t.tmb.integ = 0) = true ∧
    ((ppsS 2 1000000000 20).ppsSteers = true ∧ ran (.ppsEdge false) (ppsS 2 1000000000 20) (fun t =>
      t.tmb.integ = -5 ∧ t.fg TMB_RATE TMB_RATE_ADJ = 0xFFFFFFFF - 46 ∧ t.tmb.ppsRun = 1) = true) := by decide +kernel

theorem test_ppsHoldover :
    ran .ppsHoldover (ppsS 2 1001000000 0) (fun t =>
      t.fg TMB_RATE TMB_RATE_ADJ = 0 ∧ t.flag TMB_STATUS TMB_STATUS_PPS_LOCK = false ∧ t.tmb.ppsLast = none) = true := by decide +kernel

/-- The AVS loop regulates, with its counts settled. -/
def avsS (floor : Nat) : State :=
  let s := ((on.fs PWR_AVS_CFG PWR_AVS_CFG_ENABLE 1).fs PWR_PACE_STATUS PWR_PACE_STATUS_STATE 1).fs PWR_PACE_STATUS PWR_PACE_STATUS_FLOOR floor
  { s with pace := { s.pace with v := 800, windows := 10, floors := List.replicate 10 floor } }

theorem test_paceWindow :
    ran (.paceWindowEnd (List.replicate 128 0x500)) State.reset (fun t => t.fg PWR_PACE_MON PWR_PACE_MON_VALUE [112] = 0x500 ∧
      t.fg PWR_PACE_MON PWR_PACE_MON_VALUE [127] = 0 ∧ t.fg PWR_PACE_STATUS PWR_PACE_STATUS_FLOOR = 0x500) = true := by decide +kernel

theorem test_avsEnable :
    (Writes on PWR_AVS_CFG [] .host ∧ avsCfgOk (on.rg PWR_AVS_CFG ||| 0x8000) = true) ∧
    (∀ l ∈ [[], [none], [none, none]], ran (.avsEnable .host (on.rg PWR_AVS_CFG ||| 0x8000) (l ++ [some 0x17]) [none, some 400]) on
      (fun t => t.fg PWR_AVS_CFG PWR_AVS_CFG_ENABLE = 1 ∧ t.pace.vout = some 400 ∧ t.pace.voutN = -9) = true) ∧
    ran (.avsEnable .host (on.rg PWR_AVS_CFG ||| 0x8000) [none, none, none] []) on (fun t =>
      t.fg PWR_AVS_CFG PWR_AVS_CFG_ENABLE = 1 ∧ t.fg PWR_PACE_STATUS PWR_PACE_STATUS_STATE = 3 ∧
      t.flag PWR_PACE_STATUS PWR_PACE_STATUS_FAULT_SEEN = true) = true ∧
    ran (.avsEnable .host 0 [] []) on (fun t => t.rg PWR_AVS_CFG = on.rg PWR_AVS_CFG ∧
      t.flag PWR_PACE_STATUS PWR_PACE_STATUS_CFG_REJ = true) = true := by unfold Writes Live; decide +kernel

theorem test_avsDisable :
    ran (.avsDisable .host (on.rg PWR_AVS_CFG)) (avsS 0x500) (fun t =>
      t.fg PWR_AVS_CFG PWR_AVS_CFG_ENABLE = 0 ∧ t.fg PWR_PACE_STATUS PWR_PACE_STATUS_STATE = 0) = true := by decide +kernel

theorem test_avsIteration :
    (avsS 0x500).avsDue = true ∧ ran .avsIteration (avsS 0x500) (fun t =>
      t.pace.v = min (max (800 + on.fg PWR_AVS_CFG PWR_AVS_CFG_STEP) (on.fg PWR_AVS_CFG PWR_AVS_CFG_VMIN)) (on.fg PWR_AVS_CFG PWR_AVS_CFG_VMAX) ∧
      t.fg PWR_PACE_STATUS PWR_PACE_STATUS_STATE = 1) = true := by decide +kernel

/-- A PMBus write of 790 mV is in progress and has failed `n` times. -/
def pmS (n : Nat) : State :=
  { on.fs PWR_AVS_CFG PWR_AVS_CFG_ENABLE 1 with pace := { on.pace with busy := some { mv := 790, failed := n } } }

theorem test_pmbus :
    ran (.pmbusAttemptEnd true) (pmS 1) (fun t => t.fg PWR_PACE_STATUS PWR_PACE_STATUS_VCORE_MV = 790 ∧ t.pace.busy = none) = true ∧
    ran (.pmbusAttemptEnd false) (pmS 1) (fun t => t.csr = (pmS 1).csr ∧ t.pace.busy = some { mv := 790, failed := 2 }) = true ∧
    ran (.pmbusAttemptEnd false) (pmS 2) (fun t => t.fg PWR_PACE_STATUS PWR_PACE_STATUS_STATE = 3 ∧
      t.flag PWR_PACE_STATUS PWR_PACE_STATUS_FAULT_SEEN = true) = true := by decide +kernel

/-! ## Start-up, measurement and attestation -/

/-- Start-up stands at a step. -/
def bootS (b : Boot) : State := { on with sec := { on.sec with boot := b } }

theorem test_strapLatch :
    ran (.strapLatch 1 2 9) (bootS .reset) (fun t => t.sec.boot = .strapped ∧ t.fg SEC_STRAPS SEC_STRAPS_REFSEL = 1 ∧
      t.fg SEC_STRAPS SEC_STRAPS_BOOTSRC = 2 ∧ t.fg FAB_HUDDLE FAB_HUDDLE_SELF = 9) = true := by decide +kernel

theorem test_fuseSense :
    ran (.fuseSense { grade := 2, step := 1, minSvn := 3 }) (bootS .strapped) (fun t => t.sec.boot = .fused ∧
      t.fg SEC_PART_ID SEC_PART_ID_GRADE = 2 ∧ t.fg SEC_PART_ID SEC_PART_ID_STEP = 1) = true := by decide +kernel

theorem test_timebaseLock :
    ran .timebaseLock (bootS .fused) (fun t => t.sec.boot = .locked ∧ t.tmb.running = true ∧ t.tmb.ns = 0) = true ∧
    ran .timebaseLock ((bootS .fused).fs SEC_STRAPS SEC_STRAPS_REFSEL 3) (fun t => t.sec.boot = .stopped ∧ t.stage = 4) = true := by
  decide +kernel

theorem test_romStart :
    ran .romStart (bootS .locked) (fun t => t.sec.boot = .slots [0, 1]) = true ∧
    ran .romStart ((bootS .locked).fs SEC_STRAPS SEC_STRAPS_BOOTSRC 1) (fun t => t.sec.boot = .slots [1, 0]) = true ∧
    ran .romStart ((bootS .locked).fs SEC_STRAPS SEC_STRAPS_BOOTSRC 2) (fun t => t.sec.boot = .recovery) = true ∧
    ran .romStart ((bootS .locked).fs SEC_STRAPS SEC_STRAPS_BOOTSRC 3) (fun t => t.sec.boot = .stopped ∧ t.stage = 5) = true := by
  decide +kernel

theorem test_imageSlotCheck :
    ran (.imageSlotCheck none) (bootS (.slots [0, 1])) (fun t => t.sec.boot = .slots [1] ∧
      t.fg SEC_BOOT_STATUS SEC_BOOT_STATUS_FAIL_A = 1) = true ∧
    ran (.imageSlotCheck none) (bootS (.slots [1])) (fun t => t.sec.boot = .recovery ∧
      t.fg SEC_BOOT_STATUS SEC_BOOT_STATUS_FAIL_B = 1) = true ∧
    ran (.imageSlotCheck (some [(0x200000, [1])])) (bootS (.slots [1, 0])) (fun t => t.sec.boot = .slots [0] ∧
      t.fg SEC_BOOT_STATUS SEC_BOOT_STATUS_FAIL_B = 2) = true := by decide +kernel

theorem test_firmwareStart :
    ran .firmwareStart (bootS .accepted) (fun t => t.sec.boot = .firmware ∧ t.stage = 1 ∧ t.sec.udsLocked = true) = true := by
  decide +kernel

theorem test_hostPowerOn :
    ((bootS .firmware).fs PWR_DOM_STATUS PWR_DOM_STATUS_STATE 0 [Dom.host.num]).hostMay = true ∧
    ran .hostPowerOn ((bootS .firmware).fs PWR_DOM_STATUS PWR_DOM_STATUS_STATE 0 [Dom.host.num]) (fun t => t.domHeld .host = 4000) = true := by
  decide +kernel

theorem test_rcvGo :
    ran (.secRcvGo .host 1) (bootS .recovery) (fun t => t.sec = (bootS .recovery).sec ∧ t.fg SEC_BOOT_STATUS SEC_BOOT_STATUS_FAIL_B = 2) = true := by
  decide +kernel

theorem test_extGo :
    ran (.secExtGo .host 1) (on.wg SEC_EXT_DATA 0x1122 [5]) (fun t => t.sec.hostExt = true ∧
      t.sec.extends_.map (fun d => (d.mr, d.source, d.digest.drop 40)) = [(7, 2, [0x22, 0x11, 0, 0, 0, 0, 0, 0])]) = true ∧
    Writes on SEC_EXT_GO [] .mgc ∧ ran (.secExtGo .mgc 1) on (fun t => t.sec.extends_ = [] ∧ t.rg SCB_EVT_TOTAL = 1) = true ∧
    ran (.secExtGo .host 1) (bootS .stopped) (fun t => t.sec = (bootS .stopped).sec ∧ t.rg SCB_EVT_TOTAL = 1) = true ∧
    ran (.secExtGo .host 1) { on with sec := { on.sec with hostExt := true } } (fun t =>
      t.flag SEC_LOG_STATUS SEC_LOG_STATUS_EXT_BUSY = true ∧ t.sec.extends_ = []) = true := by
  unfold Writes Live; decide +kernel

theorem test_mrExtend :
    ran .mrExtend { on with sec := { on.sec with extends_ := [{ mr := 3, source := 1, image := 4, digest := List.replicate 48 7 }] } } (fun t =>
      t.sec.extends_ = [] ∧ t.sec.count = 1 ∧ t.mr 2 = on.mr 2 ∧ t.mr 3 = sha384 (on.mr 3 ++ List.replicate 48 7)) = true := by decide +kernel

/-- Attestation is ready, for the fabric member 1 too. -/
def attS : State :=
  ((on.fs SEC_BOOT_STATUS SEC_BOOT_STATUS_STAGE 2).fs FAB_HUDDLE FAB_HUDDLE_MEMBERS 2).fs SEC_ATT_CTRL SEC_ATT_CTRL_FABRIC 1

/-- A request of the form of Table SEC-9. -/
def attReq : Bytes := 1 :: List.replicate 63 0

theorem test_attestRequest :
    ran (.attestRequest 1 2 3 []) (on.fs SEC_ATT_CTRL SEC_ATT_CTRL_TWIN 0) (fun t =>
      t.sec.attSent = [(1, 2 + 3 * 2 ^ 16 + 2 * 2 ^ 60, [])] ∧ t.sec.attPending = []) = true ∧
    (attS.attEnabled 2 = true ∧ attWellFormed attReq = true) ∧
    ran (.attestRequest 2 1 3 attReq) attS (fun t => t.sec.attPending = [⟨2, 1, 3, 0, attReq⟩]) = true := by decide +kernel

theorem test_attestService :
    ran .attestService { attS with sec := { attS.sec with attPending := [⟨2, 1, 0, 0, []⟩] } } (fun t =>
      t.sec.attPending = [] ∧ (t.sec.attServing.map fun z => (z.logCount, z.time)) = some (0, 1000000000)) = true := by decide +kernel

theorem test_attestReportDone :
    ran (.attestReportDone true) { attS with sec := { attS.sec with attServing := some ⟨⟨2, 1, 3, 0, attReq⟩, [], 0, 5⟩ } } (fun t =>
      t.sec.attServing = none ∧ t.sec.attSent.map (fun x => (x.1, x.2.1)) = [(2, 1 + 3 * 2 ^ 16)]) = true := by decide +kernel

/-! ## The host interface -/

/-- Queue pair 3 is enabled, with 16 commands and 32 completions, two of them not released. -/
def hqS : State :=
  let s := (on.fs HIF_QP_CFG HIF_QP_CFG_ENABLE 1 [3]).fs HIF_QP_CFG HIF_QP_CFG_SQ_LOG2 4 [3]
  let s := (s.fs HIF_QP_CFG HIF_QP_CFG_CQ_LOG2 5 [3]).fs HIF_QP_STATUS HIF_QP_STATUS_STATE 1 [3]
  { s with hif := { s.hif with qs := [(3, { used := 2 })], pcie := { busMaster := true, msixEn := true } } }

theorem test_bar2Base :
    ran (.hifBar2BaseWrite .host 0x100) on (fun t => t.fg HIF_BAR2_BASE HIF_BAR2_BASE_WIN = 0x100) = true ∧
    ran (.hifBar2BaseWrite .host 7) on (fun t => t.rg HIF_BAR2_BASE = on.rg HIF_BAR2_BASE) = true := by decide +kernel

theorem test_queueEnable :
    (Writes on HIF_QP_CFG [3] .host ∧ on.qState 3 = 0) ∧
    ran (.queueEnable 3 .host 0x541) on (fun t => t.qState 3 = 1 ∧ t.sqSize 3 = 16 ∧ t.cqSize 3 = 32 ∧
      (t.fg HIF_QP_SEQ HIF_QP_SEQ_CONS [3] + 1) % 2 ^ 32 = on.fg HIF_QP_SEQ_INIT HIF_QP_SEQ_INIT_CMD [3]) = true := by
  unfold Writes Live; decide +kernel

theorem test_queueDisable :
    ran (.queueDisable 3 .host 0) hqS (fun t => t.flag HIF_QP_CFG HIF_QP_CFG_ENABLE [3] = false ∧ t.qState 3 = 1) = true ∧
    ran (.queueDrained 3) (hqS.fs HIF_QP_CFG HIF_QP_CFG_ENABLE 0 [3]) (fun t => t.qState 3 = 0) = true := by decide +kernel

theorem test_doorbells :
    ran (.sqDoorbell 3 .host 15) hqS (fun t => t.hq 3 = { used := 2, tail := 15, avail := 15 }) = true ∧
    ran (.sqDoorbell 3 .host 16) hqS (fun t => t.qState 3 = 3 ∧ t.fg HIF_QP_STATUS HIF_QP_STATUS_ERR [3] = 2) = true ∧
    ran (.cqDoorbell 3 .host 2) hqS (fun t => t.hq 3 = { used := 0, head := 2 }) = true := by decide +kernel

/-- A consumed command with an opcode on queue pair 3. -/
def cmdS (op len : Nat) (arg : Bytes := []) : State :=
  { hqS with hif := { hqS.hif with cmds := [{ qp := 3, cseq := 7, op, addr0 := 0x5000, len0 := len, addr1 := 0x2000, arg }] } }

/-- The command ends with a status and a result. -/
def ended (i : Instr) (s : State) (st r : Nat) : Bool :=
  ran i s fun t => t.hif.cmds.map HCmd.done = [some { status := st, result := r }]

theorem test_hostCommands :
    ((cmdS 0 0).starting 3 7 0).isSome = true ∧ ended (.hifNop 3 7) (cmdS 0 0) 0 0 = true ∧
    ran (.rxBuf 3 7) (cmdS 2 100) (fun t => t.hif.cmds.map HCmd.started = [true]) = true ∧
    ended (.memWrite 3 7 (some (List.replicate 32 9))) (cmdS 3 32) 0 0 = true ∧
    ran (.memWrite 3 7 (some (List.replicate 32 9))) (cmdS 3 32) (fun t => t.bytes 0x1FF0 64 = List.replicate 16 0 ++ List.replicate 32 9 ++
      List.replicate 16 0) = true ∧
    ended (.memWrite 3 7 (some [])) ((cmdS 3 32).fs PWR_DOM_STATUS PWR_DOM_STATUS_STATE 0 [10]) 7 0 = true ∧
    ended (.memRead 3 7 true) (cmdS 4 8) 0 0 = true ∧
    ran (.memRead 3 7 true) ((cmdS 4 8).writeLe 0x2000 8 5) (fun t => SMap.get t.hif.hostMem 0x5000 0 = 5) = true ∧
    ended (.txFrame 3 7 none) (cmdS 1 100) 8 0 = true := by decide +kernel

/-- A TX_FRAME of 100 bytes whose data the host gives, with and without a stamp asked for. -/
theorem test_txFrame :
    (Live (cmdS 1 100) ∧ (cmdS 1 100).hostGone 3 = false ∧ ((cmdS 1 100).storeFrame 517 (List.replicate 100 9)).isSome = true) ∧
    ran (.txFrame 3 7 (some (List.replicate 100 9))) (cmdS 1 100) (fun t => t.hif.cmds.map HCmd.done = [some { status := 0, result := 0 }] ∧
      (SMap.get t.skm.inputs 4 []).map (fun f => (f.len, f.source)) = [(100, 0x3003)] ∧
      (SMap.get t.skm.inputs 4 []).map Frame.ts = [none]) = true ∧
    (let s := cmdS 1 100
     ran (.txFrame 3 7 (some (List.replicate 100 9))) { s with hif := { s.hif with cmds := s.hif.cmds.map fun c => { c with flags := 2, stampTag := 8 } } }
      (fun t => t.hif.cmds.map (fun c => (c.started, c.done)) = [(true, none)] ∧
        (SMap.get t.skm.inputs 4 []).map Frame.ts = [some (3, 7, 8)])) = true := by unfold Live; decide +kernel

theorem test_attestCommand :
    ended (.attest 3 7 (some attReq)) ((cmdS 0x20 0).fs SEC_ATT_CTRL SEC_ATT_CTRL_HOST 0) 0 2 = true ∧
    ran (.attest 3 7 (some attReq)) ((cmdS 0x20 0).fs SEC_BOOT_STATUS SEC_BOOT_STATUS_STAGE 2) (fun t =>
      t.sec.attPending = [⟨0, 3, 7, 0x2000, attReq⟩]) = true := by decide +kernel

/-- Queue pair 3 has a command to fetch. -/
def fetchS : State := { hqS with hif := { hqS.hif with qs := [(3, { used := 2, tail := 1, avail := 1 })] } }

/-- A NOP command of Table HIF-3 with a CSEQ. -/
def nopCmd (cseq : Nat) : Bytes := leBytes 8 (cseq * 2 ^ 32) ++ List.replicate 56 0

theorem test_commandFetch :
    let s := fetchS.fs SEC_BOOT_STATUS SEC_BOOT_STATUS_STAGE 2
    (s.canFetch 3 = true ∧ s.fetchPick = some 3 ∧ s.cmdCheck (cmdOf 3 (nopCmd 0)) 0 = none) ∧
    ran (.commandFetch 4 []) s (fun t => t = s) = true ∧
    ran (.commandFetch 3 [(64, [])]) s (fun t => t.qState 3 = 3 ∧ t.fg HIF_QP_STATUS HIF_QP_STATUS_ERR [3] = 4) = true ∧
    ran (.commandFetch 3 [(s.entryAddr 3, nopCmd 0)]) s (fun t => t.hif.cmds.map HCmd.cseq = [0] ∧
      t.fg HIF_QP_SEQ HIF_QP_SEQ_CONS [3] = 0 ∧ (t.hq 3).sq = 1 ∧ (t.hq 3).avail = 0) = true ∧
    ran (.commandFetch 3 [(s.entryAddr 3, nopCmd 5)]) s (fun t => t.qState 3 = 3 ∧ t.fg HIF_QP_STATUS HIF_QP_STATUS_ERR [3] = 1) = true := by
  decide +kernel

/-- The arbiter is past queue pair 3: another that can fetch comes first, and 3 follows it (R88). -/
theorem test_fetchOrder :
    let q : HQueue := { avail := 1 }
    let s := ((hqS.fs HIF_QP_CFG HIF_QP_CFG_ENABLE 1 [7]).fs HIF_QP_CFG HIF_QP_CFG_CQ_LOG2 5 [7]).fs HIF_QP_STATUS HIF_QP_STATUS_STATE 1 [7]
    { s with hif := { s.hif with qs := [(3, q), (7, q)], next := 4 } }.fetchPick = some 7 ∧
    { s with hif := { s.hif with qs := [(3, q), (7, q)], next := 8 } }.fetchPick = some 3 := by decide +kernel

/-- A command has ended with status 0. -/
def doneS : State :=
  { hqS with hif := { hqS.hif with cmds := [{ qp := 3, cseq := 7, tag := 0x1234, started := true, done := some { status := 0 } }] } }

theorem test_completionPost :
    ran (.completionPost 3 7) doneS (fun t => t.hif.cmds = [] ∧ (t.hq 3).used = 3 ∧
      t.fg HIF_QP_SEQ HIF_QP_SEQ_POST [3] = 0 ∧
      (SMap.find t.hif.journal 0).isSome = true) = true := by decide +kernel

theorem test_irqTimer :
    ran (.irqTimer 3) { (hqS.fs HIF_QP_IRQ HIF_QP_IRQ_TIME 5 [3]).fs HIF_MSIX_CTRL HIF_MSIX_CTRL_MASK 0 [3] with
      hif := { hqS.hif with qs := [(3, { unsig := 2, firstUnsig := 999995000 })] } } (fun t =>
      (t.hq 3).unsig = 0 ∧ SMap.get t.obs.msix 3 0 = 1) = true := by decide +kernel

theorem test_hostLoss :
    ran (.hostLoss 3 3) hqS (fun t => t.qState 3 = 2 ∧ t.qState 4 = 0 ∧ t.hif.pcie.power = 3) = true ∧
    ran (.hostLoss 4 0) hqS (fun t => t.qState 3 = 2 ∧ t.hif.pcie.busMaster = false) = true ∧
    ran (.hostLoss 5 499) hqS (fun t => t = hqS) = true ∧ ran (.hostLoss 5 500) hqS (fun t => t.qState 3 = 2) = true ∧
    ran (.hostLoss 0 0) hqS (fun t => t.qState 3 = 2 ∧ t.rg HIF_MSIX_PBA = 0) = true := by decide +kernel

/-- Host queue 9 holds a frame of 100 bytes, and queue pair 3 has offered it a buffer of `n` bytes. -/
def hqFrame (n : Nat) : State :=
  match (cmdS 2 n).storeFrame 0 (List.replicate 100 9) with
  | some (s, _) =>
    let t := { s with tmg := { s.tmg with qs := [(521, { frames := [⟨fr, 1000000000, 0, 0⟩] })] } }
    { t with hif := { t.hif with cmds := [{ qp := 3, cseq := 7, op := 2, addr0 := 0x5000, len0 := n, target := 9, started := true }] } }
  | none => on

theorem test_hostQueueDeliver :
    ((hqFrame 100).rxBuf 9).isSome = true ∧
    ran (.hostQueueDeliver 9 true) (hqFrame 100) (fun t => (t.tq 521).frames = [] ∧ SMap.get t.hif.hostMem 0x5063 0 = 9 ∧
      t.hif.cmds.map HCmd.done = [some { status := 0, result := 100 }]) = true ∧
    ran (.hostQueueDeliver 9 true) (hqFrame 99) (fun t => (t.tq 521).frames = [] ∧
      t.hif.cmds.map HCmd.done = [some { status := 12, result := 100 }]) = true := by decide +kernel

/-! ## Program images and events -/

/-- An image of one code word with IMAGE_ID 7, MR 3 and no entries. -/
def imgBytes (mr : Nat) : Bytes :=
  leBytes 4 0x494B5244 ++ leBytes 2 1 ++ leBytes 2 7 ++ leBytes 1 mr ++ leBytes 1 0 ++ leBytes 2 0 ++ leBytes 4 4 ++ leBytes 4 0 ++
    leBytes 4 0 ++ leBytes 4 1000 ++ leBytes 4 0xFFFFFFFF ++ List.replicate 64 0xFF ++ List.replicate 160 0 ++ [0, 0, 0, 0]

/-- An IMAGE_LOAD of 260 bytes for core 5, or an unload of image 7, is in front. -/
def loadS (mode : Nat) : State :=
  let arg : Bytes := leBytes 12 32 ++ leBytes 1 mode ++ List.replicate 11 0
  { on with hif := { on.hif with
    pcie := { busMaster := true }
    cmds := [{ qp := 0, cseq := 7, op := 0x10, addr0 := 0x5000, len0 := 260, target := if mode = 0 then 0 else 7, arg }] } }

theorem test_imageLoad :
    ((loadS 0).starting 0 7 0x10).isSome = true ∧ (loadS 0).hostGone 0 = false ∧ imageCheck (imgBytes 3) 260 = 0 ∧
    ran (.imageLoad 0 7 (some (imgBytes 3))) (loadS 0) (fun t => t.drk.loads.map (fun y => (y.mask, y.image, y.mr, y.committed)) = [(32, 7, 3, false)] ∧
      t.hif.cmds.map HCmd.done = [none]) = true ∧
    imageCheck (imgBytes 2) 260 = 4 ∧ ran (.imageLoad 0 7 (some (imgBytes 2))) (loadS 0) (fun t =>
      t.drk = on.drk ∧ t.hif.cmds.map HCmd.done = [some { status := 11, result := 4 }]) = true := by decide +kernel

/-- A load of image 7 for core 5 is staged, as load 1. -/
def stagedS : State :=
  let l : Load := { qp := 0, cseq := 7, mask := 32, num := 1, image := 7, mr := 3, digest := List.replicate 48 1, committed := false, result := 0 }
  { loadS 0 with drk := { on.drk with loads := [l], images := [(1, { id := 7 })], nextLoad := 2 } }

theorem test_imageCommit :
    ran .imageCommit stagedS (fun t => (t.core 5).switching = some 1 ∧ (t.core 4).switching = none ∧
      t.mr 3 = sha384 (stagedS.mr 3 ++ List.replicate 48 1)) = true := by decide +kernel

theorem test_coreSwitch :
    ran (.coreSwitch 5) { stagedS with drk := { stagedS.drk with cores := [(5, { switching := some 1 })], ctxs := [(20, { st := .idle, keep := [(0, 5)] })] } } (fun t =>
      (t.core 5).bound = 1 ∧ (t.core 5).switching = none ∧ (t.ctx 20).keep = [] ∧ (t.ctx 23).st = .idle) = true := by decide +kernel

theorem test_imageUnload :
    ran (.imageUnload 0 7) (loadS 1) (fun t => t.drk = on.drk ∧ t.hif.cmds.map HCmd.done = [some { status := 11, result := 7 }]) = true ∧
    ran (.imageUnload 0 7) { loadS 1 with drk := { on.drk with images := [(1, { id := 7 })], cores := [(5, { bound := 1 })] } } (fun t =>
      (t.core 5).switching = some 0) = true := by decide +kernel

/-- Core 5 is bound to an image with an entry at word 4 for event type 1; a pinned event of context 20 has been raised. -/
def evtS (st : CtxSt) (fifo : List Ev) : State :=
  let m : Image := { id := 7, budget := 1000, faultEntry := 0xFFFFFFFF, code := List.replicate 64 0, entry := 0xFFFFFFFF :: List.replicate 15 4 }
  { on with drk := { on.drk with
    cores := [(5, { bound := 1 })], images := [(1, m)], ctxs := [(20, { st, fifo, keep := [(2, 9)], g := [(4, 3)] })],
    raised := [{ typ := 1, pinned := some 20, source := 3, length := 8 }] } }

theorem test_eventDispatch :
    (evtS .idle []).serving 20 = 20 ∧ (evtS .idle []).canPlace 20 = true ∧
    ran .eventDispatch (evtS .idle []) (fun t => t.drk.raised = [] ∧ ((t.ctx 20).fifo.map Ev.source) = [3]) = true ∧
    ran .eventDispatch ((evtS .idle []).fs PWR_DOM_STATUS PWR_DOM_STATUS_STATE 0 [(Dom.ofCore 5).num]) (fun t =>
      t.drk.raised = [] ∧ t.rg DRK_DROP_DOWN = 1 ∧ (t.ctx 20).fifo = []) = true := by decide +kernel

theorem test_eventStart :
    ran (.eventStart 20) (evtS .idle [{ typ := 1, source := 3, length := 8 }]) (fun t => (t.ctx 20).st = .running ∧ (t.ctx 20).pc = 4 ∧
      (t.ctx 20).budget = 1000 ∧ (t.ctx 20).reg 1 = 0x30000000000 ∧ (t.ctx 20).reg 2 = 0x0008000300000001 ∧ (t.ctx 20).reg 4 = 0 ∧
      (t.ctx 20).keep = [(2, 9)] ∧ (t.ctx 20).fifo = []) = true := by decide +kernel

/-- Core 5 is benched, and its cluster-mates are bound to its image. -/
def benchS : State :=
  let s := (evtS .idle []).setBenched 5 true
  { s with drk := { s.drk with cores := (List.range 8).map fun n => (n, { bound := 1 }) } }

/-- The worked example of Table DRK-9: seven cores read 1331, and the benched one reads `v`. -/
def benchAt (v : Nat) : State :=
  (List.range 8).foldl (fun t n => t.fs PWR_PACE_MON PWR_PACE_MON_VALUE (if n = 5 then v else 1331) [n]) benchS

theorem test_bench :
    benchS.wanted 20 ≠ benchS.serving 20 ∧ (benchS.ctx (benchS.serving 20)).quiet = true ∧
    ran (.benchHandover 20) benchS (fun t => t.serving 20 = benchS.wanted 20 ∧ t.serving 21 = 21) = true ∧
    ((benchAt 799).paceBack 5 = true ∧ ran (.drkBenchRel .host 5) (benchAt 799) (fun t => t.benched 5 = false) = true) ∧
    ran (.drkBenchRel .host 5) (benchAt 672) (fun t => t.benched 5 = true ∧
      t.fg DRK_BENCH_STATUS DRK_BENCH_STATUS_REL_REJ = 1) = true ∧
    ran (.drkBenchRel .host 4) benchS (fun t => t.benched 5 = true ∧ t.fg DRK_BENCH_STATUS DRK_BENCH_STATUS_REL_REJ = 1) = true := by
  decide +kernel

/-! ## Kickoff -/

/-- A MEM_WRITE item: byte 1 of the word at 0x2000 becomes 0x77. -/
def memItem : Bytes := leBytes 8 2 ++ leBytes 8 0x2000 ++ leBytes 8 0x7777 ++ leBytes 8 0xFF00

/-- A kickoff command on queue pair 0 with set 3. -/
def kckS (op mode : Nat) (items : List Bytes) : State :=
  let arg : Bytes := leBytes 8 (3 + mode * 256) ++ List.replicate 16 0
  { on with
    hif := { on.hif with pcie := { busMaster := true }, cmds := [{ qp := 0, cseq := 7, op, addr0 := 0x5000, len0 := 32, arg }] },
    kck := { on.kck with sets := [(3, { items })] } }

theorem test_stageItems :
    ((kckS 0x11 0 []).starting 0 7 0x11).isSome = true ∧ (kckS 0x11 0 []).hostGone 0 = false ∧
    ran (.stageItems 0 7 (some memItem)) (kckS 0x11 0 [memItem]) (fun t => (t.kset 3).items = [memItem, memItem] ∧
      t.hif.cmds.map HCmd.done = [some { status := 0, result := 2 * 2 ^ 32 }]) = true := by decide +kernel

/-- Sets are PENDING. -/
def pendS (s : State) (l : List Nat) : State := { s with kck := { s.kck with order := l } }

theorem test_stageDiscard :
    ran (.stageDiscard 0 7) (kckS 0x11 1 [memItem]) (fun t => t.kState 3 = 0 ∧ t.hif.cmds.map HCmd.done = [some { status := 0, result := 0 }]) = true ∧
    ran (.stageDiscard 0 7) (pendS (kckS 0x11 1 [memItem]) [3]) (fun t =>
      (t.kset 3).items = [memItem] ∧ t.hif.cmds.map HCmd.done = [some { status := 11, result := 0xFFFF0002 }]) = true := by decide +kernel

theorem test_kickoff :
    ran (.kickoff 0 7) (kckS 0x12 0 []) (fun t => t.hif.cmds.map HCmd.done = [some { status := 11, result := 0xFFFF0001 }]) = true ∧
    ran (.kickoff 0 7) (kckS 0x12 0 [memItem]) (fun t => t.kck.order = [3] ∧ (t.kset 3).instant = 1000052030 ∧
      t.hif.cmds.map HCmd.done = [none]) = true := by decide +kernel

theorem test_kickoffInstant :
    ran (.kickoffInstant 0 3) (pendS (kckS 0x12 0 [memItem]) [3] |>.writeLe 0x2000 8 0x1111) (fun t =>
      t.kState 3 = 0 ∧ t.bytes 0x2000 8 = [0x11, 0x77, 0, 0, 0, 0, 0, 0]) = true := by decide +kernel

/-- Device 5 is a member, reached by link 2. -/
def fabS : State := (on.fs FAB_HUDDLE FAB_HUDDLE_MEMBERS 0x21).fs FAB_ROUTE FAB_ROUTE_LINK 2 [5]

/-- Device 5's set 3 has a part here, for the instant `t`. -/
def partS (t : Nat) : State :=
  { fabS with kck := { fabS.kck with parts := [{ dev := 5, set := 3, t, items := [memItem], images := [] }] } }

theorem test_kickDistribute :
    fabS.member 5 = true ∧ itOk 0 memItem = true ∧
    ran (.kickDistributeReceive 5 3 1000900000 [memItem] []) fabS (fun t => t.kck.parts.map KckPart.t = [1000900000] ∧
      SMap.get t.fab.expect 5 0 = 1 ∧ SMap.find t.fab.given (5 * 2 ^ 32) = some (0, 0)) = true := by decide +kernel

theorem test_kickReady :
    ran (.kickReady 5 3) (partS 1000100000) (fun t => (t.opsTo 5).map FabOp.msg = [.kickReady 3]) = true ∧
    ran (.kickReady 0 3) { on with kck := { sets := [(3, { items := [memItem], fabric := true, instant := 1000100000 })], order := [3] } } (fun t =>
      SMap.get t.kck.ready 3 [] = [0]) = true := by decide +kernel

theorem test_kickCommit :
    ran (.kickCommitReceive 5 3) (partS 1000100000) (fun t => t.kck.parts.map KckPart.committed = [true]) = true ∧
    ran (.kickoffInstant 5 3) (partS 1000000000) (fun t => t.kck.parts = [] ∧ t.mem = []) = true := by decide +kernel

/-! ## Domains, the referee and resets -/

/-- A domain is in a STATE and holds its leave. -/
def domS (d st held : Nat) : State :=
  let s := on.fs PWR_DOM_STATUS PWR_DOM_STATUS_STATE st [d]
  { s with pwr := { s.pwr with domLeave := [(d, held)] } }

theorem test_domainOn :
    Writes (domS 9 0 0) PWR_DOM_CTL [9] .host ∧ (domS 9 0 0).depsOn (Dom.ofNum 9) = true ∧
    ((domS 9 0 0).fixedSum + (domBase (Dom.ofNum 9) - 0) ≤ (domS 9 0 0).budget) ∧
    ran (.domainTargetOn 9 .host) (domS 9 0 0) (fun t => t.domState (Dom.ofNum 9) = 3 ∧ t.pwr.queue.map Leave.index = [9] ∧
      t.moveOf (Dom.ofNum 9) = some (.waitLeave false)) = true ∧
    ran (.domainTargetOn 9 .host) ((domS 9 0 0).fs PWR_DOM_STATUS PWR_DOM_STATUS_STATE 0 [10]) (fun t =>
      t.pwr.queue = [] ∧ t.fg PWR_DOM_STATUS PWR_DOM_STATUS_REJ [9] = 3) = true := by unfold Writes Live; decide +kernel

theorem test_domainDown :
    (domS 8 2 10).needed (Dom.ofNum 8) = false ∧
    ran (.domainTargetOff 8 .host) (domS 8 2 10) (fun t => t.moveOf (Dom.ofNum 8) = some (.down false)) = true ∧
    ran (.domainTargetRetention 8 .host) (domS 8 2 10) (fun t => t.moveOf (Dom.ofNum 8) = some (.down true)) = true := by decide +kernel

/-- A domain is on its way. -/
def moveS (d held : Nat) (m : Move) : State :=
  let s := domS d 3 held
  { s with pwr := { s.pwr with moves := [(d, some m)], onOrder := [d] } }

theorem test_domainSwitchOn :
    ran (.domainSwitchOn 9) ((moveS 9 0 (.switchOn false)).fs TMG_CTL TMG_CTL_PAIL_FLOOR 5) (fun t => t.domState (Dom.ofNum 9) = 2 ∧
      t.pwr.onOrder = [] ∧ t.domHeld (Dom.ofNum 9) = domBase (Dom.ofNum 9)) = true ∧
    ran (.domainSwitchOn 9) (moveS 9 20 (.switchOn false)) (fun t => t.domState (Dom.ofNum 9) = 2 ∧
      t.domHeld (Dom.ofNum 9) = domBase (Dom.ofNum 9)) = true ∧
    ran (.domainSwitchOn 10) (moveS 10 0 (.switchOn false)) (fun t => t.moveOf .memory = some (.fill false) ∧ t.mem = []) = true := by
  decide +kernel

theorem test_domainSwitchDown :
    ran (.domainSwitchDown 9) (moveS 9 500 (.down true)) (fun t => t.domState (Dom.ofNum 9) = 1 ∧ t.domHeld (Dom.ofNum 9) = domRet (Dom.ofNum 9)) = true ∧
    ran (.domainSwitchDown 9) (moveS 9 500 (.down false)) (fun t => t.domState (Dom.ofNum 9) = 0 ∧ t.domHeld (Dom.ofNum 9) = 0) = true := by
  decide +kernel

theorem test_dramInitDone :
    ran .dramInitDone { moveS 10 500 (.fill false) with sec := { on.sec with boot := .firmware } } (fun t =>
      t.domState .memory = 2 ∧ t.stage = 2 ∧ t.sec.boot = .ready) = true := by decide +kernel

/-- Domain 9 waits for 100 of leave. -/
def askS : State :=
  let s := moveS 9 0 (.waitLeave false)
  { s with pwr := { s.pwr with queue := [{ cls := 2, amount := 100, req := 0, index := 9, since := 0 }], onOrder := [] } }

theorem test_leaveGrant :
    askS.nextGrant = some 0 ∧ ran .leaveGrant askS (fun t => t.pwr.queue = [] ∧ t.pwr.issued = 1 ∧ t.pwr.onOrder = [9] ∧
      t.pwr.grants.map (fun e => (e.2.cls, e.2.amount)) = [(2, 100)]) = true := by decide +kernel

theorem test_refBudget :
    ran (.pwrRefBudgetWrite .host 20000) on (fun t => t.budget = 20000) = true ∧
    ran (.pwrRefBudgetWrite .host 19999) on (fun t => t.budget = on.budget ∧ t.rg SCB_EVT_TOTAL = 1) = true := by decide +kernel

/-- The device is ready. -/
def readyS : State := { on with sec := { on.sec with boot := .ready } }

/-- A warm reset was made, for a cause. -/
def warm (i : Instr) (f : Fld) : Bool :=
  ran i readyS fun t => t.fg PWR_RST_CAUSE f = 1 ∧ t.fg PWR_RST_CAUSE PWR_RST_CAUSE_COUNT = 1 ∧ t.sec.boot = .firmware ∧ t.stage = 1 ∧
    t.domState .telem = 0 ∧ t.mem = [] ∧ t.tmb = readyS.tmb

theorem test_resets :
    warm (.resetPin 1000 true) PWR_RST_CAUSE_PIN = true ∧ warm (.pwrReset .host 0x5A17) PWR_RST_CAUSE_HOST = true ∧
    warm .watchdogExpire PWR_RST_CAUSE_WDT = true ∧
    ran (.pwrReset .host 0x5A16) readyS (fun t => t.sec.boot = .ready ∧ t.rg SCB_EVT_TOTAL = 1) = true ∧
    ran .pwrgdFall readyS (fun t => t.pwr.pwrgd = false) = true ∧
    ran (.powerOnReset 1000 true false) readyS (fun t => t = State.reset) = true := by decide +kernel

/-! ## Observability, boundary FIFOs and the test access port -/

theorem test_pmc :
    Writes on PMC_CTL [] .host ∧ ran (.pmcFreeze .host true) on (fun t => t.flag PMC_CTL PMC_CTL_FREEZE = true) = true ∧
    ran (.pmcFreeze .host false) (on.fs PMC_CTL PMC_CTL_FREEZE 1) (fun t => t.flag PMC_CTL PMC_CTL_FREEZE = false) = true ∧
    ran (.pmcClear .host) (on.wg PMC_CORE_CNT 7 [95, 7]) (fun t => t.rg PMC_CORE_CNT [95, 7] = 0) = true := by
  unfold Writes Live; decide +kernel

/-- Core 1 has a tagged instruction, and the ring of 128 samples in DRAM has taken `n`. -/
def tagS (n : Nat) : State :=
  let s := ((on.fs PMC_TAG_RING PMC_TAG_RING_SIZE_LOG2 7).fs PMC_TAG_RING PMC_TAG_RING_BASE 1).wg PMC_TAG_HEAD (BitVec.ofNat 64 n)
  { s with drk := { s.drk with cores := [(1, { bound := 1, tag := some { ctx := 5, pc := 2, insn := 0x04A63800, issue := 999999990 } })] } }

theorem test_tagSample :
    ran (.tagSample 1 4) (tagS 1) (fun t => (t.core 1).tag = none ∧ t.rg PMC_TAG_HEAD = 2 ∧
      t.bytes 0x1020 4 = [2, 0, 0, 0] ∧ t.bytes 0x1038 4 = [10, 0, 4, 0]) = true ∧
    ran (.tagSample 1 4) (tagS 128) (fun t => (t.core 1).tag = none ∧ t.mem = [] ∧ t.rg PMC_TAG_LOST = 1) = true := by decide +kernel

/-- The scorebook records. -/
def recS : State := on.fs SCB_STATUS SCB_STATUS_STATE 2

theorem test_scorebook :
    recS.recording = true ∧ ran (.scbEvtAckWrite .host 2) (on.wg SCB_EVT_TOTAL 3) (fun t => t.rg SCB_EVT_ACK = 2) = true ∧
    ran .scbTimeRecord recS (fun t => t.obs.lastTime = 1000000000) = true ∧
    ran (.scbStop .host 1) recS (fun t => t.fg SCB_STATUS SCB_STATUS_STATE = 4) = true := by decide +kernel

theorem test_tap :
    ran .tapReset on (fun t => t.tap.ir = 0xFF) = true ∧ ran .clamp on (fun t => t.tap.ir = 2) = true ∧ ran .highz on (fun t => t.tap.ir = 3) = true ∧
    ran (.bypass 0xFE) on (fun t => t.tap.ir = 0xFE) = true ∧
    ran (.extest none) on (fun t => t = { on with tap := { on.tap with ir := 0 } }) = true ∧
    ran (.extest (some (0, 1))) on (fun t => t.tap.ir = 0 ∧ SMap.get t.tap.cells 0 false = true) = true ∧
    ran (.samplePreload 0x1000000000000 0) on (fun t => t.tap.ir = 1 ∧ SMap.get t.tap.sampled 48 false = true) = true := by decide +kernel

/-! ## The airtime scheduler and the wireless MAC -/

/-- A home context at index 1 of handle 0x4001 whose queues may hold 64 frames for 100 ms, and link-addressed octets. -/
def airS : State :=
  let s := on.wg WMAC_CTX 0x14001 [1, 0]
  (s.fs AIR_QCFG0 AIR_QCFG0_LIMIT 64 [8]).fs AIR_QCFG0 AIR_QCFG0_MAXAGE 100 [8]

/-- Operation 0 hands the frame to air queue 8. -/
def enqS (handle : Nat) : State :=
  { airS with
    drk := { airS.drk with ops := [(0, { ctx := 5, slot := 0, kind := .enqAir handle 0, frame := some fr, orphan := false, res := none })] },
    wmac := { airS.wmac with asked := [(8, 0)] } }

theorem test_airEnqueue :
    (enqS 0x4001).airStatus 0x4001 0 = 0 ∧ ran (.airEnqueue 0) (enqS 0x4001) (fun t => (t.aq 8).frames.map AirFrame.stamp = [1000000000] ∧
      (t.drk.ops.map fun e => (e.2.res, e.2.frame)) = [(some (0, 0), none)]) = true ∧
    ran (.airEnqueue 0) (enqS 0x8001) (fun t => t.air = airS.air ∧ (t.drk.ops.map fun e => e.2.res) = [some (3, 0)]) = true := by decide +kernel

/-- Air queue 8 holds a frame, stamped `t`. -/
def aqS (t : Nat) : State := { airS with air := { airS.air with qs := [(8, { frames := [⟨fr, t⟩] })] } }

theorem test_airAgeScan :
    ran .airAgeScan (aqS 899999999) (fun t => (t.aq 8).frames = []) = true ∧
    ran .airAgeScan (aqS 900000000) (fun t => (t.aq 8).frames.length = 1) = true := by decide +kernel

theorem test_airCtl :
    Writes on AIR_CTL [] .host ∧ ran (.airCtlWrite .host 0x29) on (fun t => t.disc 0 = 1 ∧ t.disc 1 = 2 ∧ t.disc 2 = 2) = true ∧
    ran (.airCtlWrite .host 0x28) on (fun t => t.rg AIR_CTL = on.rg AIR_CTL ∧ t.rg SCB_EVT_TOTAL = 1) = true := by
  unfold Writes Live; decide +kernel

theorem test_airWheel :
    ran .airWheelSlot { airS with air := { airS.air with qs := [(8, { frames := [⟨fr, 1000000000⟩], till := some 999999001 })] } } (fun t =>
      (t.aq 8).till = none) = true := by decide +kernel

/-- Unit 0 may plan queue 8, whose station TIDMAP selects it. -/
def planS : State := ((aqS 1000000000).fs AIR_U_CFG AIR_U_CFG_PLAN_DEPTH 2 [0]).wg AIR_STA 0xFFFFFF [1]

theorem test_planRequest :
    (planS.freePlan 0 = some 0 ∧ (planS.candidates 0).2 ≠ []) ∧
    ran (.planRequest 0) planS (fun t => (t.pslot 0 0).st = 1 ∧ (t.pslot 0 0).kind = 1 ∧ (t.au 0).seq = 1 ∧
      t.drk.raised.map (fun y => (y.typ, y.unit, y.arg)) = [(3, 0, 0)]) = true := by decide +kernel

/-- Slot 0 of unit 0 waits for a plan, up to `t`. -/
def slotS (t : Nat) : State :=
  let x : PlanSlot := { st := 1, seq := 0, raised := true, kind := 1, notAfter := t, window := [1000, 1000, 1000, 1000] }
  { planS with air := { planS.air with units := [(0, { seq := 1, slots := [(0, x)] })] } }

/-- A DL_SU plan for queue 8: one chain, 500 µs of which 100 are the response. -/
def goodPlan : Bytes :=
  [1, 1, 1, 0, 0, 1, 0, 0] ++ leBytes 4 500 ++ List.replicate 4 0 ++ leBytes 8 0 ++ leBytes 2 100 ++ List.replicate 6 0 ++
    [8, 0, 0, 0, 3, 1, 0, 0] ++ leBytes 4 0 ++ List.replicate 4 0

/-- The plan lies in the slot. -/
def goodS : State :=
  let s := (slotS 2000000000).fs WB_CTL WB_CTL_STANDING_CHAINS 2 [0]
  (s.write (s.slotAddr 0 0) goodPlan).1

theorem test_planAccept :
    goodS.planCheck 0 [1000, 1000, 1000, 1000] goodPlan = 0 ∧ ran (.planPost 0 .host 0) goodS (fun t =>
      (t.pslot 0 0).st = 2 ∧ (t.pslot 0 0).plan = goodPlan ∧ t.bytes (goodS.slotAddr 0 0 + 28) 4 = [1, 0, 0, 0]) = true := by
  decide +kernel

theorem test_planPost :
    (Writes (slotS 2000000000) AIR_U_POST [0] .host ∧ AIR_U_POST_SLOT.of 0 = 0 ∧ AIR_U_POST_SEQ.of 0 = 0) ∧
    ran (.planPost 0 .host 0) (slotS 2000000000) (fun t => (t.pslot 0 0).st = 0 ∧ t.bytes ((slotS 0).slotAddr 0 0 + 28) 4 = [0x10, 0, 0, 0] ∧
      t.rg AIR_U_REFUSED [0] = 1) = true := by
  unfold Writes Live; decide +kernel

theorem test_planExpire :
    ran (.planExpire 0 0) (slotS 1000000000) (fun t => (t.pslot 0 0).st = 0 ∧ t.rg AIR_U_EXPIRED [0] = 1) = true := by decide +kernel

/-- Entry 7 is enabled for unit 1, from 1 s on, for 5 ms every 100 ms. -/
def twtS : State :=
  let s := ((on.wg AIR_TWT0 1000000 [7]).fs AIR_TWT1 AIR_TWT1_INTERVAL 100000 [7]).fs AIR_TWT1 AIR_TWT1_SP 5000 [7]
  (s.fs AIR_TWT1 AIR_TWT1_UNIT 1 [7]).fs AIR_TWT1 AIR_TWT1_ENABLE 1 [7]

theorem test_twtStart :
    twtS.twtArmed 7 = true ∧ twtS.twtStart 7 = 1000000000 ∧ ran (.twtSpStart 7) twtS (fun t => t.inSp 7 = true ∧
      (SMap.get t.air.twts 7 {}).start = 1000000000) = true := by decide +kernel

/-- The entry's period began 5 ms ago. -/
def spS : State := { twtS.fs AIR_TWT2 AIR_TWT2_IN_SP 1 [7] with air := { twtS.air with twts := [(7, { start := 995000000 })] } }

theorem test_twtEnd :
    spS.spEnd 7 = 1000000000 ∧ ran (.twtSpEnd 7) spS (fun t => t.inSp 7 = false ∧ t.rg AIR_TWT0 [7] = 1100000) = true := by decide +kernel

theorem test_twtWrite :
    ran (.airTwtWrite 8 0 .host 0x123) on (fun t => t.rg AIR_TWT0 [8] = 0x123) = true ∧
    (twtOk (twtS.rg AIR_TWT1 [7]) = true ∧ ran (.airTwtWrite 8 1 .host (twtS.rg AIR_TWT1 [7])) on (fun t =>
      t.fg AIR_TWT1 AIR_TWT1_SP [8] = 5000 ∧ t.fg AIR_TWT1 AIR_TWT1_ENABLE [8] = 1) = true) ∧
    ran (.airTwtWrite 8 1 .host 0) on (fun t => t.rg AIR_TWT1 [8] = on.rg AIR_TWT1 [8] ∧ t.rg SCB_EVT_TOTAL = 1) = true := by decide +kernel

/-- Unit 0 receives and sends; its primary channel has been idle since 0. -/
def radS : State :=
  let s := (airS.fs FEL_LINK_STATUS FEL_LINK_STATUS_STATE 3 [0]).fs WB_CTL WB_CTL_TX_EN 1 [0]
  (s.fs WB_CTL WB_CTL_TX_LEAVE 1 [0]).fs WB_CTL WB_CTL_RX_EN 1 [0]

/-- Slot 0 holds a READY plan, and the backoff of AC 0 stands at 4. -/
def backS : State :=
  let x : PlanSlot := { st := 2, seq := 0, raised := true, kind := 1, notAfter := 2000000000, plan := List.replicate 48 0 }
  { radS with
    air := { radS.air with units := [(0, { seq := 1, slots := [(0, x)] })] },
    wmac := { radS.wmac with edca := [(0, { counter := some 4 }), (1, { counter := some 4 })] } }

theorem test_backoff :
    (backS.maySend 0 = true ∧ backS.exch 0 = none ∧ backS.mayContend 0 0 = true ∧ backS.mayContend 0 1 = false) ∧
    ran (.backoffSlotDecision 0 [3, 3, 3, 3]) backS (fun t => (t.edcaOf 0 0).counter = some 3 ∧ (t.edcaOf 0 1).counter = some 4 ∧
      t.exch 0 = none) = true := by decide +kernel

/-- An MPDU of air queue 8. -/
def mp (sn : Nat) : Mpdu := { q := 8, sn, pn := 5, af := ⟨fr, 1000000000⟩, lease := 0, handle := 0x4001, sent := 1 }

/-- An exchange on unit 0. -/
def exS (e : Exchange) : State := { radS with wmac := { radS.wmac with exch := [(0, some e)] } }

theorem test_modulation :
    ran (.mpduModulationStart 0 0) (exS { mpdus := [{ mp 3 with prot := true, job := some 9 }] }) (fun t =>
      ((t.exch 0).map fun e => e.mpdus.map Mpdu.late) = some [true] ∧ t.rg WMAC_TX_CIPHER_LATE = 1) = true := by decide +kernel

theorem test_ackResponse :
    Live (exS { mpdus := [mp 3, mp 4], asked := [1] }) ∧ ran (.ackResponseReceive 0 1 0 [3]) (exS { mpdus := [mp 3, mp 4], asked := [1] }) (fun t =>
      ((t.exch 0).map fun e => (e.mpdus.map Mpdu.sn, e.asked)) = some ([4], [])) = true := by
  unfold Live; decide +kernel

theorem test_ackTimeout :
    ran (.ackTimeout 0) (exS { mpdus := [mp 3], asked := [1] }) (fun t =>
      ((t.exch 0).map fun e => (e.mpdus.map Mpdu.sn, e.asked, e.failed)) = some ([], [], true) ∧ (t.retxOf 8).map Mpdu.sn = [3]) = true := by
  decide +kernel

theorem test_ppduEnd :
    ran (.ppduEnd 0) (exS { ac := 1 }) (fun t => t.exch 0 = none ∧ (t.wbx 0).rx.idleAt = 1000000000) = true ∧
    ran (.ppduEnd 0) { exS { slot := some 0 } with air := backS.air } (fun t => t.exch 0 = none ∧ (t.pslot 0 0).st = 0 ∧
      t.rg AIR_U_SENT [0] = 1) = true := by decide +kernel

/-- A QoS null frame of the station whose address is 02:00:00:00:00:01, without its FCS. -/
def qosNull : Bytes := [0xC8, 0x01, 0, 0, 2, 0, 0, 0, 0, 9, 2, 0, 0, 0, 0, 1, 2, 0, 0, 0, 0, 9, 0x30, 0, 0, 0]

/-- The station's address stands in its context. -/
def rxS : State := radS.wg WMAC_CTX 0x020000000001 [1, 1]

/-- Unit 0 receives a PPDU, which ends at 1,000,010 µs. -/
def ppduS : State := { rxS.fs AIR_STA AIR_STA_PS 1 [1] with wb := [(0, { rx := { st := 2, till := 1000010000 } })] }

theorem test_mpduReceive :
    (ppduS.mayReceive 0 = true ∧ ppduS.inPpdu 0 = true) ∧
    ran (.mpduReceive 0 [1, 2, 3] []) ppduS (fun t => t.rg WB_RX_FCS_BAD [0] = 1 ∧ t.wmac = ppduS.wmac) = true ∧
    ran (.mpduReceive 0 (qosNull ++ leBytes 4 (crc32 qosNull).toNat) []) rxS (fun t => t = rxS) = true ∧
    (rxS.findSta 0 (beAt qosNull 10 6) = some 1 ∧ fcType qosNull = 2 ∧ fcSub qosNull = 12) ∧
    ran (.mpduReceive 0 (qosNull ++ leBytes 4 (crc32 qosNull).toNat) []) ppduS (fun t => t.flag AIR_STA AIR_STA_PS [1] = false ∧
      ((SMap.get t.wmac.resp 0 none).map fun r => (r.due, r.acks)) = some (1000026000, [(1, 0, 3)])) = true := by decide +kernel

theorem test_forward :
    ran (.mpduForwardArrive { unit := 0, handle := 5, tid := 0, sn := 0 } []) radS (fun t =>
      t.rg WMAC_RX_NO_STA = 1 ∧ t.wmac = radS.wmac) = true := by decide +kernel

theorem test_reorderHold :
    ran (.reorderHoldExpire 1 0) { rxS with wmac := { rxS.wmac with reorder := [(8, { held := [{ unit := 0, handle := 0x4001, tid := 0, sn := 9 }], gapTill := some 1000000000 })] } } (fun t =>
      (t.reorderOf 1 0).held = [] ∧ (t.reorderOf 1 0).gapTill = none ∧ t.sessWs 1 12 0 = 10) = true := by decide +kernel

theorem test_blockackreq :
    ran (.blockackreqReceive 0 2 3 77) (ppduS.wg WMAC_CTX 0x24002 [2, 0]) (fun t =>
      ((SMap.get t.wmac.resp 0 none).map fun r => (r.due, r.acks)) = some (1000026000, [(2, 3, 77)])) = true := by decide +kernel

theorem test_wsUpdate :
    ran (.wsUpdateReceive 0x4001 3 20) { rxS with wmac := { rxS.wmac with score := [((8 + 3) * 4, { ws := 10, seen := [11, 21] })] } } (fun t =>
      t.scoreOf 1 3 0 = { ws := 20, seen := [21] }) = true := by decide +kernel

theorem test_responseRelease :
    ran (.responseRelease 0 true) { rxS with wmac := { rxS.wmac with resp := [(0, some { due := 1000000000 })] } } (fun t =>
      SMap.get t.wmac.resp 0 none = none ∧ t.rg WB_TX_PPDU [0] = 1) = true ∧
    ran (.responseRelease 0 true) { rxS with wmac := { rxS.wmac with resp := [(0, some { due := 999999998 })] } } (fun t =>
      SMap.get t.wmac.resp 0 none = none ∧ t.rg WMAC_U_LATE_RESP [0] = 1) = true ∧
    ran (.responseRelease 0 false) { rxS with wmac := { rxS.wmac with resp := [(0, some { due := 1000000000 })] } } (fun t =>
      SMap.get t.wmac.resp 0 none = none ∧ t.rg WMAC_U_LATE_RESP [0] = 1) = true := by decide +kernel

theorem test_leaseRequest :
    airS.grantable { handle := 0x4001, tid := 2, dev := 0, gated := false } = true ∧
    ran (.leaseRequest 0x4001 2 0) airS (fun t => t.seqOf 1 2 = 1 ∧ t.cw 1 4 = 1 ∧ t.wmac.granted.map HomeLease.len = [1] ∧
      t.wmac.leases.map (fun e => (e.2.handle, e.2.tid)) = [(0x4001, 2)]) = true ∧
    ran (.leaseRequest 0x4001 2 0) { airS with wmac := { airS.wmac with moves := [(1, { old := 0, till := 0, arrived := false })] } } (fun t =>
      t.wmac.deferred.map LeaseReq.tid = [2]) =
      !({ airS with wmac := { airS.wmac with moves := [(1, { old := 0, till := 0, arrived := false })] } : State }.grantable
        { handle := 0x4001, tid := 2, dev := 0, gated := false }) := by decide +kernel

theorem test_leaseGrant :
    ran (.leaseGrantReceive 0x4001 2 100 16 7 true) airS (fun t =>
      t.wmac.leases.map (fun e => (e.2.sn, e.2.len, e.2.pn, e.2.bar)) = [(100, 16, 7, true)]) = true := by decide +kernel

theorem test_leaseDeferred :
    ran .leaseDeferredGrant { airS with wmac := { airS.wmac with deferred := [{ handle := 0x4001, tid := 2, dev := 0, gated := false }] } } (fun t =>
      t.wmac.deferred = [] ∧ t.wmac.granted.map HomeLease.tid = [2]) = true := by decide +kernel

/-- A granted lease of station 1's TID 2, from SN 100. -/
def grantL : HomeLease := { n := 1, tid := 2, dev := 0, sn := 100, len := 16, at_ := 0 }

theorem test_leaseClose :
    ran (.leaseClose 0x4001 2 0 100 16) { airS with wmac := { airS.wmac with granted := [grantL] } } (fun t => t.wmac.granted = []) = true := by
  decide +kernel

theorem test_leaseRecall :
    ran (.leaseRecall 1 2 0) { airS with wmac := { airS.wmac with
        granted := [grantL], leases := [(0, { handle := 0x4001, tid := 2, sn := 100, len := 16, pn := 7, used := 1, live := 1 })],
        deferred := [{ handle := 0x4001, tid := 2, dev := 0, gated := false }] } } (fun t =>
      t.wmac.leases.map (fun e => e.2.recalled) = [true] ∧ t.rg WMAC_LEASE_RECALL = 1) = true := by decide +kernel

theorem test_migrate :
    ran (.migrateStateArrive 0x4001 (List.range 32) []) { airS with wmac := { airS.wmac with moves := [(1, { old := 5, till := 0, arrived := false })] } } (fun t =>
      (SMap.find t.wmac.moves 1).map Move16.arrived = some true ∧ t.cw 1 31 = 31) = true ∧
    ran (.migrateGraceEnd 1) { airS with wmac := { airS.wmac with moves := [(1, { old := 5, till := 0, arrived := true })] } } (fun t =>
      t.wmac.moves = []) = true := by decide +kernel

/-! ## Radio units, links and the spatial engine -/

/-- Unit 0's link is up and it receives. -/
def uS : State := (on.fs FEL_LINK_STATUS FEL_LINK_STATUS_STATE 3 [0]).fs WB_CTL WB_CTL_RX_EN 1 [0]

/-- Its receiver is in a state. -/
def uRx (r : Rx) : State := { uS with wb := [(0, { rx := r })] }

theorem test_preamble :
    (uS.mayReceive 0 = true ∧ uS.receiving 0 = false ∧ dbmLevel (uS.fg WB_DET WB_DET_PD_LVL [0]) ≤ 60) ∧
    ran (.preambleDetect 0 60 2 [0x102, 5]) uS (fun t => (t.wbx 0).rx.st = 1 ∧ (t.wbx 0).rx.level = 60 ∧ (t.wbx 0).rx.cover = 2 ∧
      (t.wbx 0).words = [(0, 0x102), (1, 5)] ∧ t.rg WB_RX_DETECT [0] = 1) = true := by decide +kernel

theorem test_lsig :
    Live (uRx { st := 1 }) ∧ (lsigTime 0xC8B).isSome = true ∧ ran (.lsigCheck 0 0xC8B) (uRx { st := 1 }) (fun t => (t.wbx 0).rx.st = 2 ∧
      some ((t.wbx 0).rx.till) = (lsigTime 0xC8B).map fun n => 1000000000 + n * 1000 - 20000) = true ∧
    lsigTime 0 = none ∧ ran (.lsigCheck 0 0) (uRx { st := 1 }) (fun t => (t.wbx 0).rx.st = 0 ∧ t.rg WB_RX_LSIG_FAIL [0] = 1) = true := by
  unfold Live; decide +kernel

theorem test_sigField :
    (let f : SigField := { fmt := .heSu, bw := 1, mcs := 11, nss := 2 }
     sigOk 0 f = true ∧ ran (.sigFieldCheck 0 f true) (uRx { st := 2, till := 1000001000 }) (fun t => (t.wbx 0).rx.sig = some f) = true ∧
     ran (.sigFieldCheck 0 f false) (uRx { st := 2, till := 1000001000, cover := 2 }) (fun t => (t.wbx 0).rx.st = 0 ∧
       (t.wbx 0).rx.holdTill = 1000001000 ∧ (t.wbx 0).rx.hold = 2 ∧ t.rg WB_RX_SIG_FAIL [0] = 1) = true) := by decide +kernel

/-- Values that a unit does not support end its reception (Table WBR-1): VHT on unit 0, 320 MHz on unit 1. -/
theorem test_sigFormats :
    sigOk 0 { fmt := .vht, bw := 0, mcs := 0, nss := 1 } = false ∧ sigOk 1 { fmt := .ehtMu, bw := 4, mcs := 0, nss := 1 } = false ∧
    sigOk 2 { fmt := .ehtMu, bw := 4, mcs := 13, nss := 16 } = true ∧ sigOk 2 { fmt := .ehtMu, bw := 4, mcs := 13, nss := 17 } = false := by
  decide +kernel

theorem test_rxRestart :
    ran (.rxRestart 0 90) (uRx { st := 1, level := 60, restart := true, jump := 30 }) (fun t => (t.wbx 0).rx.st = 0 ∧
      t.rg WB_RX_RESTART [0] = 1) = true := by decide +kernel

theorem test_cca :
    dbmLevel (uS.fg WB_DET WB_DET_ED_LVL [0]) ≤ 100 ∧ ran (.ccaChange 0 1 100) (uRx { busy := 4 }) (fun t => (t.wbx 0).rx.busy = 6) = true ∧
    ran (.ccaChange 0 1 0) (uRx { busy := 6 }) (fun t => (t.wbx 0).rx.busy = 4) = true := by
  decide +kernel

theorem test_felEnable :
    (Writes on FEL_LINK_CTL [0] .host ∧ on.lanesOk FEL_TXLANE FEL_TXLANE_UNIT FEL_TXLANE_LOGICAL 0 = true) ∧
    ran (.felLinkEnable 0 .host 1) on (fun t => t.flag FEL_LINK_CTL FEL_LINK_CTL_ENABLE [0] = true ∧
      (t.felUnit 0).fresh = false) = true := by
  unfold Writes Live; decide +kernel

/-- Unit 0's link is enabled. -/
def felS : State := (on.fs FEL_LINK_CTL FEL_LINK_CTL_ENABLE 1 [0]).fs FEL_LINK_CTL FEL_LINK_CTL_SYSREF_USE 1 [0]

theorem test_sysref :
    ran (.sysrefEdge 0) felS (fun t => t.felUnit 0 = { aligned := some 1000000000, fresh := true } ∧ t.fel.stamp = 1000000000) = true ∧
    ran (.sysrefEdge 1) { felS.fs FEL_LINK_CTL FEL_LINK_CTL_SYSREF_USE 2 [0] with fel := { units := [(0, { aligned := some 5, fresh := true })] } }
      (fun t => t.felUnit 0 = { aligned := some 5, fresh := true } ∧ t.flag FEL_LINK_STATUS FEL_LINK_STATUS_DRIFT_SEEN [0] = true) = true := by decide +kernel

theorem test_felUp :
    ran (.felLinkUp 0 3) felS (fun t => t.felUp 0 = false) = true ∧
    ran (.felLinkUp 0 3) { felS with fel := { units := [(0, { aligned := some 5, fresh := true })] } } (fun t => t.felUp 0 = true ∧ (t.wbx 0).rx.idleAt = 1000000000) = true := by
  decide +kernel

theorem test_felLoss :
    ran (.felLinkLoss 0 1) (uRx { st := 1 }) (fun t => t.felUp 0 = false ∧ t.flag FEL_LINK_STATUS FEL_LINK_STATUS_LOSS_SEEN [0] = true ∧
      t.receiving 0 = false) = true := by decide +kernel

/-- WB0_CTL with TX_EN and two standing chains. -/
def wbCtl : Word := setFld (setFld 0 WB_CTL_STANDING_CHAINS.hi WB_CTL_STANDING_CHAINS.lo 2) WB_CTL_TX_EN.hi WB_CTL_TX_EN.lo 1

theorem test_txEnable :
    Writes on WB_CTL [0] .host ∧ ran (.txEnable 0 .host wbCtl) on (fun t => t.flag WB_CTL WB_CTL_TX_EN [0] = true ∧ (t.wbx 0).txAsk = true ∧
      t.pwr.queue.map (fun q => (q.cls, q.amount)) = [(1, 300)]) = true := by
  unfold Writes Live; decide +kernel

theorem test_txDisable :
    let s := (on.fs WB_CTL WB_CTL_TX_EN 1 [0]).fs WB_CTL WB_CTL_TX_LEAVE 1 [0] |>.fs WB_CTL WB_CTL_STANDING_CHAINS 2 [0]
    ran (.txDisable 0 .host wbCtl) { s with pwr := { s.pwr with grants := [(0, { cls := 1, amount := 300, req := 1, index := 0 })] } } (fun t =>
      t.flag WB_CTL WB_CTL_TX_EN [0] = false ∧ t.flag WB_CTL WB_CTL_TX_LEAVE [0] = false ∧ t.pwr.grants = []) = true := by decide +kernel

/-- A record at the start of SRAM, with station 1 linked on unit 0. -/
def recAt (b : Bytes) : State := (((on.wg WMAC_CTX 0x14001 [1, 0]).wg WMAC_CTX 0x10 [1, 2]).write 0x4000000000 b).1

/-- A sounding of station 1 over one chain, to begin within 100 ms. -/
def sndRec : Bytes :=
  [1, 2, 1, 0, 1, 0] ++ leBytes 2 100 ++ leBytes 2 100 ++ List.replicate 6 0 ++ [1, 0] ++ List.replicate 46 0

theorem test_sndPost :
    (recAt sndRec).sndOk 0 sndRec = true ∧ (recAt sndRec).chk = [] ∧ (recAt sndRec).flag MEM_INJECT MEM_INJECT_ARM = false ∧
    ran (.sndPost 0 .host 0x4000000000) ((recAt sndRec).fs WB_CTL WB_CTL_STANDING_CHAINS 2 [0]) (fun t =>
      (t.wbx 0).sounds.map (fun d => (d.addr, d.ac, d.till, d.need)) = [(0x4000000000, 2, 1100000000, 0)]) = true ∧
    ran (.sndPost 0 .host 0x1000) on (fun t => t.wb = [] ∧ t.rg SCB_EVT_TOTAL = 1) = true := by decide +kernel

theorem test_sndExpire :
    ran (.soundingExpire 0) { recAt sndRec with wb := [(0, { sounds := [⟨0x4000000000, 2, 1000000000, 0, false⟩] })] } (fun t =>
      (t.wbx 0).sounds = [] ∧ t.rg WB_SND_EXPIRED [0] = 1) = true := by decide +kernel

/-- The sounding is in progress on unit 0. -/
def sndS : State := { recAt sndRec with wmac := { on.wmac with exch := [(0, some { sound := some 0x4000000000 })] } }

theorem test_feedback :
    ran (.feedbackReceive 0 0 5 none) sndS (fun t => ((t.exch 0).map Exchange.sndSeen) = some 1 ∧ t.rg WB_FB_MISSING [0] = 1) = true ∧
    ran (.feedbackReceive 0 0 5 (some [7, 8])) sndS (fun t => ((t.exch 0).map Exchange.sndStored) = some 1 ∧
      t.bytes (sndS.fbEntry 0 1 + 64) 2 = [7, 8]) = true := by decide +kernel

/-- A PRECODE job of one user; an INVALIDATE of entry 5. -/
def preJob : Bytes := [1, 0, 1, 0, 0xFF, 0xFF, 0, 0] ++ List.replicate 56 0
def invJob : Bytes := [3, 0, 0, 0, 5, 0] ++ List.replicate 58 0

theorem test_speSubmit : ran (.speSubmit .host 0x4000000040) on (fun t => t.spe.queue = [0x4000000040]) = true := by decide +kernel

theorem test_speStart :
    speOk preJob = true ∧ ran (.speJobStart 1) { recAt preJob with spe := { queue := [0x4000000000] } } (fun t => t.spe.queue = [] ∧
      SMap.find t.spe.lanes 1 = some { addr := 0x4000000000 } ∧ t.pwr.queue.map Leave.amount = [5000]) = true := by decide +kernel

/-- Precoder entry 5 is in use since an instant. -/
def precS (a : Nat) : State := { recAt invJob with spe := { precs := [(5, { used := true, at_ := a })], lanes := [(0, { addr := 0x4000000000, granted := true })] } }

theorem test_speDone :
    (precS 960000000).precValid 0 5 = true ∧ ran (.speJobDone 0) (precS 960000000) (fun t => SMap.find t.spe.lanes 0 = none ∧
      (SMap.get t.spe.precs 5 {}).used = false ∧ (SMap.get t.spe.precs 5 {}).gen = 1 ∧ t.byte 0x4000000030 = 1) = true := by decide +kernel

theorem test_precExpire :
    ran (.precoderExpire 5) (precS 950000000) (fun t => (SMap.get t.spe.precs 5 {}).used = false ∧
      (SMap.get t.spe.precs 5 {}).gen = 1) = true := by decide +kernel

/-! ## Ethernet ports, the skimmer and the traffic manager -/

/-- Sub-port 0 of port 1 is enabled and its link up. -/
def ethS : State := (on.fs ETH_MODE ETH_MODE_SPEN 1 [1]).fs ETH_SP_STATUS ETH_SP_STATUS_LINK 1 [1, 0]

/-- A broadcast frame of 64 bytes with its FCS. -/
def bcast : Bytes :=
  let b : Bytes := List.replicate 6 0xFF ++ [2, 0, 0, 0, 0, 1, 0x12, 0x34] ++ List.replicate 46 0x55
  b ++ leBytes 4 (crc32 b).toNat

/-- A pause frame of 16 quanta with its FCS. -/
def pauseF : Bytes :=
  let b : Bytes := [1, 0x80, 0xC2, 0, 0, 1, 2, 0, 0, 0, 0, 1, 0x88, 8, 0, 1, 0, 16] ++ List.replicate 42 0
  b ++ leBytes 4 (crc32 b).toNat

theorem test_ethMode :
    Writes on ETH_MODE [1] .host ∧ ran (.ethModeWrite 1 .host 1) on (fun t => t.fg ETH_MODE ETH_MODE_MODE [1] = 1) = true ∧
    ran (.ethModeWrite 1 .host 3) on (fun t => t.rg ETH_MODE [1] = on.rg ETH_MODE [1] ∧ t.rg SCB_EVT_TOTAL = 0) = true := by
  unfold Writes Live; decide +kernel

theorem test_ethLink :
    ran (.ethLinkChange 1 0 (some (ethS.spPhy 1 0))) (ethS.fs ETH_SP_STATUS ETH_SP_STATUS_LINK 0 [1, 0]) (fun t => t.spLink 1 0 = true) = true ∧
    ran (.ethLinkChange 1 0 (some { ethS.spPhy 1 0 with fec := 9 })) (ethS.fs ETH_SP_STATUS ETH_SP_STATUS_LINK 0 [1, 0]) (fun t =>
      t.spLink 1 0 = false) = true ∧
    ran (.ethLinkChange 1 0 none) ethS (fun t => t.spLink 1 0 = false ∧ t.flag ETH_SP_STATUS ETH_SP_STATUS_DOWN_SEEN [1, 0] = true) = true := by
  decide +kernel

/-- A frame is being sent on the sub-port from queue 256. -/
def txS : State :=
  { ethS with eth := [(1, { tx := [(0, some { queue := 256, frame := fr, last := true, bytes := [1, 2, 3] })] })] }

theorem test_subportDisable :
    ran (.subportDisable 1 0 .host) txS (fun t => t.txOf 1 0 = none ∧ t.rg ETH_TX_ABORT [1, 0] = 1 ∧
      bitN (t.fg ETH_MODE ETH_MODE_SPEN [1]) 0 = false) = true := by decide +kernel

/-- A frame of 64 bytes cut off 4 ns after its preamble at 25 Gb/s: 12 of its bytes have gone, and an inverted FCS follows. -/
theorem test_frameCut :
    let o : EthOut := { queue := 256, frame := fr, last := true, bytes := bcast, at_ := 999999993 }
    let s := { txS with eth := [(1, { tx := [(0, some o)] })] }
    let b := bcast.take (min (7 * s.lineRate 1 / 8 - 8) 60)
    ran (.subportDisable 1 0 .host) s (fun t =>
      SMap.find (t.port 1).wire 0 = some (b ++ leBytes 4 (~~~(crc32 b)).toNat)) = true := by decide +kernel

/-- The ring that unmatched frames go to has room. -/
def ringS : State :=
  let r := ethS.fg ETH_RXDEF ETH_RXDEF_RING [1]
  ((ethS.fs ETH_RING_CFG ETH_RING_CFG_DESC 8 [1, r]).fs ETH_RING_CFG ETH_RING_CFG_PAILS 8 [1, r]).fs ETH_SP_CFG ETH_SP_CFG_BCAST 1 [1, 0]

theorem test_ethFate :
    (ringS.destOk 1 0 bcast = true ∧ isMacCtl bcast = false) ∧
    ran (.ethFrameFate 1 0 bcast) ringS (fun t => ((t.rxOf 1 0).map fun i => (i.ring, i.ns)) = some (some 0, 999999998)) = true ∧
    ran (.ethFrameFate 1 0 bcast) (ringS.fs ETH_SP_CFG ETH_SP_CFG_BCAST 0 [1, 0]) (fun t => t.rxOf 1 0 = none ∧ t.rg ETH_RX_FILTERED [1, 0] = 1) = true := by
  decide +kernel

/-- A frame is in reception. -/
def inS (b : Bytes) : State :=
  { ethS with eth := [(1, { rxIn := [(0, some { ring := some 3, bytes := b, pails := [1], ns := 999, frac := 5, lim := 1522 })] })] }

theorem test_ethFrameEnd :
    fcsOk bcast = true ∧ ran (.ethFrameEnd 1 0) (inS bcast) (fun t => t.rxOf 1 0 = none ∧ t.rg ETH_RX_FRAMES [1, 0] = 1 ∧
      (SMap.get (t.port 1).rings 3 []).map (fun f => (f.len, f.stampNs)) = [(60, 999)]) = true ∧
    ran (.ethFrameEnd 1 0) (inS (bcast.take 60 ++ [0, 0, 0, 0])) (fun t => t.rxOf 1 0 = none ∧ t.rg ETH_RX_FCS_BAD [1, 0] = 1) = true ∧
    ran (.ethFrameEnd 1 0) (inS (bcast.take 63)) (fun t => t.rg ETH_RX_RUNT [1, 0] = 1) = true := by decide +kernel

/-- The ring holds frames of the sub-ports 1, before, and 2, in this instant; sub-port 0's goes between them. A frame is measured
against the limit of its start. -/
theorem test_ringOrder :
    let g (k a : Nat) : Frame := { pail := k, len := 60, source := 0x1000 + k, inAt := a }
    let i : EthIn := { ring := some 3, bytes := bcast, pails := [9], ns := 999, frac := 5, lim := 1522 }
    let s := { ethS with eth := [(1, { rxIn := [(0, some i)], rings := [(3, [g 1 5, g 2 1000000000])] })] }
    ran (.ethFrameEnd 1 0) s (fun t => (SMap.get (t.port 1).rings 3 []).map Frame.pail = [1, 9, 2]) = true ∧
    ran (.ethFrameEnd 1 0) { ethS with eth := [(1, { rxIn := [(0, some { i with lim := 63 })] })] } (fun t =>
      t.rg ETH_RX_OVERSIZE [1, 0] = 1 ∧ t.rxOf 1 0 = none) = true := by decide +kernel

/-- Sub-port 0 of port 1 uses PAUSE, and a priority's pause stands so. -/
def pauseS (prio : Nat) (p : Pause) : State :=
  let s := ethS.fs ETH_SP_CFG ETH_SP_CFG_FC_MODE 1 [1, 0]
  { s with eth := [(1, { pause := [(prio, p)], pauseSent := [(prio, (100, 0))] })] }

theorem test_pauseReceive :
    ran (.pauseFrameReceive 1 0 pauseF) (pauseS 0 {}) (fun t => ((t.port 1).pauseOf 0 5).till = some (1000000000 + ceilDiv (16 * 512) (t.lineRate 1)) ∧
      t.rg ETH_RX_PAUSE [1, 0] = 1) = true := by decide +kernel

theorem test_pauseTimers :
    ran (.pauseTimerExpire 1 0 5) (pauseS 5 { till := some 1000000000, since := some 9 }) (fun t => (t.port 1).pauseOf 0 5 = {}) = true ∧
    ran (.pauseRefresh 1 0 5) (pauseS 5 { sent := some 999990000 }) (fun t => ((t.port 1).pauseOf 0 5).sent = some 1000000000 ∧
      t.rg ETH_TX_PAUSE_SENT [1, 0] = 1) = true := by decide +kernel

/-- Behind a frame in transmission a refresh waits, and goes at that frame's end. -/
theorem test_pauseBehind :
    let o : EthOut := { queue := 256, frame := fr, last := true, bytes := [1, 2, 3] }
    let s := pauseS 5 { sent := some 999990000 }
    ran (.pauseRefresh 1 0 5) { s with eth := [(1, { s.port 1 with tx := [(0, some o)] })] } (fun t =>
      (t.port 1).pauseQ = [(0, 5, t.fg ETH_SP_WD ETH_SP_WD_XOFF_QUANTA [1, 0])] ∧ t.rg ETH_TX_PAUSE_SENT [1, 0] = 0) = true ∧
    ran (.frameTxEnd 1 0) { s with eth := [(1, { s.port 1 with tx := [(0, some o)], pauseQ := [(0, 5, 77)] })] } (fun t =>
      t.txOf 1 0 = none ∧ (t.port 1).pauseQ = [] ∧ t.rg ETH_TX_PAUSE_SENT [1, 0] = 1 ∧
      (SMap.get (t.port 1).wire 0 []).take 6 = [1, 0x80, 0xC2, 0, 0, 1]) = true := by decide +kernel

/-- Queue 256 of class 5 holds the frame, paused since `since`, with the watchdog on. -/
def wdS : State :=
  let s := ((pauseS 5 { till := some 2000000000, since := some 0 }).fs ETH_SP_WD ETH_SP_WD_WD_EN 1 [1, 0]).fs TMG_Q_CFG TMG_Q_CFG_TC 5 [256]
  { s with tmg := { s.tmg with qs := [(256, { frames := [⟨fr, 1000000000, 0, 0⟩] })] } }

theorem test_watchdog :
    wdS.headReady 4 256 = true ∧ ran (.watchdogTrip 1 0 5) wdS (fun t => t.storm 1 0 5 = true ∧ t.rg ETH_WD_TRIPS [1, 0] = 1) = true ∧
    ran (.stormClear 1 0 5) (wdS.fs ETH_SP_STATUS ETH_SP_STATUS_STORM 0x20 [1, 0]) (fun t => t.storm 1 0 5 = false) = true := by decide +kernel

theorem test_txts :
    ran (.txtsPop 1 .host) { ethS with eth := [(1, { stamps := [{ cmd := none, tag := 7, ns := 88, frac := 9, sub := 2 }] })] } (fun t =>
      (t.port 1).stamps = [] ∧ SMap.find t.rdata Init.host.key = some (BitVec.ofNat 64 (7 + 9 * 2 ^ 16 + 2 * 2 ^ 32 + 2 ^ 34))) = true := by
  decide +kernel

theorem test_boundary :
    (let s := radS.fs FEL_TXLANE FEL_TXLANE_UNIT 0 [7] |>.fs FEL_RXLANE FEL_RXLANE_UNIT 0 [7]
     let b : Burst := { at_ := 999990000, till := 1000100000, lead := 1, prof := 0, lag := 1, chains := 1 }
     ran (.boundaryFifoEvent (.jesdTx 7)) { s with wb := [(0, { bursts := [b] })] } (fun t =>
       t.rg WB_TX_UNDERRUN [0] = 1 ∧ t.sending 0 = false ∧ t.rg SCB_EVT_TOTAL = 1) = true ∧
     ran (.boundaryFifoEvent (.jesdRx 7)) { s with wb := [(0, { rx := { st := 1 } })] } (fun t =>
       t.rg WB_RX_OVERRUN [0] = 1 ∧ t.receiving 0 = false) = true) ∧
    ran (.boundaryFifoEvent .tiqTx) (on.fs TLM_CTL TLM_CTL_ENABLE 1) (fun t => t.rg TLM_TIQ_UNDERRUN = 1) = true ∧
    ran (.boundaryFifoEvent .tiqRx) { on.fs TLM_CTL TLM_CTL_ENABLE 1 with tlm := { rx := some { st := 2, prof := 0, level := 9, at_ := 999000000, slot := ⟨0, 0, 0, 0, 0, false⟩ } } } (fun t =>
      t.rg TLM_TIQ_OVERRUN = 1 ∧ t.tlm.rx = none) = true ∧
    ran (.boundaryFifoEvent (.ethTx 1 0 2)) txS (fun t => t.rg ETH_TX_UNDERRUN [1, 0] = 1 ∧ t.txOf 1 0 = none) = true ∧
    ran (.boundaryFifoEvent (.ethRx 1 0)) (inS bcast) (fun t => t.rxOf 1 0 = none) = true ∧
    ran (.boundaryFifoEvent (.linkRx 2)) { on with fab := { on.fab with links := [(2, { st := 2 })] } } (fun t =>
      t.rg SCB_EVT_TOTAL = 1 ∧ SMap.get t.obs.fifos 2 0 = 1) = true := by decide +kernel

theorem test_whistle :
    ran (.whistle 3 0x1000 1000000500 1000000400 0 0 0) ((on.fs TLM_CTL TLM_CTL_ENABLE 1).fs DRC_WHISTLE DRC_WHISTLE_EN 15) (fun t =>
      t.rg DRC_WHISTLES = 1 ∧ t.rg DRC_WH_LATE = 0) = true ∧
    ran (.whistle 3 0x1000 1000000500 1000000501 0 0 0) ((on.fs TLM_CTL TLM_CTL_ENABLE 1).fs DRC_WHISTLE DRC_WHISTLE_EN 15) (fun t =>
      t.rg DRC_WH_LATE = 1 ∧ t.rg TLM_TIQ_UNDERRUN = 1) = true := by decide +kernel

/-- A frame waits at the skimmer's HIF input, and one at its churn input. -/
def skS (j : Nat) : State :=
  match ((on.fs SKM_SET_CLASS SKM_SET_CLASS_MAL_ACT 0 [0]).fs SKM_SET_CLASS SKM_SET_CLASS_MAL_ACT 0 [1]).storeFrame 0 (bcast.take 60) with
  | some (s, _) => { s with skm := { s.skm with inputs := [(j, [{ pail := 1, len := 60, home := 7 }])] } }
  | none => on

theorem test_skimmer :
    ((skS 4).fg SKM_SET_CLASS SKM_SET_CLASS_DEPTH_ACT [0] = 0 ∧ (skS 4).fg SKM_SET_CLASS SKM_SET_CLASS_MAL_ACT [0] = 0) ∧
    ran .skimmerPass (skS 4) (fun t => t.skm.last = 4 ∧ t.rg SKM_CNT_FIRST_PASSES = 1 ∧ t.drk.raised.map (fun z => (z.typ, z.length)) = [(1, 60)]) = true ∧
    ran .skimmerPass (skS 0) (fun t => t.rg SKM_CNT_CHURN_PASSES = 1 ∧ t.drk.raised.map (fun z => (z.typ, z.pinned)) = [(2, some 7)]) = true := by
  decide +kernel

theorem test_skmIndir :
    ran (.skmIndirWrite 9 .host 11) { on with skm := { on.skm with outstanding := [(9, 1)] } } (fun t =>
      t.fg SKM_INDIR SKM_INDIR_CTX [9] = 11 ∧ SMap.get t.skm.moving 9 false = true) = true ∧
    ran (.skmIndirWrite 9 .host 384) on (fun t => t.rg SKM_INDIR [9] = on.rg SKM_INDIR [9] ∧ t.rg SCB_EVT_TOTAL = 1) = true := by decide +kernel

theorem test_indirRelease :
    ran (.indirRelease 9) { on with skm := { on.skm with moving := [(9, true)], heldEv := [(9, [(9, { typ := 1, pinned := some 11 })])] } } (fun t =>
      t.drk.raised.map Ev.pinned = [some 11] ∧ SMap.get t.skm.moving 9 false = false ∧ SMap.get t.skm.outstanding 9 0 = 1) = true ∧
    ran (.indirRelease 512) { on with skm := { on.skm with hashHold := true } } (fun t => t.skm.hashHold = false) = true := by decide +kernel

/-- Operation 0 hands the frame to TMG queue 256, which holds `n` frames. -/
def enqT (n : Nat) : State :=
  let s := (ethS.fs TMG_Q_CFG TMG_Q_CFG_LIMIT 2 [256]).fs TMG_Q_CFG TMG_Q_CFG_YLIMIT 2 [256]
  { s with
    drk := { s.drk with ops := [(0, { ctx := 5, slot := 0, kind := .enqTmg 256 (List.replicate 8 0), frame := some fr, orphan := false, res := none })] },
    tmg := { s.tmg with qs := [(256, { frames := List.replicate n ⟨fr, 1000000000, 0, 0⟩ })] } }

theorem test_tmgEnqueue :
    ran (.tmgEnqueue 0) (enqT 1) (fun t => (t.tq 256).frames.length = 2 ∧ (t.drk.ops.map fun e => (e.2.res, e.2.frame)) = [(some (0, 0), none)]) = true ∧
    ran (.tmgEnqueue 0) (enqT 2) (fun t => (t.tq 256).frames.length = 2 ∧ t.rg TMG_ENQ_FULL = 1 ∧ (t.drk.ops.map fun e => e.2.res) = [some (2, 0)]) = true := by
  decide +kernel

theorem test_tmgAge :
    ran .tmgAgeScan ((enqT 1).fs TMG_Q_CFG TMG_Q_CFG_MAXAGE 1 [256]) (fun t => (t.tq 256).frames.length = 1) = true ∧
    ran .tmgAgeScan { (enqT 1).fs TMG_Q_CFG TMG_Q_CFG_MAXAGE 1 [256] with tmg := { on.tmg with qs := [(256, { frames := [⟨fr, 998999999, 0, 0⟩] })] } } (fun t =>
      (t.tq 256).frames = []) = true := by decide +kernel

theorem test_calendar :
    ran .calendarWheelSlot { on with tmg := { on.tmg with qs := [(3, { till := some 1000000000 }), (4, { till := some 1000000001 })] } } (fun t =>
      (t.tq 3).till = none ∧ (t.tq 4).till = some 1000000001) = true := by decide +kernel

theorem test_gates :
    ran (.gateEntry 4) ethS (fun t => t.fg TMG_SP_GATE TMG_SP_GATE_OPEN [4] = 0xFF) = true ∧
    ran (.gateSwitchStart 4) { ethS with tmg := { ethS.tmg with sps := [(4, { switch := some (1, 1000000000) })] } } (fun t =>
      t.fg TMG_SP_GATE TMG_SP_GATE_ACTIVE_BANK [4] = 1 ∧ t.flag TMG_SP_GATE TMG_SP_GATE_GATE_EN [4] = true ∧ (t.sp 4).switch = none) = true := by
  decide +kernel

theorem test_strict :
    ran .strictAutoClear { (on.fs TMG_CTL TMG_CTL_STRICT_AUTO 1) with tmg := { on.tmg with recover := some 999000000 } } (fun t =>
      t.flag TMG_CTL TMG_CTL_STRICT_AUTO = false ∧ t.fg TMG_CTL TMG_CTL_STRICT = t.fg TMG_CTL TMG_CTL_STRICT_HOST) = true := by decide +kernel

/-- Policer 3's words with a CIR of 1000 and bursts of 4, not enabled. -/
def polS : State :=
  (((on.fs TMG_POL0 TMG_POL0_CIR 1000 [3]).fs TMG_POL0 TMG_POL0_CBS 4 [3]).fs TMG_POL1 TMG_POL1_PIR 2000 [3]).fs TMG_POL1 TMG_POL1_PBS 4 [3]

theorem test_policer :
    ran (.policerWrite 3 1 .host (setFld (polS.rg TMG_POL1 [3]) TMG_POL1_EN.hi TMG_POL1_EN.lo 1)) polS (fun t =>
      t.flag TMG_POL1 TMG_POL1_EN [3] = true ∧ t.pol 3 = ⟨262144, 262144, 1000000000, 0, 0⟩) = true ∧
    ran (.policerWrite 3 0 .host 0) polS (fun t => t.rg TMG_POL0 [3] = polS.rg TMG_POL0 [3] ∧ t.rg SCB_EVT_TOTAL = 1) = true := by decide +kernel

theorem test_shaper :
    ran (.shaperWrite true 256 .host (on.rg TMG_Q_SHAPE [256])) on (fun t => (t.tq 256).tok = (on.fg TMG_Q_SHAPE TMG_Q_SHAPE_BURST [256] * 65536 : Nat)) = true ∧
    (on.fg TMG_Q_SHAPE TMG_Q_SHAPE_RATE [256] ≠ 0 ∧ on.fg TMG_Q_SHAPE TMG_Q_SHAPE_QUANTUM [256] ≠ 0) ∧
    ran (.shaperWrite false 4 .host 0) on (fun t => t.rg TMG_SP_SHAPE [4] = on.rg TMG_SP_SHAPE [4] ∧ t.rg SCB_EVT_TOTAL = 0) = true := by
  decide +kernel

/-- Queue 256 of the sub-port holds a frame in memory. -/
def txqS : State :=
  match ethS.storeFrame 0 (bcast.take 60) with
  | some (s, _) => { s with tmg := { s.tmg with qs := [(256, { frames := [⟨{ pail := 1, len := 60 }, 1000000000, 0, 0⟩] })] } }
  | none => on

theorem test_frameTxStart :
    (txqS.topClass 4 8 = some (txqS.qClass 256) ∧ (txqS.chooseQueue 4 (txqS.qClass 256)).isSome = true) ∧
    ran (.frameTxStart 1 0) txqS (fun t => ((t.txOf 1 0).map fun x => (x.queue, x.bytes)) = some (256, bcast) ∧ (t.tq 256).frames = []) = true := by
  decide +kernel

theorem test_frameTxEnd :
    ran (.frameTxEnd 1 0) txS (fun t => t.txOf 1 0 = none ∧ SMap.find (t.port 1).wire 0 = some ([1, 2, 3] : Bytes) ∧
      t.rg ETH_TX_FRAMES [1, 0] = 1) = true := by decide +kernel

/-! ## The telemetry radio -/

/-- TLM runs, and profile 2 alone is searched. -/
def tlmS : State := ((on.fs TLM_CTL TLM_CTL_ENABLE 1).fs TLM_PROF TLM_PROF_EN 1 [2]).fs TLM_PROF TLM_PROF_EN 0 [0]

theorem test_tlmEnable :
    (Writes (on.fs TLM_SF TLM_SF_ENABLE 1 [7]) TLM_CTL [] .host ∧
      (on.fs TLM_SF TLM_SF_ENABLE 1 [7]).profsOk (on.fg TLM_TIQ TLM_TIQ_RATE) = true) ∧
    ran (.tlmEnable .host 0x4C60) (on.fs TLM_SF TLM_SF_ENABLE 1 [7]) (fun t =>
      t.flag TLM_CTL TLM_CTL_ENABLE = true ∧ t.tlm.rxSt = []) = true ∧
    ran (.tlmEnable .host 0x4C60) on (fun t => t.flag TLM_CTL TLM_CTL_ENABLE = false) = true := by
  unfold Writes Live; decide +kernel

theorem test_tlmDisable :
    (Writes tlmS TLM_CTL [] .host ∧ tlmS.flag TLM_CTL TLM_CTL_ENABLE = true) ∧
    ran (.tlmDisable .host 0x1860) { tlmS with tlm := { await := [⟨1, true, 0, 2000000000, none, [], 0, 0⟩] } } (fun t =>
      t.flag TLM_CTL TLM_CTL_ENABLE = false ∧ t.tlm.await = []) = true := by
  unfold Writes Live; decide +kernel

/-- The ASN at this instant. -/
def tlmAsn : Nat := 1000000000 / tlmS.tsLen

theorem test_tlmSlotStart_idle :
    tlmS.asnNow = some tlmAsn ∧ ran (.tlmSlotStart true) tlmS (fun t =>
      t.tlm = { tlmS.tlm with served := tlmAsn + 1, slot := none } ∧ t.fg TLM_ASN TLM_ASN_ASN = tlmAsn ∧
      t.rg TLM_SLOT_SKIPPED = BitVec.ofNat 64 tlmAsn) = true := by decide +kernel

/-- Slotframe 0 of one cell: an RX cell open to any neighbour. -/
def tlmRxCell : State :=
  ((tlmS.fs TLM_SF TLM_SF_ENABLE 1 [0]).fs TLM_SF TLM_SF_LEN 1 [0]).writeLe
    (tlmS.fg TLM_CELL_BASE TLM_CELL_BASE_ADDR * 524288) 8 (2 + 4096 * 65536)

theorem test_tlmSlotStart_rx :
    inBand (tlmRxCell.slotFreq tlmAsn 0) = true ∧ ran (.tlmSlotStart true) tlmRxCell (fun t =>
      (t.tlm.slot.map TlmSlot.opens) = some (tlmAsn * tlmS.tsLen + (tlmS.fg TLM_SLOT TLM_SLOT_TX_OFFSET * 1000 -
        tlmS.fg TLM_SLOT TLM_SLOT_RX_WAIT * 500))) = true := by decide +kernel

/-- A valid neighbour 5, and a frame for it of 20 bytes in transmit entry 3. -/
def tlmNb : State :=
  let s := tlmS.fs TLM_NBR1 TLM_NBR1_VALID 1 [5]
  s.writeLe (s.txEntry 3) 8 (5 * 65536 + 20 * 2 ^ 32 + 1 * 2 ^ 48)

theorem test_tlmTxpost :
    (Writes tlmNb TLM_TXPOST [] .host ∧ tlmNb.txOk (tlmNb.bytes (tlmNb.txEntry 3) 64) = true) ∧
    ran (.tlmTxpost .host 3) tlmNb (fun t => t.tlm.tx.map (fun e => (e.entry, e.nbr, e.hdr.length, e.tries)) = [(3, 5, 32, 0)]) = true := by
  unfold Writes Live; decide +kernel

/-- The same frame posted, sent `n` times, in a shared cell; its acknowledgement is awaited up to now. -/
def tlmSent (n : Nat) : State :=
  { tlmNb with tlm := {
      tx := [{ entry := 3, nbr := 5, hdr := tlmNb.bytes (tlmNb.txEntry 3) 32, tries := n }]
      await := [⟨3, true, 999999000, 1000000000, none, [], 0, 0⟩] } }

theorem test_tlmAckReceive :
    (let f : Bytes := [2, 0x20, 0]
     ran (.tlmAckReceive (f ++ leBytes 2 (fcs16 f)) 999999500 0) (tlmSent 1) (fun t => t.tlm.tx = [] ∧ t.byte (tlmNb.txEntry 3) = 1 ∧
       t.drk.raised.map Ev.typ = [5] ∧ t.tlm.await = []) = true ∧
     ran (.tlmAckReceive (f ++ [0, 0]) 999999500 0) (tlmSent 1) (fun t => t.tlm.tx.length = 1 ∧ t.rg TLM_RX_FCS_BAD = 1) = true ∧
     ran (.tlmAckReceive (f ++ leBytes 2 (fcs16 f)) 999998999 0) (tlmSent 1) (fun t => t.tlm.tx.length = 1) = true) := by decide +kernel

theorem test_tlmAckWaitExpire :
    ran (.tlmAckWaitExpire 7) (tlmSent 1) (fun t => t.tlm.tx.length = 1 ∧ SMap.find t.tlm.backoff 5 = some (1, 1)) = true ∧
    ran (.tlmAckWaitExpire 7) (tlmSent 4) (fun t => t.tlm.tx = [] ∧ t.byte (tlmNb.txEntry 3) = 3 ∧ t.rg TLM_TX_NO_ACK = 1) = true := by
  decide +kernel

theorem test_tlmEntryExpire :
    (let s (n : Nat) : State := { tlmNb with tlm := { tx := [{ entry := 3, nbr := 5, hdr := List.replicate 24 0 ++ leBytes 8 n }] } }
     ran (.tlmEntryExpire 3) (s 999999999) (fun t => t.tlm.tx = [] ∧ t.byte (tlmNb.txEntry 3) = 4) = true ∧
     ran (.tlmEntryExpire 3) (s 1000000000) (fun t => t = s 1000000000) = true) := by decide +kernel

theorem test_neighbourInvalidate :
    (Writes (tlmSent 0) TLM_NBR1 [5] .host ∧ (tlmSent 0).nbValid 5 = true) ∧
    ran (.neighbourInvalidate 5 .host 0) (tlmSent 0) (fun t => t.nbValid 5 = false ∧ t.tlm.tx = [] ∧ t.byte (tlmNb.txEntry 3) = 7) = true := by
  unfold Writes Live; decide +kernel

theorem test_neighbourValidate :
    (Writes tlmS TLM_NBR1 [4095] .host ∧ tlmS.nbValid 4095 = false) ∧
    ran (.neighbourValidate 4095 .host 0x1230042) tlmS (fun t => t.nbValid 4095 = true ∧ t.nbState 4095 = 0 ∧
      t.fg TLM_NBR1 TLM_NBR1_SHORT [4095] = 0x42 ∧ t.fg TLM_NBR1 TLM_NBR1_KEY [4095] = 0x123) = true ∧
    ran (.neighbourValidate 5 .host 0x42) tlmNb (fun t => t.rg TLM_NBR1 [5] = tlmNb.rg TLM_NBR1 [5] ∧
      t.rg SCB_EVT_TOTAL = 0) = true := by
  unfold Writes Live; decide +kernel

theorem test_refind :
    ran (.refind 5) ((tlmNb.fs TLM_NBR1 TLM_NBR1_STATE 1 [5]).fs TLM_ASN TLM_ASN_ASN 100000) (fun t =>
      t.nbState 5 = 2 ∧ t.rg TLM_REFIND = 1 ∧ t.drk.raised.map (fun y => y.record.take 2) = [[3, 0]]) = true := by decide +kernel

/-- A slot whose window is open now. -/
def slot2 : TlmSlot := ⟨1, 2, 999999000, 1000001000, 0, false⟩

/-- The window is open. -/
def tlmOpen (r : Option TlmRx) : State := { tlmS with tlm := { slot := some slot2, rx := r } }

/-- Soft values of bits. -/
def soft (b : List Bool) : List Int := b.map fun x => if x then 3 else -3

theorem test_tlmPreambleDetect :
    (tlmOpen none).searched [7, 7, 12, 12] = [2] ∧
    ran (.tlmPreambleDetect [0, 0, 12] 90) (tlmOpen none) (fun t =>
      t.tlm.rx = some { st := 1, prof := 2, level := 90, at_ := 1000000000, slot := slot2 } ∧ t.rg TLM_RX_DETECT = 1) = true := by decide +kernel

theorem test_rxRearm :
    ran (.rxRearm [0, 0, 12] 90) (tlmOpen (some { st := 2, prof := 1, level := 84, at_ := 999990000, slot := slot2 })) (fun t =>
      t.tlm.rx = some { st := 1, prof := 2, level := 90, at_ := 1000000000, slot := slot2 } ∧ t.rg TLM_RX_REARM = 1) = true := by decide +kernel

theorem test_sfdTimeout :
    ran .sfdTimeout (tlmOpen (some { st := 1, prof := 2, level := 84, at_ := 5, slot := slot2 })) (fun t =>
      t.tlm.rx = none ∧ t.rg TLM_SFD_MISS = 1) = true ∧
    ran .sfdTimeout (tlmOpen (some { st := 1, prof := 2, level := 84, at_ := 999990000, slot := slot2 })) (fun t =>
      t.tlm.rx.isSome = true) = true := by decide +kernel

theorem test_sfdFound :
    let r : TlmRx := { st := 1, prof := 2, level := 84, at_ := 999990000, slot := slot2 }
    let s := (tlmOpen (some r)).fs TLM_PROF TLM_PROF_FEC 1 [2]
    tlmS.fg TLM_PROF TLM_PROF_FEC [2] = 0 ∧
    ran (.sfdFound 0x904E) (tlmOpen (some r)) (fun t => t.tlm.rx =
      some { r with st := 2, start := 1000000000 - tlmS.profNs 2 (8 * tlmS.fg TLM_PROF TLM_PROF_PRE_LEN [2] + 16) }) = true ∧
    ran (.sfdFound 0x6F4E) s (fun t => (t.tlm.rx.map fun r => (r.st, r.coded)) = some (2, true)) = true ∧
    (sfdDist 0x630E 0x7A0E = 3 ∧ sfdDist 0x630E 0x632D = 3) ∧
    ran (.sfdFound 0x630E) ((s.fs TLM_CTL TLM_CTL_SFD_ERR 3).fs TLM_PROF TLM_PROF_SFD_SEL 1 [2]) (fun t => t.tlm.rx = none ∧ t.rg TLM_SFD_AMBIG = 1) = true := by decide +kernel

/-- The trellis decoder takes back what either code sends, interleaved too, with a code bit received wrong (R232). -/
theorem test_trellis :
    let b := octetBits [0xA5, 0x3C]
    let hit (l : List Int) : List Int := (l.drop 5).foldl (fun a v => a ++ [v]) (l.take 4 ++ [- (l.getD 4 0)])
    ∀ rsc ilv, decodePart true rsc ilv (hit (soft (encodePart true rsc ilv b))) = (b, true) := by decide +kernel

/-- Every receive entry holds a delivered frame. -/
def tlmFull : State :=
  let s := tlmOpen (some { st := 2, prof := 2, level := 84, at_ := 999990000, slot := slot2 })
  { s with tlm := { s.tlm with rxSt := (List.range 512).map fun k => (k, 2) } }

theorem test_phrCheck :
    let r : TlmRx := { st := 2, prof := 2, level := 84, at_ := 999990000, slot := slot2 }
    ran (.phrCheck (soft (phrBits 6 true))) (tlmOpen (some r)) (fun t =>
      t.tlm.rx = some { r with st := 3, len := 6, fcs := 4 } ∧ t.tlm.rxSt = [(0, 1)]) = true ∧
    ran (.phrCheck (soft (true :: (phrBits 6 true).drop 1))) (tlmOpen (some r)) (fun t =>
      t.tlm.rx = none ∧ t.rg TLM_RX_PHR_FAIL = 1) = true ∧
    ran (.phrCheck (soft (phrBits 4 false))) (tlmOpen (some r)) (fun t => t.tlm.rx = none ∧ t.rg TLM_RX_PHR_FAIL = 1) = true ∧
    ran (.phrCheck (soft (phrBits 6 false))) tlmFull (fun t => t.tlm.rx = none ∧ t.rg TLM_RX_NOBUF = 1) = true := by decide +kernel

/-- A broadcast frame of an unknown sender: no security, no acknowledgement asked, a destination PAN and address, 3 bytes. -/
def tlmFrame : Bytes := [0x01, 0x08, 0x77, 0xFF, 0xFF, 0xFF, 0xFF, 1, 2, 3]

theorem test_tlmFrameReceive :
    (tlmS.tlmForUs (macAddr tlmFrame) = true ∧ tlmS.tlmSource (macAddr tlmFrame) = none) ∧
    ran (.tlmFrameReceive (soft (octetBits (tlmFrame ++ leBytes 2 (fcs16 tlmFrame)))) 80)
      (tlmOpen (some { st := 3, prof := 2, level := 84, at_ := 999990000, slot := slot2, entry := 9, len := 12 })) (fun t =>
        t.tlm.rxSt = [(9, 2)] ∧ t.tlm.pend = [] ∧ t.bytes (tlmS.rxEntry 9 + 64) 10 = tlmFrame ∧ t.bytes (tlmS.rxEntry 9) 2 = [10, 0] ∧
        t.drk.raised.map (fun y => y.record.take 6) = [[1, 0, 9, 0, 0xFF, 0xFF]]) = true ∧
    ran (.tlmFrameReceive (soft (octetBits (tlmFrame ++ [0, 0]))) 80)
      (tlmOpen (some { st := 3, prof := 2, level := 84, at_ := 999990000, slot := slot2, entry := 9, len := 12 })) (fun t =>
        t.tlm.rx = none ∧ t.rg TLM_RX_FCS_BAD = 1) = true := by decide +kernel

/-- A received frame whose acknowledgement is due at an instant. -/
def tlmAckDue (due : Nat) : State :=
  let p : TlmPend := { entry := 1, nbr := 5, slot := slot2, off := 0, start := 0, rssi := 0, prof := 2, coded := false,
                       outside := false, secured := false, verdict := 1, ackAsked := true, due }
  { tlmS with tlm := { pend := [p] } }

theorem test_enhancedAckRelease :
    ran (.enhancedAckRelease true) (tlmAckDue 1000000000) (fun t =>
        t.rg TLM_TX_FRAMES = 1 ∧ t.tlm.air.map TlmBurst.at_ = [1000000000]) = true ∧
    ran (.enhancedAckRelease true) (tlmAckDue 999999998) (fun t => t.rg TLM_LATE_RESP = 1 ∧ t.tlm.air = []) = true ∧
    ran (.enhancedAckRelease false) (tlmAckDue 1000000000) (fun t => t.rg TLM_LATE_RESP = 1) = true := by decide +kernel

theorem test_tlmRxfree :
    Writes tlmS TLM_RXFREE [] .host ∧
    ran (.tlmRxfree .host 9) { tlmS with tlm := { rxSt := [(9, 2)] } } (fun t => t.tlm.rxSt = []) = true ∧
    ran (.tlmRxfree .host 9) { tlmS with tlm := { rxSt := [(9, 1)] } } (fun t => t.tlm.rxSt = [(9, 1)] ∧ t.rg SCB_EVT_TOTAL = 1) = true := by
  unfold Writes Live; decide +kernel

/-! ## The link cipher and memory -/

/-- SHA-384 of "abc" (FIPS 180-4), and the CRC of "123456789". -/
theorem test_digests :
    (sha384 [0x61, 0x62, 0x63]).take 8 = [0xCB, 0x00, 0x75, 0x3F, 0x45, 0xA3, 0x5E, 0x8B] ∧
    crc32 [0x31, 0x32, 0x33, 0x34, 0x35, 0x36, 0x37, 0x38, 0x39] = 0xCBF43926 := by decide +kernel

/-- Key 9 is valid, with a limit of 100. -/
def kS : State := (on.fs CPH_KEY_LIMIT CPH_KEY_LIMIT_LIMIT 100 [9]).fs CPH_KEY_CTL CPH_KEY_CTL_VALID 1 [9]

theorem test_keyInstall :
    Writes on CPH_KEY_CTL [9] .host ∧ ran (.keyInstall 9 .host 1) (on.fs CPH_KEY_LIMIT CPH_KEY_LIMIT_LIMIT 100 [9]) (fun t =>
      t.flag CPH_KEY_CTL CPH_KEY_CTL_VALID [9] = true ∧ t.fg CPH_KEY_USED CPH_KEY_USED_USED [9] = 0 ∧ t.cph.expanding = [9] ∧
      t.flag CPH_KEY_CTL CPH_KEY_CTL_SPENT [9] = false) = true ∧
    ran (.keyInstall 9 .host 1) kS (fun t => t.rg CPH_KEY_CTL [9] = kS.rg CPH_KEY_CTL [9]) = true ∧
    ran (.keyInstall 9 .host 1) ((on.fs SEC_STRAPS SEC_STRAPS_FABID 1).fs BND_STATUS BND_STATUS_STATE 2) (fun t =>
      t.rg CPH_KEY_CTL [9] = on.rg CPH_KEY_CTL [9] ∧ t.rg BND_KEY_HALF_REJ = 1) = true := by
  unfold Writes Live; decide +kernel

theorem test_keyWithdraw :
    ran (.keyWithdraw 9 .host 0) (kS.wg CPH_KEY_MAT 5 [9, 3]) (fun t => t.flag CPH_KEY_CTL CPH_KEY_CTL_VALID [9] = false ∧
      t.rg CPH_KEY_MAT [9, 3] = 0) = true := by decide +kernel

theorem test_keyLimit :
    ran (.keyLimitWrite 9 .host 100) (kS.fs CPH_KEY_USED CPH_KEY_USED_USED 100 [9]) (fun t => t.flag CPH_KEY_CTL CPH_KEY_CTL_SPENT [9] = true) = true ∧
    ran (.keyExpansionDone 9) { kS with cph := { kS.cph with expanding := [8, 9] } } (fun t => t.cph.expanding = [8]) = true := by decide +kernel

/-- Operation 0 asks for one block with key 9. -/
def blkS (s : State) : State :=
  { s with drk := { s.drk with ops := [(0, { ctx := 5, slot := 0, kind := .cblk true 9 32 (List.replicate 16 0), frame := none, orphan := false, res := none })] } }

theorem test_cphAdmit :
    ran (.cphAdmit 0) (blkS kS) (fun t => t.fg CPH_KEY_USED CPH_KEY_USED_USED [9] = 1 ∧ t.cph.count = 1 ∧ t.cph.wait = [] ∧
      (t.cph.issue.map CBlk.op ++ t.cph.aes.map (fun e => e.2.op)) = [0]) = true ∧
    ran (.cphAdmit 0) (blkS on) (fun t => t.drk.ops.map (fun e => e.2.res) = [some (7, 0)] ∧ t.rg CPH_KEY_REFUSED = 1) = true ∧
    ran (.cphAdmit 0) { blkS kS with cph := { kS.cph with us := 1000000, count := 1600 } } (fun t => t.cph.wait = [0] ∧ t.rg CPH_DEFERRED = 1) = true := by
  decide +kernel

/-- The AES-128 of a block of zeros under a key of zeros begins 66 and ends 2E. -/
theorem test_aesDone :
    ran (.aesBlockDone 3) { blkS kS with cph := { kS.cph with aes := [(3, { op := 0, enc := true, key := 9, kb := List.replicate 16 0, block := List.replicate 16 0 })] } } (fun t =>
      t.drk.ops.map (fun e => e.2.res) = [some (0, 0)] ∧ SMap.get (t.core 1).locl 48 0 = 0x66 ∧ SMap.get (t.core 1).locl 63 0 = 0x2E) = true := by
  decide +kernel

theorem test_cphMicrosecond :
    ran .cphMicrosecond { blkS kS with cph := { kS.cph with wait := [0] } } (fun t => t.cph.us = 1000000 ∧ t.cph.wait = []) = true := by decide +kernel

theorem test_burst :
    ran .burstReturn { on.fs CPH_STATUS CPH_STATUS_BURST_HELD 1 with
      cph := { on.cph with us := 999900 }, pwr := { on.pwr with grants := [(0, { cls := 6, amount := 5, req := 5, index := 0 })] } } (fun t =>
      t.burstHeld = false ∧ t.pwr.grants = []) = true ∧
    ran .burstRetry { on with cph := { on.cph with retryAt := some 1000000000 } } (fun t => t.cph.retryAt = none ∧
      t.pwr.queue.map (fun q => (q.cls, q.req)) = [(6, 5)]) = true ∧
    ran .burstRetry { on.fs PWR_REF_BUDGET PWR_REF_BUDGET_BUDGET 100 with cph := { on.cph with retryAt := some 1000000000 } } (fun t =>
      t.cph.retryAt = some 1000100000 ∧ t.rg PWR_REF_REFUSED = 1) = true := by decide +kernel

/-- A transmit job in slot 0. -/
def jobS : State := { on with cph := { on.cph with slots := [(0, { job := 0, src := 0, tx := true })] } }

theorem test_jobDone :
    ran (.cipherJobDone .host 0) on (fun t => t.cph = on.cph ∧ t.rg CPH_DONE_STALE = 1) = true ∧
    (jobS.jobOf (CPH_DONE_JOB.of 0)).isSome = true ∧ ran (.cipherJobDone .host 0) jobS (fun t => t.jobOk 0 = true) = true := by decide +kernel

theorem test_rxTimeout :
    let p : TlmPend := { entry := 1, nbr := 5, slot := slot2, off := 0, start := 0, rssi := 0, prof := 2, coded := false, outside := false,
                         secured := true, job := some 0 }
    ran (.cipherRxTimeout 0) { on with
      cph := { on.cph with slots := [(0, { job := 0, src := 3, tx := false, till := some 1000000000 })] }, tlm := { pend := [p] } } (fun t =>
      t.tlm.pend = [] ∧ t.rg TLM_RX_MIC_FAIL = 1) = true := by decide +kernel

theorem test_pail :
    (Writes on MEM_PAIL_S1 [] .host ∧ on.pailsBusy = false) ∧ ran (.memPailWrite false 1 .host (on.rg MEM_PAIL_S1)) on (fun t =>
      t.freeS = t.pailsS ∧ t.rg MEM_PAIL_S1 = on.rg MEM_PAIL_S1) = true ∧
    ran (.memPailWrite false 1 .host 5) (skS 4) (fun t => t.rg MEM_PAIL_S1 = on.rg MEM_PAIL_S1 ∧ t.rg SCB_EVT_TOTAL = 1) = true ∧
    on.poolOk = true ∧ ((on.plain MEM_PAIL_D1 [] 0).plain MEM_PAIL_S1 [] 0).poolOk = false ∧
    ran (.memPailWrite true 0 .host 0x1BFFFFE00) on (fun t => t.rg MEM_PAIL_D0 = on.rg MEM_PAIL_D0 ∧ t.rg SCB_EVT_TOTAL = 1) = true := by
  unfold Writes Live; decide +kernel

theorem test_order :
    ran (.drcOrderWrite 0 .host 2) (on.writeLe 0x1000 8 0x77) (fun t => t.fg DRC_ORDER DRC_ORDER_ORDER [0] = 2 ∧
      t.byte (reorderKey 1792 (on.fg DRC_ORDER DRC_ORDER_ORDER [0]) 2 0x1000) = 0x77) = true := by decide +kernel

theorem test_retrain :
    ran (.retrainDue 3 40) on (fun t => SMap.get t.memst.dueAt 3 none = some 1000000000 ∧ t.pwr.queue.map (fun q => (q.cls, q.index)) = [(5, 3)]) = true ∧
    ran (.retrainBatchEnd 40) { on with memst := { on.memst with batch := some 3, batchAt := 999970000 } } (fun t =>
      t.memst.batch = none ∧ SMap.find t.memst.lastBatch 3 = some 1000000000) = true ∧
    ran (.retrainLate 3) { on with memst := { on.memst with dueAt := [(3, some 0)] } } (fun t => t.rg DRC_RT_LATE = 1 ∧
      SMap.get t.memst.lateSeen 3 false = true) = true := by decide +kernel

theorem test_scrub :
    ran (.scrubRead true) on (fun t => t.memst.scrubS = 1) = true ∧
    ran (.scrubRead true) { on with chk := [(0x4000000000 / 32, rsCheck (3 :: List.replicate 31 0))] } (fun t =>
      t.chk = [] ∧ t.byte 0x4000000000 = 3 ∧ t.rg MEM_SRAM_CE = 1) = true ∧
    ran (.scrubRead false) { on with chk := [(0, 0x01020304)] } (fun t => t.rg MEM_DRAM_UE = 1) = true := by decide +kernel

/-- A word of MEM_INJECT for symbol `pos` of the word at 0x1000. -/
def injW (pos : Nat) : Word :=
  let w := setFld (setFld 0 MEM_INJECT_ARM.hi MEM_INJECT_ARM.lo 1) MEM_INJECT_ADDR.hi MEM_INJECT_ADDR.lo 0x80
  setFld (setFld w MEM_INJECT_POS.hi MEM_INJECT_POS.lo pos) MEM_INJECT_VALUE.hi MEM_INJECT_VALUE.lo 1

theorem test_inject :
    ran (.memInjectArm .host (injW 35)) on (fun t => t.flag MEM_INJECT MEM_INJECT_ARM = true ∧ t.fg MEM_INJECT MEM_INJECT_POS = 35) = true ∧
    ran (.memInjectArm .host (injW 36)) on (fun t => t.flag MEM_INJECT MEM_INJECT_ARM = false ∧ t.rg SCB_EVT_TOTAL = 1) = true := by decide +kernel

/-! ## The fabric and the twin bond -/

/-- Link 2 stands so; links 0 to 5 and the device's own links are as after reset. -/
def lkS (x : FabLink) : State :=
  let s := on.fs FAB_CTL FAB_CTL_LINK_EN 0x3F
  { s with fab := { s.fab with links := [(2, x)] } }

/-- This device's FAB_CTL with every link enabled. -/
def fabCtl : Word := setFld (on.rg FAB_CTL) FAB_CTL_LINK_EN.hi FAB_CTL_LINK_EN.lo 0x3F

theorem test_fabCtl :
    Writes on FAB_CTL [] .host ∧ ran (.fabCtlWrite .host 0) on (fun t => t.rg FAB_CTL = on.rg FAB_CTL ∧ t.rg SCB_EVT_TOTAL = 1) = true ∧
    ran (.fabCtlWrite .host fabCtl) on (fun t => (t.flink 5).st = 1 ∧ t.fg FAB_CTL FAB_CTL_RESEND = 20) = true := by
  unfold Writes Live; decide +kernel

theorem test_linkUp : ran (.fabLinkUp 2) (lkS { st := 1 }) (fun t => t.flink 2 = { st := 2, ackAt := 1000000000 }) = true := by decide +kernel

/-- Another device's DEVICE_ID. -/
def peerId : Bytes := List.replicate 16 7

theorem test_hello :
    ran (.helloReceive 2 5 3 peerId) (lkS { st := 2 }) (fun t => (t.flink 2).hello = true ∧ t.fg FAB_LINK_STATUS FAB_LINK_STATUS_PEER_ID [2] = 5) = true ∧
    ran (.helloReceive 2 5 3 peerId) { lkS { st := 2 } with sec := { on.sec with fuses := { deviceId := peerId } } } (fun t => (t.flink 2).st = 3) = true ∧
    ran (.helloReceive 6 1 0 peerId) { on with bnd := { port := { st := 2 } } } (fun t => (t.flink 6).hello = true) = true ∧
    ran (.helloReceive 6 2 0 peerId) { on with bnd := { port := { st := 2 } } } (fun t => (t.flink 6).st = 3) = true := by decide +kernel

theorem test_flitBlock :
    ran (.flitBlockReceive 2 40 7 true 3 4 0 none false 0) (lkS { st := 2, expect := 40, cred0 := 10, cred1 := 127 }) (fun t =>
      (t.flink 2).expect = 60 ∧ (t.flink 2).ack = 7 ∧ (t.flink 2).cred0 = 13 ∧ (t.flink 2).cred1 = 128 ∧ t.rg FAB_RETRY [2] = 1) = true ∧
    ran (.flitBlockReceive 2 40 7 false 3 4 0 (some 5) false 0) (lkS { st := 2, expect := 40 }) (fun t => (t.flink 2).expect = 45 ∧
      t.rg FAB_FLIT_UE [2] = 1) = true ∧
    ran (.flitBlockReceive 2 40 7 false 3 4 0 none true 0) (lkS { st := 2, expect := 40 }) (fun t => (t.flink 2).expect = 40 ∧
      t.rg FAB_FLIT_UE [2] = 1) = true ∧
    ran (.flitBlockReceive 2 40 7 true 3 4 0 none false 0) (lkS { st := 2, expect := 40, ack := 7, resends := 8 }) (fun t =>
      (t.flink 2).st = 1 ∧ t.rg FAB_LINK_FAIL [2] = 1) = true := by decide +kernel

theorem test_linkResend :
    ran (.linkResendTimeout 2) (lkS { st := 2, resends := 7, ackAt := 999998000 }) (fun t => (t.flink 2).resends = 8 ∧ t.rg FAB_RETRY [2] = 1) = true ∧
    ran (.linkResendTimeout 2) (lkS { st := 2, resends := 8, ackAt := 999998000 }) (fun t => (t.flink 2).st = 1 ∧ t.rg FAB_LINK_FAIL [2] = 1) = true := by
  decide +kernel

theorem test_flood :
    (lkS { st := 2, hello := true }).ownLinks ≠ [] ∧ ran .linkStateFlood (lkS { st := 2, hello := true }) (fun t =>
      t.fab.floodAt = 1000000000 ∧ t.fab.wire.length = 1) = true := by decide +kernel

theorem test_linkState :
    ran (.linkStateRecordReceive 5 [(2, 0)] 0x500 9 none false) on (fun t => (t.linkRec 5).links = [(2, 0)] ∧ (t.linkRec 5).floor = 0x500 ∧
      (t.linkRec 5).gen = 9 ∧ 9 ≤ t.fg FAB_HUDDLE FAB_HUDDLE_GEN) = true := by decide +kernel

/-- Device 5 is a member, reached by link 2, with an operation to it from engine operation 0. -/
def mbS (at_ : Nat) : State :=
  let s := (on.fs FAB_HUDDLE FAB_HUDDLE_MEMBERS 0x21).fs FAB_ROUTE FAB_ROUTE_LINK 2 [5]
  { s with
    fab := { s.fab with ops := [(5, [{ seq := 4, msg := .msg [1], tok := .op 0, at_, sent := at_ }])] },
    drk := { s.drk with ops := [(0, { ctx := 5, slot := 0, kind := .rmsg 5 [1], frame := none, orphan := false, res := none })] } }

theorem test_e2e :
    ran (.e2eResend 5) (mbS 999980000) (fun t => (t.opsTo 5).map FabOp.sent = [1000000000] ∧ t.rg FAB_E2E_RESEND = 1) = true ∧
    ran (.lostTimeout 5) (mbS 998000000) (fun t => t.opsTo 5 = [] ∧ t.rg FAB_UNREACH = 1 ∧ t.drk.ops.map (fun e => e.2.res) = [some (6, 0)]) = true ∧
    ran (.remoteCompletionReceive 5 4 0 [] false) (mbS 999980000) (fun t => t.opsTo 5 = [] ∧ t.drk.ops.map (fun e => e.2.res) = [some (0, 0)]) = true := by
  decide +kernel

/-- FAB_ATT for a device, with its record at the start of SRAM. -/
def fabAttW (d : Nat) : Word :=
  setFld (setFld 0 FAB_ATT_DEV.hi FAB_ATT_DEV.lo d) FAB_ATT_ADDR.hi FAB_ATT_ADDR.lo (0x1000 / 64)

theorem test_fabAtt :
    (fld (fabAttW 5) 5 4 = 0 ∧ fld (fabAttW 5) 63 40 = 0 ∧ FAB_ATT_ADDR.of (fabAttW 5) = 64) ∧
    ran (.fabAttWrite .host (fabAttW 6)) (mbS 0) (fun t => t.rg FAB_ATT_STATUS = 32) = true ∧
    ran (.fabAttWrite .host (fabAttW 5)) (mbS 0) (fun t => t.flag FAB_ATT_STATUS FAB_ATT_STATUS_BUSY = true ∧ t.fab.att = some (5, 0x1000) ∧
      (t.opsTo 5).length = 2) = true ∧
    ran (.fabAttWrite .host (fabAttW 5)) ((mbS 0).wg FAB_ATT_STATUS (setFld 0 FAB_ATT_STATUS_BUSY.hi FAB_ATT_STATUS_BUSY.lo 1)) (fun t =>
      t.fab.att = none ∧ t.rg SCB_EVT_TOTAL = 1) = true := by decide +kernel

theorem test_remoteOp :
    ran (.remoteOpExecute 5 0 (.other 99)) (mbS 0) (fun t => t.rg FAB_REFUSED_IN = 1 ∧ SMap.get t.fab.expect 5 0 = 1 ∧
      SMap.find t.fab.given (5 * 2 ^ 32) = some (5, 0)) = true ∧
    ran (.remoteOpExecute 5 0 (.store 0x1000 8 0x0102)) (mbS 0) (fun t => t.bytes 0x1000 8 = [2, 1, 0, 0, 0, 0, 0, 0] ∧
      SMap.find t.fab.given (5 * 2 ^ 32) = some (0, 0)) = true ∧
    ran (.remoteOpExecute 5 9 (.other 99)) (mbS 0) (fun t => t.rg FAB_E2E_DUP = 1 ∧ t.fab = (mbS 0).fab) = true ∧
    (let s := mbS 0
     ran (.remoteOpExecute 5 9 (.other 99)) { s with fab := { s.fab with given := [(5 * 2 ^ 32 + 9, (5, 7))] } } (fun t =>
       t.rg FAB_E2E_DUP = 1 ∧ t.fab.wire = [(flitHdr 0x80 0 5 5 9 0, [7])]) = true) := by decide +kernel

/-- A device program makes no attestation request (R75). -/
theorem test_attRefused :
    ran (.fabAttWrite (.ctx 3) (fabAttW 5)) (mbS 0) (fun t => t.fab = (mbS 0).fab ∧ t.rg SCB_EVT_TOTAL = 1) = true := by decide +kernel

theorem test_remoteMsg :
    ran (.remoteMsgEvent 5 (List.replicate 64 1)) (mbS 0) (fun t => t.rg DRK_DROP_NOENT = 1 ∧ SMap.find t.fab.given (5 * 2 ^ 32) = some (5, 0)) = true ∧
    ran (.remoteMsgFrame 5 64 0 7) ((mbS 0).fs FAB_INBOX FAB_INBOX_WIN_LOG2 10) (fun t =>
      (SMap.get t.skm.inputs 5 []).map (fun g => (g.len, g.source, g.arg)) = [(64, 4 * 4096 + 5, 7)]) = true := by decide +kernel

/-- The timebase follows parent 5, which is the leader, after `n` good exchanges. -/
def servoS (n : Nat) : State :=
  let s := ((mbS 0).fs TMB_CTRL TMB_CTRL_FAB_ALIGN 1).fs FAB_HUDDLE FAB_HUDDLE_LEADER 5
  { s with fab := { s.fab with parent := some 5, stepped := true, lockRun := n } }

theorem test_time :
    (servoS 7).fabSteers = true ∧ ran .timeExchange (servoS 7) (fun t => t.fab.wire = [(flitHdr 8 0 5 0 0 0, [1000000000])]) = true ∧
    ran (.timePairReceive 100 100 200 200) (servoS 7) (fun t => t.flag TMB_STATUS TMB_STATUS_FAB_LOCK = true) = true ∧
    ran (.timePairReceive 100 132 200 200) (servoS 7) (fun t => t.flag TMB_STATUS TMB_STATUS_FAB_LOCK = false ∧ t.fab.lockRun = 0) = true := by
  decide +kernel

/-- The bond is up, in a state. -/
def bdS (st : Nat) (b : Bnd) : State :=
  let s := (on.fs BND_STATUS BND_STATUS_STATE st).fs BND_CTL BND_CTL_EN 1
  { s with bnd := { b with port := { st := 2, hello := true } } }

theorem test_heartbeat :
    (bdS 2 {}).bondUp = true ∧ ran .bondHeartbeat (bdS 2 {}) (fun t => t.bnd.hbSent = 1000000000) = true ∧
    ran .bondHeartbeatReceive (bdS 2 { misses := 3 }) (fun t => t.bnd.hbSeen = 1000000000 ∧ t.bnd.misses = 0) = true := by decide +kernel

theorem test_heartbeatMiss :
    (bdS bndAttached {}).expectsBeat = true ∧
    ran .heartbeatMiss (bdS bndAttached { hbEdge := 999950000, hbSeen := 999960000 }) (fun t => t.bnd.hbEdge = 1000000000 ∧ t.bnd.misses = 0) = true ∧
    ran .heartbeatMiss (bdS bndAttached { hbEdge := 999950000, hbSeen := 999950000, misses := 6 }) (fun t => t.bnd.misses = 7 ∧ t.rg BND_HB_MISS = 1) = true ∧
    ran .heartbeatMiss (bdS bndCatchup { hbEdge := 999950000, misses := 7 }) (fun t => t.bndState = bndDetached ∧
      t.flag BND_STATUS BND_STATUS_LOSS_SEEN = true) = true := by decide +kernel

/-- The deciding miss while ATTACHED, with takeover enabled. -/
def missS : State := (bdS bndAttached { hbEdge := 999950000, misses := 7 }).fs BND_CTL BND_CTL_TKO_EN 1

theorem test_takeover :
    (missS.quorum = true ∧ missS.twinVisible = false) ∧ ran .heartbeatMiss missS (fun t => t.bndState = bndDetached ∧
      t.flag BND_STATUS BND_STATUS_TAKEN = true ∧ t.rg BND_TKO = 1000000000 ∧ t.rg BND_TAKEOVERS = 1) = true ∧
    ran .heartbeatMiss { missS with fab := { missS.fab with recs := [(1, { at_ := 999999000 })] } } (fun t => t.bndState = bndSplit ∧
      t.rg BND_SPLITS = 1) = true ∧
    ran .heartbeatMiss { missS with bnd := { missS.bnd with third := true } } (fun t => t.bndState = bndFenced) = true ∧
    ran .heartbeatMiss (missS.fs BND_CTL BND_CTL_TKO_EN 0) (fun t => t.bndState = bndDetached ∧
      t.flag BND_STATUS BND_STATUS_TAKEN = false) = true := by decide +kernel

theorem test_leaseReport :
    ran (.takeoverLeaseReport 5 []) { missS.fs BND_STATUS BND_STATUS_TAKEN 1 with bnd := { missS.bnd with owing := [4, 5] } } (fun t =>
      t.bnd.owing = [4]) = true ∧
    ran .takeoverGrantResume { missS with bnd := { missS.bnd with owing := [4], resumeAt := some 1000000000 } } (fun t =>
      t.bnd.owing = [] ∧ t.bnd.resumeAt = none) = true := by decide +kernel

theorem test_mirror :
    ran (.mirrorWriteReceive (.word 3 31 77)) (bdS bndAttached {}) (fun t => t.rg BND_MCTX [3, 31] = 77) = true ∧
    ran (.mirrorWriteReceive (.lease grantL)) (bdS bndAttached {}) (fun t => t.bnd.mLeases = [grantL]) = true ∧
    ran (.mirrorWriteReceive (.keyOff 9)) ((bdS bndCatchup {}).fs CPH_KEY_CTL CPH_KEY_CTL_VALID 1 [9]) (fun t =>
      t.flag CPH_KEY_CTL CPH_KEY_CTL_VALID [9] = false) = true ∧
    ran (.mirrorWriteReceive (.used 9 55)) (bdS bndAttached {}) (fun t => t.fg CPH_KEY_USED CPH_KEY_USED_USED [9] = 55) = true := by decide +kernel

theorem test_mirrorAck :
    ran (.mirrorAckReceive 4) (bdS bndAttached { out := [(4, .keyOff 1), (5, .keyOff 2)], held := [(4, 0, fr)] }) (fun t =>
      t.bnd.out.map Prod.fst = [5] ∧ t.bnd.held = [] ∧ SMap.get t.skm.inputs 3 [] = [fr]) = true := by decide +kernel

theorem test_bndCtl :
    Writes on BND_CTL [] .host ∧ ran (.bndEnable .host 1) on (fun t => t.flag BND_CTL BND_CTL_EN = true ∧ (t.flink 6).st = 1) = true ∧
    ran (.bndDisable .host 0) (bdS bndAttached {}) (fun t => t.flag BND_STATUS BND_STATUS_REJ = true ∧ t.flag BND_CTL BND_CTL_EN = true) = true ∧
    ran (.bndDisable .host 0) (bdS bndCatchup {}) (fun t => t.flag BND_CTL BND_CTL_EN = false ∧ t.bndState = bndDetached ∧ (t.flink 6).st = 0) = true := by
  unfold Writes Live; decide +kernel

theorem test_detach :
    ran (.detach .host 1) (bdS bndAttached {}) (fun t => t.bndState = bndDetaching ∧ t.bnd.detachAt = some 1001000000 ∧ t.bnd.leaving = true) = true ∧
    ran (.detach .host 1) (bdS bndCatchup {}) (fun t => t.flag BND_STATUS BND_STATUS_REJ = true) = true ∧
    ran (.detachAgreeReceive 1001000000) (bdS bndAttached {}) (fun t => t.bndState = bndDetaching ∧ t.bnd.leaving = false) = true ∧
    ran .detachComplete (bdS bndDetaching { detachAt := some 1000000000 }) (fun t => t.bndState = bndDetached ∧ t.bnd.detachAt = none) = true := by
  decide +kernel

theorem test_giveback :
    ran (.giveback .host 1) ((bdS bndAttached {}).fs BND_STATUS BND_STATUS_TAKEN 1) (fun t => t.bnd.giveAt = some 1001000000) = true ∧
    ran (.giveback .host 1) (bdS bndAttached {}) (fun t => t.flag BND_STATUS BND_STATUS_REJ = true ∧ t.bnd.giveAt = none) = true ∧
    ran (.givebackInstant true) (bdS bndAttached { giveAt := some 1000000000, taken := [3] } |>.fs BND_STATUS BND_STATUS_TAKEN 1) (fun t =>
      t.bnd.taken = [] ∧ t.flag BND_STATUS BND_STATUS_TAKEN = false) = true ∧
    ran (.givebackInstant false) (bdS bndAttached { giveAt := some 1000000000, taken := [3] }) (fun t =>
      t.bnd.taken = [3] ∧ t.flag BND_STATUS BND_STATUS_REJ = true) = true ∧
    ran (.givebackInstant true) (bdS bndDetached { giveAt := some 1000000000, taken := [3] }) (fun t =>
      t.bnd.taken = [3] ∧ t.flag BND_STATUS BND_STATUS_REJ = true) = true := by decide +kernel

theorem test_catchup :
    ran .catchupStart ((bdS bndDetached {}).fs CPH_KEY_CTL CPH_KEY_CTL_VALID 1 [2048]) (fun t => t.bndState = bndCatchup ∧
      t.bnd.hbEdge = 1000000000 ∧ t.flag CPH_KEY_CTL CPH_KEY_CTL_VALID [2048] = false) = true ∧
    ran .catchupDone (bdS bndCatchup { snapEnd := 4, out := [(4, .keyOff 1)] }) (fun t => t.bndState = bndAttached) = true := by decide +kernel

/-- The detach instant has come for a home station at index 1. -/
def detS : State :=
  (bdS bndDetaching { detachAt := some 1000000000, leaving := true }).wg WMAC_CTX 0x14001 [1, 0]

theorem test_detachInstant :
    detS.homeList = [1] ∧ ran .detachInstant detS (fun t => t.ctxRole 1 = 0 ∧ t.bnd.wire.length = 1) = true ∧
    ran .detachInstant (bdS bndDetaching { detachAt := some 1000000000 }) (fun t => t.flag BND_STATUS BND_STATUS_TAKEN = true ∧
      t.bnd.wire = []) = true := by decide +kernel

theorem test_detachState :
    ran (.detachStateArrive 0x4402 (0x14402 :: List.range 31) [] []) (bdS bndDetaching {}) (fun t => t.ctxRole 2 = 1 ∧ t.ctxHandle 2 = 0x4402 ∧
      t.cw 2 31 = 30 ∧ t.bnd.taken = [2] ∧ t.flag BND_STATUS BND_STATUS_TAKEN = true) = true := by decide +kernel

theorem test_bndAtt :
    ran (.bndAttWrite .host (setFld 0 BND_ATT_ADDR.hi BND_ATT_ADDR.lo 64)) (bdS bndCatchup {}) (fun t => t.rg BND_ATT_STATUS = 32) = true ∧
    ran (.bndAttWrite .host (setFld 0 BND_ATT_ADDR.hi BND_ATT_ADDR.lo 64)) (bdS bndAttached {}) (fun t => t.bnd.att = some 0x1000 ∧
      t.flag BND_ATT_STATUS BND_ATT_STATUS_BUSY = true) = true ∧
    ran (.bndAttWrite (.ctx 3) (setFld 0 BND_ATT_ADDR.hi BND_ATT_ADDR.lo 64)) (bdS bndAttached {}) (fun t =>
      t.bnd.att = none ∧ t.rg SCB_EVT_TOTAL = 1) = true ∧
    ran (.twinReportReceive 3 []) (bdS bndAttached { att := some 0x1000 }) (fun t => t.rg BND_ATT_STATUS = 3 ∧ t.bnd.att = none) = true ∧
    ran (.twinReportReceive 0 [8, 9]) (bdS bndAttached { att := some 0x1000 }) (fun t => t.bytes 0x1040 2 = [8, 9] ∧
      t.rg BND_ATT_STATUS = 0x20000) = true := by decide +kernel

/-! ## Reset, and memory's form -/

theorem test_reset :
    (∀ d ∈ Dom.all, State.reset.domOn d = decide (d = .aon ∨ d = .host)) ∧ State.reset.pending = [] ∧
    Memory.wf State.reset.mem = true ∧ State.reset.recording = false ∧ (State.reset.ctx 383).st = .unbound ∧
    State.reset.fg FAB_CTL FAB_CTL_RESEND = 20 ∧ State.reset.fg FAB_CTL FAB_CTL_LOST_TMO = 2000 ∧
    State.reset.fg TMG_CTL TMG_CTL_STRICT_HOST = 1 ∧ State.reset.fg DRC_ORDER DRC_ORDER_ORDER [3] = 1 ∧
    State.reset.fg TLM_CTL TLM_CTL_MAX_TX = 4 ∧ State.reset.fg CPH_BURST CPH_BURST_THRESH = 1600 ∧
    State.reset.fg BND_CFG BND_CFG_MISS = 8 ∧ State.reset.fg SKM_EPOCH SKM_EPOCH_CUR = 1 := by decide +kernel

theorem test_memoryForm :
    ran (.bar2Write 0x1000 1 0) (on.writeLe 0x1000 2 0x0107) (fun t => t.mem = [(0x1001, 1)]) = true ∧
    Memory.wf (on.writeLe 0x1000 2 0x0107).mem = true := by decide +kernel

end Sys2Proof.Tests
end

/-! # The system instructions (Table DRI-11): NOP, MFS, MTS, PRED, END and FENCE

A state in which an instruction's own effect begins is described once, as `Issued`; each clause then says what that effect
makes of such a state: it changes the context (`Issued.modCtx`), it retires, or it raises a fault that is taken. -/

namespace Sys2Proof.Machine

/-! ## What a state that differs only in one core shows -/

theorem OnlyCore.drk {s t : State} {n : Nat} (h : OnlyCore s t n) :
    t.drk = { s.drk with ctxs := t.drk.ctxs, cores := t.drk.cores } := by
  obtain ⟨-, -, hdrk, -⟩ := h
  exact hdrk

theorem OnlyCore.coreImage {s t : State} {n : Nat} (h : OnlyCore s t n) : t.coreImage n = s.coreImage n := by
  obtain ⟨-, -, hdrk, -, hcore, -⟩ := h
  rw [State.coreImage, hcore, State.image, hdrk]
  rfl

/-- The fabric's stores on their way are no part of a core. -/
theorem OnlyCore.storesBefore {s t : State} {n : Nat} (h : OnlyCore s t n) (c : Nat) :
    t.storesBefore c t.drk.nextOp = s.storesBefore c s.drk.nextOp := by
  rw [h.drk, h.1]
  rfl

theorem OnlyCore.rg {s t : State} {n : Nat} (h : OnlyCore s t n) (r : Reg) (i : List Nat)
    (hr : ∀ j, j < 8 → r.addr i ≠ PMC_CORE_CNT.addr [n, j]) : t.rg r i = s.rg r i := by
  obtain ⟨-, -, -, -, -, hcsr⟩ := h
  exact hcsr _ _ hr

theorem PMC_CORE_CNT_addr (n j : Nat) : PMC_CORE_CNT.addr [n, j] = 0x810040 + n * 0x100 + j * 0x8 := by
  simp [Reg.addr, PMC_CORE_CNT, dimOff, Nat.add_assoc]

theorem PMC_CORE_TICK_addr (n : Nat) : PMC_CORE_TICK.addr [n] = 0x810000 + n * 0x100 := by
  simp [Reg.addr, PMC_CORE_TICK, dimOff]

theorem OnlyCore.replaying {s t : State} {n : Nat} (h : OnlyCore s t n) : t.replaying = s.replaying := by
  have hne : ∀ j, j < 8 → SCB_STATUS.addr [] ≠ PMC_CORE_CNT.addr [n, j] := fun j _ => by
    rw [PMC_CORE_CNT_addr, show SCB_STATUS.addr [] = 0x700004 from rfl]
    omega
  rw [State.replaying, State.fg, h.rg _ _ hne]
  rfl

/-- A core's tick counter is none of its event counters. -/
theorem OnlyCore.tick {s t : State} {n : Nat} (h : OnlyCore s t n) : t.rg PMC_CORE_TICK [n] = s.rg PMC_CORE_TICK [n] := by
  refine h.rg _ _ fun j _ => ?_
  rw [PMC_CORE_CNT_addr, PMC_CORE_TICK_addr]
  omega

theorem Recorded.ctx {s t : State} (h : Recorded s t) (k : Nat) : t.ctx k = s.ctx k := by
  rw [h.1]
  rfl

/-! ## Where an instruction's own effect begins -/

/-- An instruction of context `c` has issued: its budget is spent, and nothing else has changed but the core's tag and its
event counters. -/
def Issued (s : State) (c : Nat) (u : State) : Prop :=
  OnlyCore s u (c / 4) ∧ u.ctx c = { s.ctx c with budget := (s.ctx c).budget - 1 } ∧ ∀ k, k ≠ c → u.ctx k = s.ctx k

/-- A ready instruction gives what its own effect makes of the state in which it has issued. -/
theorem gives_of_issued {i : Instr} {s : State} {c n flags : Nat} {p : Bool} {body : State → State} {P : State → Prop}
    (hr : Ready s c n) (hi : exec i s = .next (s.issueWith c n flags p body)) (hb : ∀ u, Issued s c u → P (body u)) :
    Gives i s P := by
  obtain ⟨u, hu, hu'⟩ := State.issueWith_ready s c n flags p body hr
  exact ⟨body u, hi.trans (congrArg _ hu), hb u hu'⟩

/-- An effect on the issuing context alone. -/
theorem Issued.modCtx {s u : State} {c : Nat} (h : Issued s c u) (f : Ctx → Ctx) :
    (u.modCtx c f).ctx c = f { s.ctx c with budget := (s.ctx c).budget - 1 } ∧
      (∀ k, k ≠ c → (u.modCtx c f).ctx k = s.ctx k) ∧ OnlyCore s (u.modCtx c f) (c / 4) := by
  obtain ⟨ho, hc, hk⟩ := h
  refine ⟨?_, fun k hne => ?_, ho.trans (OnlyCore.setCtx _ _ _ _)⟩
  · rw [State.modCtx, State.ctx_setCtx_same, hc]
  · rw [State.modCtx, State.ctx_setCtx_other _ _ _ _ hne, hk k hne]

/-- An instruction whose effect is to retire with `g` retires with `f`, where the two agree on the context as it issued. -/
theorem retires_of_issued {i : Instr} {s : State} {c flags : Nat} {p : Bool} {body : State → State} {f : Ctx → Ctx}
    (hr : Ready s c 1) (hi : exec i s = .next (s.issueWith c 1 flags p body))
    (hb : ∀ u, Issued s c u → ∃ g : Ctx → Ctx, body u = u.retire c g ∧
      g { s.ctx c with budget := (s.ctx c).budget - 1 } =
        { f (s.ctx c) with pc := (s.ctx c).pc, budget := (s.ctx c).budget - 1 }) :
    Retires i s c 1 f := by
  refine gives_of_issued hr hi fun u hu => ?_
  obtain ⟨g, hg, hgf⟩ := hb u hu
  obtain ⟨hc, hframe⟩ := hu.modCtx fun x => { g x with pc := (g x).pc + 1 }
  rw [hg]
  exact ⟨by rw [State.retire, hc, hgf], hframe⟩

/-- An instruction after which its context waits (R141, R142). -/
theorem waits_of_issued {i : Instr} {s : State} {c flags : Nat} {p : Bool} {body : State → State} {b : Blocked}
    (hr : Ready s c 1) (hi : exec i s = .next (s.issueWith c 1 flags p body))
    (hb : ∀ u, Issued s c u → body u = u.modCtx c fun x => { x with st := .waiting, blocked := b }) :
    Gives i s fun t =>
      t.ctx c = { s.ctx c with st := .waiting, blocked := b, budget := (s.ctx c).budget - 1 } ∧
      (∀ k, k ≠ c → t.ctx k = s.ctx k) ∧ OnlyCore s t (c / 4) :=
  gives_of_issued hr hi fun u hu => by
    rw [hb u hu]
    exact hu.modCtx _

/-! ## Faults -/

/-- A fault that is taken enters the image's fault entry, and what it counts and logs changes no context (R114, R115). -/
theorem State.fault_taken_ctx (s : State) (c code : Nat) (addr : Word) (h : TakesFaults s c) :
    (s.fault c code addr).ctx c = { s.ctx c with
      st := .running, pc := (s.coreImage (c / 4)).faultEntry, budget := (s.ctx c).budget + 64, faultCode := code,
      faultPc := (s.ctx c).pc, faultAddr := addr, inFault := true, blocked := .nothing, guardN := 0, guardSquash := false } ∧
    ∀ k, k ≠ c → (s.fault c code addr).ctx k = s.ctx k := by
  obtain ⟨hentry, hin, -⟩ := h
  have hnoted : ∀ (u : State) (f : TagRec → TagRec) (a b : Nat) (k : Nat),
      ((((u.logEv 6 0x05 a b).count c 0x04).tagUpd c f).ctx k = u.ctx k) := fun u f a b k => by
    rw [(State.tagUpd_spec _ _ _).2, (State.count_spec _ _ _).2, (Recorded.logEv _ _ _ _ _).ctx]
  unfold State.fault
  rw [if_pos (by simp [hentry, hin])]
  refine ⟨?_, fun k hne => ?_⟩
  · rw [State.ctx_setCtx_same, hnoted]
    rfl
  · rw [State.ctx_setCtx_other _ _ _ _ hne, hnoted]
    rfl

/-- A ready instruction whose effect is a fault takes it, where the image has an entry for it. -/
theorem faults_of_issued {i : Instr} {s : State} {c n flags code : Nat} {p : Bool} {addr : Word} {body : State → State}
    (hr : Ready s c n) (hf : TakesFaults s c) (hi : exec i s = .next (s.issueWith c n flags p body))
    (hb : ∀ u, Issued s c u → body u = u.fault c code addr) : Faults i s c code addr := by
  have hrun : (s.ctx c).st = .running := by
    obtain ⟨hcan, -⟩ := hr
    simp only [State.canIssue, Bool.and_eq_true, beq_iff_eq] at hcan
    obtain ⟨⟨⟨-, hst⟩, -⟩, -⟩ := hcan
    exact hst
  refine gives_of_issued hr hi fun u hu => ?_
  rw [hb u hu]
  obtain ⟨ho, hc, hk⟩ := hu
  obtain ⟨hfc, hfk⟩ := State.fault_taken_ctx u c code addr (by
    rw [TakesFaults, ho.coreImage, hc]
    exact hf)
  refine ⟨?_, fun k hne => (hfk k hne).trans (hk k hne)⟩
  rw [hfc, hc, ho.coreImage, ← hrun]

/-! ## Special registers (Table DRK-1) -/

/-- Writing a register and spending budget commute. -/
theorem Ctx.setReg_spent (x : Ctx) (d b : Nat) (v : Word) :
    ({ x with budget := b } : Ctx).setReg d v = { x.setReg d v with budget := b } := by
  unfold Ctx.setReg
  split <;> rfl

/-- A read of TICK outside a replay gives the core's counter, and what it records changes no context (R412). -/
theorem Issued.readTick {s u : State} {c : Nat} (h : Issued s c u) (hp : s.replaying = false) :
    ∃ m, u.readBy (.ctx c) (PMC_CORE_TICK.addr [c / 4]) (u.special c 9) = (m, s.rg PMC_CORE_TICK [c / 4]) ∧
      ∀ k, m.ctx k = u.ctx k := by
  obtain ⟨hrec, hval⟩ := Recorded.readBy u (.ctx c) (PMC_CORE_TICK.addr [c / 4]) (u.special c 9)
  have hv : u.special c 9 = s.rg PMC_CORE_TICK [c / 4] := by
    rw [← h.1.tick]
    rfl
  exact ⟨_, Prod.ext rfl ((hval (h.1.replaying.trans hp)).trans hv), hrec.ctx⟩

/-! ## One lemma for each instruction -/

theorem nop_retires {s : State} {c : Nat} (hr : Ready s c 1) : Retires (.nop c) s c 1 id :=
  retires_of_issued hr rfl fun _ _ => ⟨id, rfl, rfl⟩

/-- BUDGET reads one less than before the instruction, which has spent its own share when it reads. -/
theorem mfs_retires {s : State} {c : Nat} (d n : Nat) (hr : Ready s c 1) (hn : n < 32) (h9 : n ≠ 9) :
    Retires (.mfs c d n) s c 1 (fun x => x.setReg d
      (if n = 0 then BitVec.ofNat 64 c else if n = 1 then BitVec.ofNat 64 (c / 32)
       else if n = 2 then BitVec.ofNat 64 (s.coreImage (c / 4)).id else if n = 3 then BitVec.ofNat 64 x.event
       else if n = 4 then BitVec.ofNat 64 (x.budget - 1) else if n = 5 then BitVec.ofNat 64 x.epoch
       else if n = 6 then BitVec.ofNat 64 x.faultCode else if n = 7 then BitVec.ofNat 64 x.faultPc
       else if n = 8 then x.faultAddr else if 16 ≤ n ∧ n < 24 then SMap.get x.keep (n - 16) 0 else 0)) := by
  refine retires_of_issued hr rfl fun u hu => ⟨fun x => x.setReg d (u.special c n), ?_, ?_⟩
  · simp only [Nat.mod_eq_of_lt hn, if_neg h9]
  · obtain ⟨ho, hc, -⟩ := hu
    simp only [State.special, hc, ho.coreImage, if_neg h9, Ctx.setReg_spent, Ctx.setReg_pc]

theorem mfs_tick {s : State} {c : Nat} (d : Nat) (hr : Ready s c 1) (hp : s.replaying = false) :
    Gives (.mfs c d 9) s fun t =>
      t.ctx c = { (s.ctx c).setReg d (s.rg PMC_CORE_TICK [c / 4]) with
        pc := (s.ctx c).pc + 1, budget := (s.ctx c).budget - 1 } ∧ ∀ k, k ≠ c → t.ctx k = s.ctx k := by
  refine gives_of_issued hr rfl fun u hu => ?_
  obtain ⟨m, hm, hctx⟩ := hu.readTick hp
  obtain ⟨-, hc, hk⟩ := hu
  simp only [Nat.reduceMod, if_true, hm]
  obtain ⟨-, hrc, hrk⟩ := State.retire_spec m c fun x => x.setReg d (s.rg PMC_CORE_TICK [c / 4])
  refine ⟨?_, fun k hne => (hrk k hne).trans ((hctx k).trans (hk k hne))⟩
  simp only [hrc, hctx, hc, Ctx.setReg_spent, Ctx.setReg_pc]

theorem mts_keep_retires {s : State} {c : Nat} (n a : Nat) (hr : Ready s c 1) (h16 : 16 ≤ n) (h24 : n < 24) :
    Retires (.mts c n a) s c 1 (fun x => { x with keep := SMap.set x.keep (n - 16) (x.reg a) 0 }) := by
  have hn : n % 32 = n := Nat.mod_eq_of_lt (by omega)
  refine retires_of_issued hr rfl fun u _ => ⟨_, if_pos (by omega), ?_⟩
  simp only [hn]
  rfl

theorem mts_faults {s : State} {c : Nat} (n a : Nat) (hr : Ready s c 1) (hf : TakesFaults s c)
    (hn : n < 16 ∨ (24 ≤ n ∧ n < 32)) : Faults (.mts c n a) s c 0x1 0 :=
  faults_of_issued hr hf rfl fun _ _ => if_neg (by omega)

theorem pred_retires {s : State} {c : Nat} (p n : Nat) (neg : Bool) (hr : Ready s c 1) (h1 : 1 ≤ n) (h4 : n ≤ 4) :
    Retires (.pred c p neg n) s c 1 (fun x => { x with guardN := n, guardSquash := decide (x.pred p = neg) }) := by
  have hn : (n + 3) % 4 + 1 = n := by omega
  refine retires_of_issued hr rfl fun u _ => ⟨_, rfl, ?_⟩
  simp only [hn]
  rfl

theorem endEvent_waits {s : State} {c : Nat} (hr : Ready s c 1) :
    Gives (.endEvent c) s fun t =>
      t.ctx c = { s.ctx c with st := .waiting, blocked := .drain, budget := (s.ctx c).budget - 1 } ∧
      (∀ k, k ≠ c → t.ctx k = s.ctx k) ∧ OnlyCore s t (c / 4) :=
  waits_of_issued hr rfl fun _ _ => rfl

theorem fence_retires {s : State} {c : Nat} (hr : Ready s c 1) (hs : s.storesBefore c s.drk.nextOp = false) :
    Retires (.fence c) s c 1 id :=
  retires_of_issued hr rfl fun u hu => ⟨id, if_neg (by simp [hu.1.storesBefore, hs]), rfl⟩

theorem fence_waits {s : State} {c : Nat} (hr : Ready s c 1) (hs : s.storesBefore c s.drk.nextOp = true) :
    Gives (.fence c) s fun t =>
      t.ctx c = { s.ctx c with st := .waiting, blocked := .fence, budget := (s.ctx c).budget - 1 } ∧
      (∀ k, k ≠ c → t.ctx k = s.ctx k) ∧ OnlyCore s t (c / 4) :=
  waits_of_issued hr rfl fun _ hu => if_pos (hu.1.storesBefore _ |>.trans hs)

/-- Settles O9. Every clause is one instruction's lemma: what its effect makes of the state in which it has issued. -/
theorem systemInstructions : Obligations.SystemInstructions := by
  unfold Obligations.SystemInstructions
  constructor
  · intro s c d a n p neg hr
    exact ⟨nop_retires hr, mfs_retires d n hr, mfs_tick d hr, mts_keep_retires n a hr,
      fun hn hf => mts_faults n a hr hf hn, pred_retires p n neg hr⟩
  · intro s c hr
    exact ⟨endEvent_waits hr, fence_retires hr, fence_waits hr⟩

end Sys2Proof.Machine

/-! # The carry-less product, and the time (R152, R153, Table DRI-12)

An engine operation begins its effect once it has been counted, which leaves an issued instruction as it was
(`Issued.count`); so the rules for issued instructions serve the engine operations too. -/

namespace Sys2Proof.Machine

/-! ## Engine operations that end at once -/

/-- What an engine operation counts is its core's own. -/
theorem Issued.count {s u : State} {c : Nat} (h : Issued s c u) (ev : Nat) : Issued s c (u.count c ev) := by
  obtain ⟨ho, hc, hk⟩ := h
  obtain ⟨hcount, hctx⟩ := State.count_spec u c ev
  exact ⟨ho.trans hcount, (hctx c).trans hc, fun k hne => (hctx k).trans (hk k hne)⟩

theorem gives_of_engine {i : Instr} {s : State} {c : Nat} {body : State → State} {P : State → Prop}
    (hr : Ready s c 1) (hi : exec i s = .next (s.engine c body)) (hb : ∀ u, Issued s c u → P (body u)) : Gives i s P :=
  gives_of_issued hr hi fun _ hu => hb _ (hu.count 0x05)

/-- An engine operation that only writes a register retires so, where the value written does not depend on the budget. -/
theorem retires_of_engine_setReg {i : Instr} {s : State} {c d : Nat} {v : Ctx → Word} (hr : Ready s c 1)
    (hi : exec i s = .next (s.engine c fun u => u.retire c fun x => x.setReg d (v x)))
    (hv : ∀ (x : Ctx) (b : Nat), v { x with budget := b } = v x) : Retires i s c 1 (fun x => x.setReg d (v x)) := by
  refine gives_of_engine hr hi fun u hu => ?_
  obtain ⟨hc, hframe⟩ := hu.modCtx fun x => { x.setReg d (v x) with pc := (x.setReg d (v x)).pc + 1 }
  refine ⟨?_, hframe⟩
  rw [State.retire, hc, hv, Ctx.setReg_spent, Ctx.setReg_pc]

/-! ## The bits of the carry-less product -/

/-- Bit `j` of the product is the parity of the pairs of bits, one of each factor, whose places add up to `j`. -/
theorem clProd_testBit (a b : Word) (n j : Nat) :
    (clProd a b n).testBit j =
      (List.range n).foldl (fun z k => xor z (b.getLsbD k && decide (k ≤ j) && a.getLsbD (j - k))) false := by
  induction n with
  | zero => simp [clProd]
  | succ n ih =>
    have hterm : (if b.getLsbD n then a.toNat * 2 ^ n else 0).testBit j =
        (b.getLsbD n && decide (n ≤ j) && a.getLsbD (j - n)) := by
      cases b.getLsbD n with
      | false => simp
      | true => simp [Nat.testBit_mul_two_pow, BitVec.testBit_toNat]
    rw [clProd, Nat.testBit_xor, ih, hterm, List.range_succ, List.foldl_append]
    rfl

theorem clLow_getLsbD (u v : Word) {j : Nat} (hj : j < 64) :
    (clLow u v).getLsbD j =
      (List.range 64).foldl (fun z k => xor z (v.getLsbD k && decide (k ≤ j) && u.getLsbD (j - k))) false := by
  rw [clLow, BitVec.getLsbD_ofNat, decide_eq_true hj, Bool.true_and, clProd_testBit]

/-- In the upper half every bit of the second factor has a partner, which is 0 above bit 63 of the first. -/
theorem clHigh_getLsbD (u v : Word) {j : Nat} (hj : j < 64) :
    (clHigh u v).getLsbD j =
      (List.range 64).foldl (fun z k => xor z (v.getLsbD k && u.getLsbD (j + 64 - k))) false := by
  rw [clHigh, BitVec.getLsbD_ofNat, decide_eq_true hj, Bool.true_and, Nat.testBit_div_two_pow, clProd_testBit]
  refine List.foldl_rel (r := Eq) rfl fun k hk z z' hz => ?_
  have hle : k ≤ j + 64 := by
    have hlt : k < 64 := List.mem_range.mp hk
    omega
  rw [hz, decide_eq_true hle, Bool.and_true]

/-! ## One lemma for each instruction -/

theorem clmul_retires {s : State} {c : Nat} (d a b : Nat) (hr : Ready s c 1) :
    Retires (.clmul c d a b) s c 1 (fun x => x.setReg d (clLow (x.reg a) (x.reg b))) :=
  retires_of_engine_setReg hr rfl fun _ _ => rfl

theorem clmulh_retires {s : State} {c : Nat} (d a b : Nat) (hr : Ready s c 1) :
    Retires (.clmulh c d a b) s c 1 (fun x => x.setReg d (clHigh (x.reg a) (x.reg b))) :=
  retires_of_engine_setReg hr rfl fun _ _ => rfl

theorem timefrac_retires {s : State} {c : Nat} (d : Nat) (hr : Ready s c 1) :
    Retires (.timefrac c d) s c 1 (fun x => x.setReg d (BitVec.ofNat 64 x.frac)) :=
  retires_of_engine_setReg hr rfl fun _ _ => rfl

/-! ## A read of the timebase -/

/-- Writing a register, spending budget and latching the fraction commute. -/
theorem Ctx.setReg_latched (x : Ctx) (d b n : Nat) (v : Word) :
    ({ x with budget := b, frac := n } : Ctx).setReg d v = { x.setReg d v with budget := b, frac := n } := by
  unfold Ctx.setReg
  split <;> rfl

/-- The timebase is none of a core's state. -/
theorem OnlyCore.tmb {s t : State} {n : Nat} (h : OnlyCore s t n) : t.tmb = s.tmb := by
  rw [h.1]

theorem Recorded.tmb {s t : State} (h : Recorded s t) : t.tmb = s.tmb := by
  rw [h.1]

/-- Outside a replay, a read gives what is read, whatever is recorded of it (R412). -/
theorem State.readBy_eq (s : State) (who : Init) (off : Nat) (v : Word) (hp : s.replaying = false) :
    ∃ m, Recorded s m ∧ s.readBy who off v = (m, v) := by
  obtain ⟨hrec, hval⟩ := Recorded.readBy s who off v
  exact ⟨_, hrec, Prod.ext rfl (hval hp)⟩

/-- Outside a replay the timebase itself is read into the register, and the context goes on. -/
theorem State.readTime_ctx (s : State) (c d : Nat) (hp : s.replaying = false) :
    (s.readTime c d).ctx c = { (s.ctx c).setReg d s.tmb.ns with
      pc := (s.ctx c).pc + 1, st := .running, blocked := .nothing } ∧
    ∀ k, k ≠ c → (s.readTime c d).ctx k = s.ctx k := by
  obtain ⟨m, hrec, hread⟩ := s.readBy_eq (.ctx c) 0x300000 s.tmb.ns hp
  obtain ⟨-, hc, hk⟩ := State.retire_spec m c fun x => { x.setReg d s.tmb.ns with st := .running, blocked := .nothing }
  simp only [State.readTime, hread]
  refine ⟨hc.trans ?_, fun k hne => (hk k hne).trans (hrec.ctx k)⟩
  simp only [hrec.ctx, Ctx.setReg_pc]

/-- The state in which TIME reads the timebase: the crossing to it is recorded, and the fraction latched for the context. -/
def State.latchedTime (u : State) (c : Nat) : State := (u.cross 38 0).modCtx c fun x => { x with frac := u.nowFrac }

theorem exec_time (s : State) (c d : Nat) :
    exec (.time c d) s = .next (s.engine c fun u => (u.latchedTime c).readTime c d) := rfl

theorem State.latchedTime_replaying {u : State} (c : Nat) (hp : u.replaying = false) :
    (u.latchedTime c).replaying = false := by
  obtain ⟨-, -, hrep, -⟩ := Recorded.cross u 38 0
  exact (hrep hp).1

theorem State.latchedTime_tmb (u : State) (c : Nat) : (u.latchedTime c).tmb = u.tmb := (Recorded.cross u 38 0).tmb

theorem State.latchedTime_ctx_same (u : State) (c : Nat) :
    (u.latchedTime c).ctx c = { u.ctx c with frac := u.nowFrac } := by
  rw [State.latchedTime, State.modCtx, State.ctx_setCtx_same, (Recorded.cross u 38 0).ctx]

theorem State.latchedTime_ctx_other (u : State) (c k : Nat) (h : k ≠ c) : (u.latchedTime c).ctx k = u.ctx k := by
  rw [State.latchedTime, State.modCtx, State.ctx_setCtx_other _ _ _ _ h, (Recorded.cross u 38 0).ctx]

theorem time_gives {s : State} {c : Nat} (d : Nat) (hr : Ready s c 1) (hp : s.replaying = false) :
    Gives (.time c d) s fun t =>
      t.ctx c = { (s.ctx c).setReg d s.tmb.ns with
        pc := (s.ctx c).pc + 1, budget := (s.ctx c).budget - 1, frac := s.nowFrac, st := .running, blocked := .nothing } ∧
      ∀ k, k ≠ c → t.ctx k = s.ctx k := by
  refine gives_of_engine hr (exec_time s c d) fun u ⟨ho, hc, hk⟩ => ?_
  obtain ⟨htc, htk⟩ := State.readTime_ctx (u.latchedTime c) c d (State.latchedTime_replaying c (ho.replaying.trans hp))
  have hlatched : (u.latchedTime c).ctx c = { s.ctx c with budget := (s.ctx c).budget - 1, frac := s.nowFrac } := by
    rw [State.latchedTime_ctx_same, hc, State.nowFrac, ho.tmb, State.nowFrac]
  refine ⟨?_, fun k hne => (htk k hne).trans ((State.latchedTime_ctx_other u c k hne).trans (hk k hne))⟩
  rw [htc, hlatched, State.latchedTime_tmb, ho.tmb,
    Ctx.setReg_latched (s.ctx c) d ((s.ctx c).budget - 1) s.nowFrac]

/-- Settles O16. The halves are those of the model's own product, which `clProd_testBit` gives bit by bit. -/
theorem productsAndTime : Obligations.ProductsAndTime := by
  unfold Obligations.ProductsAndTime
  intro s c d a b hr
  refine ⟨⟨clLow, clHigh, clmul_retires d a b hr, clmulh_retires d a b hr, fun u v j hj => ?_⟩,
    timefrac_retires d hr, time_gives d hr⟩
  exact ⟨clLow_getLsbD u v hj, clHigh_getLsbD u v hj⟩

end Sys2Proof.Machine

/-! # The memory controller (chapter 15): the pool, address orders, retraining, scrubbing and injection

A register write is its effect on a state that differs only in what is recorded (`gives_of_csrWrite`), and what counters, the
error log and the event log do along the way is told once, as `Booked`. -/

namespace Sys2Proof.Machine

/-! ## What counting and logging leave -/

/-- An address of no register that records, and of none of the performance counters' block. -/
abbrev Unrecorded (a : Nat) : Prop := a ∉ recordRegs ∧ a / 0x100000 ≠ 8

/-- Two states differ at most in what is recorded, in the performance counters and in the registers at the addresses `W`; only
a recording writes memory. -/
def Booked (W : Nat → Prop) (s t : State) : Prop :=
  t = { s with csr := t.csr, mem := t.mem, chk := t.chk, obs := t.obs } ∧
    (s.recording = false → t.mem = s.mem ∧ t.chk = s.chk ∧ t.recording = false) ∧
    ∀ a d, Unrecorded a → ¬ W a → SMap.get t.csr a d = SMap.get s.csr a d

theorem Recorded.booked {s t : State} (h : Recorded s t) (W : Nat → Prop) : Booked W s t := by
  obtain ⟨hs, hmem, -, hcsr⟩ := h
  refine ⟨hs, fun hr => ?_, fun a d ⟨ha, _⟩ _ => hcsr a d ha⟩
  obtain ⟨h1, h2, h3, -⟩ := hmem hr
  exact ⟨h1, h2, h3⟩

theorem Booked.trans {W : Nat → Prop} {s t u : State} (h : Booked W s t) (k : Booked W t u) : Booked W s u := by
  obtain ⟨hs, hmem, hcsr⟩ := h
  obtain ⟨ks, kmem, kcsr⟩ := k
  refine ⟨by rw [ks, hs], fun hr => ?_, fun a d ha hw => (kcsr a d ha hw).trans (hcsr a d ha hw)⟩
  obtain ⟨h1, h2, h3⟩ := hmem hr
  obtain ⟨k1, k2, k3⟩ := kmem h3
  exact ⟨k1.trans h1, k2.trans h2, k3⟩

theorem Booked.setObs (W : Nat → Prop) (s : State) (o : Obs) : Booked W s { s with obs := o } :=
  ⟨rfl, fun hr => ⟨rfl, rfl, hr⟩, fun _ _ _ _ => rfl⟩

/-- A register of `W`, or a performance counter, is written. -/
theorem Booked.wg {W : Nat → Prop} (s : State) (r : Reg) (v : Word) (i : List Nat) (hr : r.addr i ∉ recordRegs)
    (hw : r.addr i / 0x100000 = 8 ∨ W (r.addr i)) : Booked W s (s.wg r v i) := by
  have hne : SCB_STATUS.addr [] ≠ r.addr i := fun e => hr (e ▸ by decide)
  refine ⟨rfl, fun h => ⟨rfl, rfl, ?_⟩, fun a d ⟨_, hp⟩ hnw => SMap.get_set_other _ _ _ _ _ _ ?_⟩
  · rw [State.recording, State.fg_wg_other _ _ _ _ _ _ _ hne]
    exact h
  · rintro rfl
    exact hw.elim hp hnw

theorem Booked.rg {W : Nat → Prop} {s t : State} (h : Booked W s t) (r : Reg) (i : List Nat) (hr : Unrecorded (r.addr i))
    (hw : ¬ W (r.addr i)) : t.rg r i = s.rg r i := by
  obtain ⟨-, -, hcsr⟩ := h
  exact hcsr _ _ hr hw

theorem Booked.memst {W : Nat → Prop} {s t : State} (h : Booked W s t) : t.memst = s.memst := by
  rw [h.1]

theorem Recorded.mem {s t : State} (h : Recorded s t) (hr : s.recording = false) : t.mem = s.mem := (h.2.1 hr).1

theorem Booked.still {W : Nat → Prop} {s t : State} (h : Booked W s t) (hr : s.recording = false) : t.recording = false :=
  (h.2.1 hr).2.2

/-- Outside a recording, stored bytes and check symbols stand. -/
theorem Booked.stored {W : Nat → Prop} {s t : State} (h : Booked W s t) (hr : s.recording = false) :
    (∀ a, t.byte a = s.byte a) ∧ ∀ w, t.diff w = s.diff w := by
  obtain ⟨-, hmem, -⟩ := h
  obtain ⟨hm, hc, -⟩ := hmem hr
  exact ⟨fun a => by rw [State.byte, hm, State.byte], fun w => by rw [State.diff, hc, State.diff]⟩

theorem PMC_BLK_CNT_addr (b j : Nat) : PMC_BLK_CNT.addr [b, j] = 0x840020 + b * 0x40 + j * 0x8 := by
  simp [Reg.addr, PMC_BLK_CNT, dimOff, Nat.add_assoc]

/-- The addresses of the registers in which anything is recorded lie in HIF and SCB. -/
theorem block_of_mem_recordRegs {a : Nat} (h : a ∈ recordRegs) : a / 0x100000 = 5 ∨ a / 0x100000 = 7 := by
  have hall : ∀ x ∈ recordRegs, x / 0x100000 = 5 ∨ x / 0x100000 = 7 := by decide
  exact hall a h

/-- The block counters that mirror a counter are performance counters. -/
theorem Booked.pmcBlk {W : Nat → Prop} (s : State) (b off n : Nat) (js : List Nat) (hb : b < 64) (hj : ∀ j ∈ js, j < 4) :
    Booked W s (s.pmcBlk b off n js) := by
  induction js generalizing s with
  | nil => exact (Recorded.refl s).booked W
  | cons j t ih =>
    have hjt : ∀ k ∈ t, k < 4 := fun k hk => hj k (List.mem_cons_of_mem _ hk)
    have hblk : PMC_BLK_CNT.addr [b, j] / 0x100000 = 8 := by
      have hj4 : j < 4 := hj j List.mem_cons_self
      rw [PMC_BLK_CNT_addr]
      omega
    unfold State.pmcBlk
    dsimp only
    split
    · refine Booked.trans ?_ (ih _ hjt)
      refine (Booked.setObs W s _).trans (Booked.wg _ _ _ _ (fun hmem => ?_) (.inl hblk))
      have := block_of_mem_recordRegs hmem
      omega
    · exact ih s hjt

theorem Recorded.rcUpdate (s : State) (a : Nat) : Recorded s (s.rcUpdate a) := by
  unfold State.rcUpdate
  split
  · dsimp only
    refine Recorded.trans ?_ (Recorded.setObs _ _ rfl)
    split
    · exact Recorded.scb _ _
    · exact Recorded.refl s
  · exact Recorded.refl s

/-- A counter's update: what it meets is recorded, the counter is written, and the block counters that mirror it count. -/
theorem State.bump_eq (s : State) (r : Reg) (i : List Nat) (n : Nat) :
    ∃ m, Recorded s m ∧
      s.bump r i n = (m.wg r (BitVec.ofNat 64 (min 0xFFFFFFFF ((m.rg r i).toNat + n))) i).pmcBlk
        (r.addr i / 0x100000) (r.addr i % 0x100000) n [0, 1, 2, 3] := by
  refine ⟨if maskOf .rc r.flds = 0 then s else s.rcUpdate (r.addr i), ?_, rfl⟩
  split
  · exact Recorded.refl s
  · exact Recorded.rcUpdate s _

theorem Booked.bump {W : Nat → Prop} (s : State) (r : Reg) (i : List Nat) (n : Nat) (hr : r.addr i ∉ recordRegs)
    (hb : r.addr i / 0x100000 < 64) (hw : W (r.addr i)) : Booked W s (s.bump r i n) := by
  obtain ⟨m, hm, hbump⟩ := State.bump_eq s r i n
  rw [hbump]
  exact ((hm.booked W).trans (Booked.wg _ _ _ _ hr (.inr hw))).trans (Booked.pmcBlk _ _ _ _ _ hb (by decide))

theorem State.bump_counts (s : State) (r : Reg) (i : List Nat) (hr : Unrecorded (r.addr i))
    (hb : r.addr i / 0x100000 < 64) : Counts s (s.bump r i) r i := by
  obtain ⟨m, hm, hbump⟩ := State.bump_eq s r i 1
  rw [Counts, hbump, (Booked.pmcBlk (W := fun _ => False) _ _ _ _ _ hb (by decide)).rg r i hr id, State.rg_wg_same,
    hm.rg r i hr.1]

/-- What is booked after a counter has counted leaves its count. -/
theorem Booked.counts {W : Nat → Prop} {s t u : State} {r : Reg} {i : List Nat} (k : Booked W t u) (h : Counts s t r i)
    (hr : Unrecorded (r.addr i)) (hw : ¬ W (r.addr i)) : Counts s u r i :=
  (k.rg r i hr hw).trans h

/-! ## Register writes -/

/-- A register write that takes its effect gives what the effect makes of a state that differs only in what is recorded. -/
theorem gives_of_csrWrite {ins : Instr} {s : State} {r : Reg} {i : List Nat} {who : Init} {v : Word} {f : State → State}
    {P : State → Prop} (hw : Writes s r i who) (hi : exec ins s = .next (s.csrWrite r i who v f))
    (hf : ∀ m, Recorded s m → P (f m)) : Gives ins s P := by
  obtain ⟨m, hm, hwrite⟩ := State.csrWrite_spec s r i who v f hw
  exact ⟨f m, hi.trans (congrArg _ hwrite), hf m hm⟩

/-- The same register written in both: the states still differ only in what is recorded. -/
theorem Recorded.wg_both {s t : State} (h : Recorded s t) (r : Reg) (v : Word) (i : List Nat) (hr : r.addr i ∉ recordRegs) :
    Recorded (s.wg r v i) (t.wg r v i) := by
  have hne : SCB_STATUS.addr [] ≠ r.addr i := fun e => hr (e ▸ by decide)
  have hst : ∀ u : State, (u.wg r v i).rg SCB_STATUS = u.rg SCB_STATUS := fun u => State.rg_wg_other _ _ _ _ _ _ hne
  obtain ⟨hs, hmem, hrep, hcsr⟩ := h
  simp only [State.recording, State.replaying, State.fg] at hmem hrep
  refine ⟨?_, fun hrec => ?_, fun hp => ?_, fun a d ha => ?_⟩
  · rw [hs]
    rfl
  · simp only [State.recording, State.replaying, State.fg, hst] at hrec ⊢
    exact hmem hrec
  · simp only [State.replaying, State.fg, hst] at hp ⊢
    exact hrep hp
  · by_cases ha' : a = r.addr i
    · subst ha'
      simp only [State.wg, SMap.set]
      split
      · simp only [SMap.get, SMap.find_del_same]
      · rw [SMap.get_ins_same, SMap.get_ins_same]
    · exact (SMap.get_set_other _ _ _ _ _ _ ha').trans ((hcsr a d ha).trans (SMap.get_set_other _ _ _ _ _ _ ha').symm)

theorem Recorded.plain_both {s t : State} (h : Recorded s t) (r : Reg) (i : List Nat) (v : Word)
    (hr : r.addr i ∉ recordRegs) : Recorded (s.plain r i v) (t.plain r i v) := by
  rw [State.plain, State.plain, h.rg r i hr]
  exact h.wg_both r _ i hr

theorem State.rg_plain_same (s : State) (r : Reg) (i : List Nat) (v : Word) :
    (s.plain r i v).rg r i = plainWord r (s.rg r i) v := State.rg_wg_same _ _ _ _

/-- A writable field of a register without W1C and W1S fields takes the value written. -/
theorem fld_plainWord (r : Reg) (f : Fld) (old v : Word) (h1c : maskOf .w1c r.flds = 0) (h1s : maskOf .w1s r.flds = 0)
    (hrw : fmask f.hi f.lo &&& maskOf .rw r.flds = fmask f.hi f.lo) : fld (plainWord r old v) f.hi f.lo = f.of v := by
  have hmerge : plainWord r old v = rwMerge r old v := by
    rw [plainWord, h1c, h1s]
    simp only [BitVec.ofNat_eq_ofNat, BitVec.and_zero, BitVec.or_zero]
    exact BitVec.and_allOnes
  apply Nat.eq_of_testBit_eq
  intro i
  rw [Fld.of, hmerge, fld_bit, fld_bit]
  by_cases hi : i < f.hi + 1 - f.lo
  · by_cases hj : f.lo + i < 64
    · have hmask : (fmask f.hi f.lo).getLsbD (f.lo + i) = true := by
        rw [fmask_bit _ _ _ hj]
        simp [hi]
      have hwr : (maskOf .rw r.flds).getLsbD (f.lo + i) = true := by
        rw [← hrw, BitVec.getLsbD_and] at hmask
        exact (Bool.and_eq_true_iff.mp hmask).2
      simp only [rwMerge, BitVec.getLsbD_or, BitVec.getLsbD_and, BitVec.getLsbD_not, hwr, Bool.not_true, Bool.and_false,
        Bool.and_true, Bool.false_or]
    · simp [BitVec.getLsbD_of_ge _ _ (Nat.le_of_not_lt hj)]
  · simp [hi]

theorem State.fg_plain_same (s : State) (r : Reg) (i : List Nat) (v : Word) (f : Fld) (h1c : maskOf .w1c r.flds = 0)
    (h1s : maskOf .w1s r.flds = 0) (hrw : fmask f.hi f.lo &&& maskOf .rw r.flds = fmask f.hi f.lo) :
    (s.plain r i v).fg r f i = f.of v := by
  rw [State.fg, State.rg_plain_same, fld_plainWord r f _ v h1c h1s hrw]

end Sys2Proof.Machine

/-! # The pail pool's definition and the address orders (R328-R330; assumptions 65 and 66) -/

namespace Sys2Proof.Machine

/-! ## What decides a definition of the pool -/

theorem pailReg_unrecorded (big : Bool) (word : Nat) : Unrecorded ((pailReg big word).addr []) := by
  unfold pailReg
  split <;> split <;> decide

theorem Recorded.pailsS {s t : State} (h : Recorded s t) : t.pailsS = s.pailsS := h.fg _ _ _ (by decide)
theorem Recorded.pailsD {s t : State} (h : Recorded s t) : t.pailsD = s.pailsD := h.fg _ _ _ (by decide)

theorem Recorded.poolAreas {s t : State} (h : Recorded s t) : t.poolAreas = s.poolAreas := by
  simp only [State.poolAreas, h.pailsS, h.pailsD, h.fg MEM_PAIL_S0 _ [] (by decide), h.fg MEM_PAIL_S1 _ [] (by decide),
    h.fg MEM_PAIL_D0 _ [] (by decide), h.fg MEM_PAIL_D1 _ [] (by decide)]

theorem Recorded.poolOk {s t : State} (h : Recorded s t) : t.poolOk = s.poolOk := by
  rw [State.poolOk, h.pailsS, h.pailsD, h.poolAreas, State.poolOk]

theorem Recorded.pailsBusy {s t : State} (h : Recorded s t) : t.pailsBusy = s.pailsBusy := by
  have hmemst : t.memst = s.memst := by rw [h.1]
  simp only [State.pailsBusy, State.freePailCount, State.freeS, State.freeD, h.pailsS, h.pailsD, hmemst]

/-- Two ranges that do not overlap: one ends before the other begins. -/
theorem overlap_eq_false (x y : Nat × Nat) : overlap x y = false ↔ x.1 + x.2 ≤ y.1 ∨ y.1 + y.2 ≤ x.1 := by
  simp only [overlap, Bool.and_eq_false_iff, decide_eq_false_iff_not]
  omega

theorem disjointAll_iff (l : List (Nat × Nat)) :
    disjointAll l = true ↔ l.Pairwise fun y z => y.1 + y.2 ≤ z.1 ∨ z.1 + z.2 ≤ y.1 := by
  induction l with
  | nil => simp [disjointAll]
  | cons x t ih =>
    simp only [disjointAll, Bool.and_eq_true, List.all_eq_true, Bool.not_eq_true', overlap_eq_false, ih, List.pairwise_cons]

theorem State.poolOk_iff (s : State) :
    s.poolOk = true ↔ s.pailsS ≤ 65536 ∧ s.pailsD ≤ 1048576 ∧ 0 < s.pailsS + s.pailsD ∧
      (∀ y ∈ s.poolAreas, rangeInMem y.1 y.2 = true) ∧
      s.poolAreas.Pairwise fun y z => y.1 + y.2 ≤ z.1 ∨ z.1 + z.2 ≤ y.1 := by
  simp only [State.poolOk, Bool.and_eq_true, decide_eq_true_eq, List.all_eq_true, disjointAll_iff, and_assoc]

/-! ## A write of the pool's registers -/

theorem State.pailWrite_refused (s : State) (big : Bool) (word : Nat) (v : Word)
    (h : s.pailsBusy = true ∨ (s.plain (pailReg big word) [] v).poolOk = false) :
    s.pailWrite big word v = s.logDiscard ((pailReg big word).addr []) := if_pos (by simpa using h)

theorem State.pailWrite_taken (s : State) (big : Bool) (word : Nat) (v : Word) (hb : s.pailsBusy = false)
    (hok : (s.plain (pailReg big word) [] v).poolOk = true) :
    s.pailWrite big word v = (s.plain (pailReg big word) [] v).poolFresh.strictCheck := if_neg (by simp [hb, hok])

theorem Booked.setStrict (s : State) (host auto : Nat) : Booked (· = TMG_CTL.addr []) s (s.setStrict host auto) := by
  have hfs : ∀ (u : State) (f : Fld) (x : Nat), Booked (· = TMG_CTL.addr []) u (u.fs TMG_CTL f x) :=
    fun _ _ _ => Booked.wg _ _ _ _ (by decide) (.inr rfl)
  unfold State.setStrict
  generalize (if host = 1 ∨ auto = 1 then 1 else 0) = strict
  have hset := ((hfs s TMG_CTL_STRICT_HOST host).trans (hfs _ TMG_CTL_STRICT_AUTO auto)).trans (hfs _ TMG_CTL_STRICT strict)
  dsimp only
  split
  · exact hset
  · exact hset.trans ((Recorded.logEv _ _ _ _ _).booked _)

/-- The watch over the free pail count touches TMG_CTL, the traffic manager's own state, and what is recorded (R302). -/
theorem State.strictCheck_eq (s : State) :
    ∃ u x, Booked (· = TMG_CTL.addr []) s u ∧ s.strictCheck = { u with tmg := { u.tmg with recover := x } } := by
  have hrefl : Booked (· = TMG_CTL.addr []) s s := (Recorded.refl s).booked _
  unfold State.strictCheck
  split
  · dsimp only
    generalize hu : (if s.freePailCount < s.fg TMG_CTL TMG_CTL_PAIL_FLOOR ∧ s.fg TMG_CTL TMG_CTL_STRICT_AUTO = 0 then
      s.setStrict (s.fg TMG_CTL TMG_CTL_STRICT_HOST) 1 else s) = u
    have hsu : Booked (· = TMG_CTL.addr []) s u := by
      rw [← hu]
      split
      · exact Booked.setStrict s _ _
      · exact hrefl
    split
    · exact ⟨u, _, hsu, rfl⟩
    · split
      · exact ⟨u, _, hsu, rfl⟩
      · exact ⟨u, u.tmg.recover, hsu, rfl⟩
  · exact ⟨s, s.tmg.recover, hrefl, rfl⟩

theorem State.rg_strictCheck (s : State) (r : Reg) (i : List Nat) (hr : Unrecorded (r.addr i))
    (hne : r.addr i ≠ TMG_CTL.addr []) : s.strictCheck.rg r i = s.rg r i := by
  obtain ⟨u, x, hu, hcheck⟩ := s.strictCheck_eq
  rw [hcheck]
  exact hu.rg r i hr hne

theorem State.memst_strictCheck (s : State) : s.strictCheck.memst = s.memst := by
  obtain ⟨u, x, hu, hcheck⟩ := s.strictCheck_eq
  rw [hcheck]
  exact hu.memst

/-- Once the lists are set afresh, every pail of the definition then in force is free. -/
theorem State.free_poolFresh_strictCheck (s : State) :
    s.poolFresh.strictCheck.freeS = s.poolFresh.strictCheck.pailsS ∧
      s.poolFresh.strictCheck.freeD = s.poolFresh.strictCheck.pailsD := by
  simp only [State.freeS, State.freeD, State.memst_strictCheck]
  exact ⟨rfl, rfl⟩

theorem memPailWrite_busy_recorded {s : State} {big : Bool} {word : Nat} {who : Init} {v : Word}
    (hw : Writes s (pailReg big word) [] who) (hb : s.pailsBusy = true) :
    Gives (.memPailWrite big word who v) s fun t => Recorded s t :=
  gives_of_csrWrite hw rfl fun m hm => by
    rw [m.pailWrite_refused big word v (.inl (hm.pailsBusy.trans hb))]
    exact hm.trans (Recorded.logDiscard _ _)

theorem memPailWrite_illegal_recorded {s : State} {big : Bool} {word : Nat} {who : Init} {v : Word}
    (hw : Writes s (pailReg big word) [] who) (hbad : (s.plain (pailReg big word) [] v).poolOk = false) :
    Gives (.memPailWrite big word who v) s fun t => Recorded s t := by
  refine gives_of_csrWrite hw rfl fun m hm => ?_
  have hplain := hm.plain_both (pailReg big word) [] v (pailReg_unrecorded big word).1
  rw [m.pailWrite_refused big word v (.inr (hplain.poolOk.trans hbad))]
  exact hm.trans (Recorded.logDiscard _ _)

theorem memPailWrite_legal {s : State} {big : Bool} {word : Nat} {who : Init} {v : Word}
    (hw : Writes s (pailReg big word) [] who) (hb : s.pailsBusy = false)
    (hok : (s.plain (pailReg big word) [] v).poolOk = true) :
    Gives (.memPailWrite big word who v) s fun t =>
      t.rg (pailReg big word) = plainWord (pailReg big word) (s.rg (pailReg big word)) v ∧
      t.freeS = t.pailsS ∧ t.freeD = t.pailsD := by
  refine gives_of_csrWrite hw rfl fun m hm => ?_
  obtain ⟨hrec, hpmc⟩ := pailReg_unrecorded big word
  have hplain := hm.plain_both (pailReg big word) [] v hrec
  have htmg : (pailReg big word).addr [] ≠ TMG_CTL.addr [] := by
    unfold pailReg
    split <;> split <;> decide
  rw [m.pailWrite_taken big word v (hm.pailsBusy.trans hb) (hplain.poolOk.trans hok)]
  refine ⟨?_, State.free_poolFresh_strictCheck _⟩
  rw [State.rg_strictCheck _ _ _ ⟨hrec, hpmc⟩ htmg, ← State.rg_plain_same]
  exact hplain.rg _ _ hrec

/-! ## The address orders are bijections of a region's slots -/

/-- A location: stack, channel, bank and row from bit 0 up. -/
def packLoc (st ch bank row : Nat) : Nat := st + ch * 2 + bank * 8 + row * 128

/-- The fields of a location are what was packed. -/
theorem bits_packLoc {st ch bank row : Nat} (hs : st < 2) (hc : ch < 4) (hb : bank < 16) (hr : row < 4096) :
    bits (packLoc st ch bank row) 0 0 = st ∧ bits (packLoc st ch bank row) 2 1 = ch ∧
      bits (packLoc st ch bank row) 6 3 = bank ∧ bits (packLoc st ch bank row) 18 7 = row := by
  simp only [bits, packLoc, Nat.shiftRight_eq_div_pow]
  omega

theorem packLoc_lt {st ch bank row : Nat} (hs : st < 2) (hc : ch < 4) (hb : bank < 16) (hr : row < 4096) :
    packLoc st ch bank row < 2 ^ 19 := by
  unfold packLoc
  omega

theorem bits_lt (v hi lo : Nat) : bits v hi lo < 2 ^ (hi + 1 - lo) := Nat.mod_lt _ (Nat.two_pow_pos _)

/-- A location of 19 bits is its fields, packed. -/
theorem packLoc_bits {l : Nat} (h : l < 2 ^ 19) : packLoc (bits l 0 0) (bits l 2 1) (bits l 6 3) (bits l 18 7) = l := by
  simp only [bits, packLoc, Nat.shiftRight_eq_div_pow]
  omega

/-- The slot that an order makes of a location's fields (Table MEM-2). -/
def packSlot (order st ch bank row : Nat) : Nat :=
  if order = 0 then st + ch * 2 + bank * 8 + row * 128
  else if order = 1 then st + ch * 2 + (bank ^^^ row % 16) * 8 + row * 128
  else if order = 2 then bank + row * 16 + ch * 65536 + st * 262144
  else st + ch * 2 + row * 8 + bank * 32768

theorem locSlot_packLoc (order : Nat) {st ch bank row : Nat} (hs : st < 2) (hc : ch < 4) (hb : bank < 16) (hr : row < 4096) :
    locSlot order (packLoc st ch bank row) = packSlot order st ch bank row := by
  obtain ⟨h1, h2, h3, h4⟩ := bits_packLoc hs hc hb hr
  simp only [locSlot, h1, h2, h3, h4, packSlot]

theorem xor_lt_16 {x y : Nat} (hx : x < 16) (hy : y < 16) : x ^^^ y < 16 := Nat.xor_lt_two_pow (n := 4) hx hy

theorem packSlot_lt (order : Nat) {st ch bank row : Nat} (hs : st < 2) (hc : ch < 4) (hb : bank < 16) (hr : row < 4096) :
    packSlot order st ch bank row < 2 ^ 19 := by
  have hx : bank ^^^ row % 16 < 16 := xor_lt_16 hb (Nat.mod_lt _ (by decide))
  unfold packSlot
  split
  · omega
  · split
    · omega
    · split <;> omega

/-- An order takes the slot made of a location's fields to that location. -/
theorem slotLoc_packSlot (order : Nat) {st ch bank row : Nat} (hs : st < 2) (hc : ch < 4) (hb : bank < 16)
    (hr : row < 4096) : slotLoc order (packSlot order st ch bank row) = packLoc st ch bank row := by
  unfold slotLoc packSlot packLoc
  by_cases h0 : order = 0
  · simp only [if_pos h0, bits, Nat.shiftRight_eq_div_pow]
    omega
  by_cases h1 : order = 1
  · have hx : bank ^^^ row % 16 < 16 := xor_lt_16 hb (Nat.mod_lt _ (by decide))
    have hcancel : (bank ^^^ row % 16) ^^^ row % 16 = bank := by
      rw [Nat.xor_assoc, Nat.xor_self, Nat.xor_zero]
    obtain ⟨hst, hch, hbank, hrow⟩ := bits_packLoc hs hc hx hr
    have hfold : bits (packLoc st ch (bank ^^^ row % 16) row) 10 7 = row % 16 := by
      simp only [bits, packLoc, Nat.shiftRight_eq_div_pow]
      omega
    simp only [packLoc] at hst hch hbank hrow hfold
    simp only [if_neg h0, if_pos h1, hst, hch, hbank, hrow, hfold, hcancel]
  by_cases h2 : order = 2
  · simp only [if_neg h0, if_neg h1, if_pos h2, bits, Nat.shiftRight_eq_div_pow]
    omega
  · simp only [if_neg h0, if_neg h1, if_neg h2, bits, Nat.shiftRight_eq_div_pow]
    omega

/-- Every slot is made of the fields of one location. -/
theorem exists_packSlot (order : Nat) {g : Nat} (hg : g < 2 ^ 19) :
    ∃ st ch bank row, st < 2 ∧ ch < 4 ∧ bank < 16 ∧ row < 4096 ∧ packSlot order st ch bank row = g := by
  have hpack := packLoc_bits hg
  have hx : bits g 6 3 ^^^ bits g 10 7 < 16 := xor_lt_16 (bits_lt g 6 3) (bits_lt g 10 7)
  unfold packSlot
  by_cases h0 : order = 0
  · simp only [if_pos h0]
    exact ⟨_, _, _, _, bits_lt _ _ _, bits_lt _ _ _, bits_lt _ _ _, bits_lt _ _ _, hpack⟩
  by_cases h1 : order = 1
  · simp only [if_neg h0, if_pos h1]
    refine ⟨bits g 0 0, bits g 2 1, bits g 6 3 ^^^ bits g 10 7, bits g 18 7,
      bits_lt _ _ _, bits_lt _ _ _, hx, bits_lt _ _ _, ?_⟩
    have hrow : bits g 18 7 % 16 = bits g 10 7 := by
      simp only [bits]
      omega
    rw [hrow, Nat.xor_assoc, Nat.xor_self, Nat.xor_zero]
    exact hpack
  by_cases h2 : order = 2
  · simp only [if_neg h0, if_neg h1, if_pos h2]
    refine ⟨bits g 18 18, bits g 17 16, bits g 3 0, bits g 15 4,
      bits_lt _ _ _, bits_lt _ _ _, bits_lt _ _ _, bits_lt _ _ _, ?_⟩
    simp only [bits, Nat.shiftRight_eq_div_pow]
    omega
  · simp only [if_neg h0, if_neg h1, if_neg h2]
    refine ⟨bits g 0 0, bits g 2 1, bits g 18 15, bits g 14 3,
      bits_lt _ _ _, bits_lt _ _ _, bits_lt _ _ _, bits_lt _ _ _, ?_⟩
    simp only [bits, Nat.shiftRight_eq_div_pow]
    omega

theorem slotLoc_spec (order : Nat) {g : Nat} (hg : g < 2 ^ 19) :
    slotLoc order g < 2 ^ 19 ∧ locSlot order (slotLoc order g) = g := by
  obtain ⟨st, ch, bank, row, hs, hc, hb, hr, rfl⟩ := exists_packSlot order hg
  rw [slotLoc_packSlot order hs hc hb hr]
  exact ⟨packLoc_lt hs hc hb hr, locSlot_packLoc order hs hc hb hr⟩

theorem locSlot_spec (order : Nat) {l : Nat} (hl : l < 2 ^ 19) :
    locSlot order l < 2 ^ 19 ∧ slotLoc order (locSlot order l) = l := by
  have hs : bits l 0 0 < 2 := bits_lt _ _ _
  have hc : bits l 2 1 < 4 := bits_lt _ _ _
  have hb : bits l 6 3 < 16 := bits_lt _ _ _
  have hr : bits l 18 7 < 4096 := bits_lt _ _ _
  rw [← packLoc_bits hl, locSlot_packLoc order hs hc hb hr]
  exact ⟨packSlot_lt order hs hc hb hr, slotLoc_packSlot order hs hc hb hr⟩

/-! ## Where an address's bytes are found after a change of order -/

/-- Under the same order an address is its own. -/
theorem reorderKey_self (unit order k : Nat) : reorderKey unit order order k = k := by
  obtain ⟨-, hinv⟩ := slotLoc_spec order (Nat.mod_lt (k / unit) (Nat.two_pow_pos 19))
  rw [reorderKey, hinv, Nat.div_add_mod', Nat.div_add_mod']

/-- The slot and the place in it that a moved address names. -/
theorem reorderKey_parts {unit : Nat} (hu : 0 < unit) (old new k : Nat) :
    reorderKey unit old new k / unit / 2 ^ 19 = k / unit / 2 ^ 19 ∧
      reorderKey unit old new k / unit % 2 ^ 19 = locSlot new (slotLoc old (k / unit % 2 ^ 19)) ∧
      reorderKey unit old new k % unit = k % unit := by
  obtain ⟨hlt, -⟩ := slotLoc_spec old (Nat.mod_lt (k / unit) (Nat.two_pow_pos 19))
  obtain ⟨hnew, -⟩ := locSlot_spec new hlt
  have hk : k % unit < unit := Nat.mod_lt _ hu
  have hslot : reorderKey unit old new k / unit =
      k / unit / 2 ^ 19 * 2 ^ 19 + locSlot new (slotLoc old (k / unit % 2 ^ 19)) := by
    rw [reorderKey, Nat.mul_comm, Nat.mul_add_div hu, Nat.div_eq_of_lt hk, Nat.add_zero]
  refine ⟨?_, ?_, ?_⟩
  · rw [hslot]
    omega
  · rw [hslot]
    omega
  · rw [reorderKey, Nat.mul_comm, Nat.mul_add_mod, Nat.mod_mod]

/-- A change back undoes a change of order. -/
theorem reorderKey_reorderKey {unit : Nat} (hu : 0 < unit) (old new k : Nat) :
    reorderKey unit new old (reorderKey unit old new k) = k := by
  obtain ⟨hregion, hslot, hrest⟩ := reorderKey_parts hu old new k
  obtain ⟨hlt, hold⟩ := slotLoc_spec old (Nat.mod_lt (k / unit) (Nat.two_pow_pos 19))
  obtain ⟨-, hnew⟩ := locSlot_spec new hlt
  conv => lhs; rw [reorderKey]
  rw [hregion, hslot, hrest, hnew, hold, Nat.div_add_mod', Nat.div_add_mod']

/-- The address at which a byte is found after region `r` has changed its order. -/
def movedKey (unit r old new k : Nat) : Nat := if k / unit / 2 ^ 19 = r then reorderKey unit old new k else k

theorem movedKey_region {unit : Nat} (hu : 0 < unit) (r old new k : Nat) :
    movedKey unit r old new k / unit / 2 ^ 19 = k / unit / 2 ^ 19 := by
  unfold movedKey
  split
  · exact (reorderKey_parts hu old new k).1
  · rfl

theorem movedKey_movedKey {unit : Nat} (hu : 0 < unit) (r old new k : Nat) :
    movedKey unit r new old (movedKey unit r old new k) = k := by
  have hregion := movedKey_region hu r old new k
  by_cases hk : k / unit / 2 ^ 19 = r
  · rw [movedKey, if_pos (hregion.trans hk), movedKey, if_pos hk, reorderKey_reorderKey hu]
  · rw [movedKey, if_neg (fun e => hk (hregion.symm.trans e)), movedKey, if_neg hk]

theorem movedKey_injective {unit : Nat} (hu : 0 < unit) (r old new : Nat) : Function.Injective (movedKey unit r old new) :=
  Function.LeftInverse.injective (movedKey_movedKey hu r old new)

theorem SMap.find_eq_none_of_above {α : Type} (m : SMap α) {b k : Nat} (hk : k ≤ b) (hm : SMap.above b m = true) :
    SMap.find m k = none := by
  induction m generalizing b with
  | nil => rfl
  | cons e t ih =>
    simp only [SMap.above, Bool.and_eq_true, decide_eq_true_eq] at hm
    obtain ⟨he, ht⟩ := hm
    rw [SMap.find, if_neg (by omega), ih (by omega) ht]

/-- A sorted table whose keys are renamed one to one lists each value under its new key. -/
theorem SMap.find_foldl_ins {α : Type} {f : Nat → Nat} (hf : Function.Injective f) (m : SMap α) (hm : SMap.sorted m = true)
    (acc : SMap α) (k : Nat) :
    SMap.find (m.foldl (fun z e => SMap.ins z (f e.1) e.2) acc) (f k) = (SMap.find m k).or (SMap.find acc (f k)) := by
  induction m generalizing acc with
  | nil => rfl
  | cons e t ih =>
    obtain ⟨a, x⟩ := e
    have habove : SMap.above a t = true := hm
    rw [List.foldl_cons, ih (SMap.sorted_of_above t a habove), SMap.find]
    by_cases hk : a = k
    · subst hk
      rw [if_pos rfl, SMap.find_eq_none_of_above t (Nat.le_refl _) habove, SMap.find_ins_same]
      rfl
    · rw [if_neg hk, SMap.find_ins_other _ _ _ _ fun e => hk (hf e).symm]

theorem find_reorderMap {α : Type} {unit : Nat} (hu : 0 < unit) (r old new : Nat) (m : SMap α) (hm : SMap.sorted m = true)
    (k : Nat) : SMap.find (reorderMap unit r old new m) (movedKey unit r old new k) = SMap.find m k := by
  have hfind := SMap.find_foldl_ins (movedKey_injective hu r old new) m hm [] k
  rw [show SMap.find ([] : SMap α) (movedKey unit r old new k) = none from rfl, Option.or_none] at hfind
  exact hfind

/-! ## A write of DRC_ORDERr -/

theorem DRC_ORDER_addr (r : Nat) : DRC_ORDER.addr [r] = 0x2900000 + r * 0x4 := by
  simp [Reg.addr, DRC_ORDER, dimOff]

theorem DRC_ORDER_unrecorded {r : Nat} (hr : r < 8) : DRC_ORDER.addr [r] ∉ recordRegs := fun h => by
  have := block_of_mem_recordRegs h
  rw [DRC_ORDER_addr] at this
  omega

/-- A write that takes its effect sets the order and moves the region's bytes to the addresses that now name them. -/
theorem State.orderWrite_moves (s : State) (r : Nat) (v : Word) (hb : s.pailsBusy = false) (hm : Memory.wf s.mem = true) :
    (s.orderWrite r v).fg DRC_ORDER DRC_ORDER_ORDER [r] = DRC_ORDER_ORDER.of v ∧
      ∀ a, (s.orderWrite r v).byte
        (movedKey 1792 r (s.fg DRC_ORDER DRC_ORDER_ORDER [r]) (DRC_ORDER_ORDER.of v) a) = s.byte a := by
  have hfield := s.fg_plain_same DRC_ORDER [r] v DRC_ORDER_ORDER (by decide) (by decide) (by decide)
  have hsorted : SMap.sorted s.mem = true := (Bool.and_eq_true_iff.mp hm).1
  unfold State.orderWrite
  dsimp only
  rw [if_neg (by simp [hb])]
  split
  · rename_i hsame
    refine ⟨hfield, fun a => ?_⟩
    rw [← hsame, movedKey, reorderKey_self, ite_self]
    rfl
  · refine ⟨hfield, fun a => ?_⟩
    simp only [State.byte, SMap.get]
    rw [show (s.plain DRC_ORDER [r] v).mem = s.mem from rfl, find_reorderMap (Nat.succ_pos 1791) r _ _ s.mem hsorted]

theorem State.orderWrite_refused (s : State) (r : Nat) (v : Word) (hb : s.pailsBusy = true)
    (hin : ∃ y ∈ s.poolAreas, inSram y.1 = false ∧ overlap y (r * regionBytes, regionBytes) = true) :
    s.orderWrite r v = s.logDiscard (DRC_ORDER.addr [r]) := by
  obtain ⟨y, hy, hdram, hover⟩ := hin
  refine if_pos ?_
  rw [hb, Bool.true_and, List.any_eq_true]
  exact ⟨y, List.mem_filter.mpr ⟨hy, by simp [hdram]⟩, hover⟩

/-- A region is 2^19 slots of 1792 bytes. -/
theorem div_regionBytes (a : Nat) : a / 1792 / 2 ^ 19 = a / regionBytes := Nat.div_div_eq_div_mul a 1792 (2 ^ 19)

theorem Writes.inDims {s : State} {r : Reg} {i : List Nat} {who : Init} (h : Writes s r i who) : inDims r.dims i = true := h.1

theorem drcOrderWrite_moves {s : State} {r : Nat} {who : Init} {v : Word} (hw : Writes s DRC_ORDER [r] who)
    (hb : s.pailsBusy = false) (hrec : s.recording = false) (hmem : Memory.wf s.mem = true) :
    Gives (.drcOrderWrite r who v) s fun t =>
      t.fg DRC_ORDER DRC_ORDER_ORDER [r] = DRC_ORDER_ORDER.of v ∧
      (∀ a, a / regionBytes ≠ r → t.byte a = s.byte a) ∧
      (∀ a, a / regionBytes = r →
        t.byte (reorderKey 1792 (s.fg DRC_ORDER DRC_ORDER_ORDER [r]) (DRC_ORDER_ORDER.of v) a) = s.byte a) := by
  have hr : r < 8 := by
    have hin := hw.inDims
    simpa [Machine.inDims, DRC_ORDER] using hin
  refine gives_of_csrWrite hw rfl fun m hm => ?_
  have hmm : m.mem = s.mem := hm.mem hrec
  obtain ⟨hfield, hbyte⟩ := m.orderWrite_moves r v (hm.pailsBusy.trans hb) (hmm ▸ hmem)
  rw [hm.fg _ _ _ (DRC_ORDER_unrecorded hr)] at hbyte
  obtain ⟨hstored, -⟩ := (hm.booked fun _ => False).stored hrec
  refine ⟨hfield, fun a ha => ?_, fun a ha => ?_⟩
  · have h := hbyte a
    rwa [movedKey, if_neg (by rwa [div_regionBytes]), hstored] at h
  · have h := hbyte a
    rwa [movedKey, if_pos (by rwa [div_regionBytes]), hstored] at h

theorem drcOrderWrite_refused_recorded {s : State} {r : Nat} {who : Init} {v : Word} (hw : Writes s DRC_ORDER [r] who)
    (hb : s.pailsBusy = true)
    (hin : ∃ y ∈ s.poolAreas, inSram y.1 = false ∧ overlap y (r * regionBytes, regionBytes) = true) :
    Gives (.drcOrderWrite r who v) s fun t => Recorded s t :=
  gives_of_csrWrite hw rfl fun m hm => by
    rw [m.orderWrite_refused r v (hm.pailsBusy.trans hb) (by rwa [hm.poolAreas])]
    exact hm.trans (Recorded.logDiscard _ _)

end Sys2Proof.Machine

/-! # Retraining, the scrubber and error injection (R332, R340, R343; assumptions 67 and 69) -/

namespace Sys2Proof.Machine

/-! ## Asking leave for a batch -/

theorem Recorded.pwr {s t : State} (h : Recorded s t) : t.pwr = s.pwr := by
  rw [h.1]

/-- Asking leave touches the referee's queue, its count of refusals, and what is recorded (R398). -/
theorem State.askLeave_eq (s : State) (cls amount req index : Nat) :
    ∃ u q, Booked (· = PWR_REF_REFUSED.addr []) s u ∧
      (s.askLeave cls amount req index).1 = { u with pwr := { u.pwr with queue := q } } := by
  unfold State.askLeave
  dsimp only
  generalize hs0 : s.contest 9 0 _ = s0
  have h0 : Booked (· = PWR_REF_REFUSED.addr []) s s0 := hs0 ▸ (Recorded.contest _ _ _ _).booked _
  split
  · exact ⟨s0.bump PWR_REF_REFUSED, _, h0.trans (Booked.bump _ _ _ _ (by decide) (by decide) rfl), rfl⟩
  · exact ⟨s0, _, h0, rfl⟩

theorem State.drcAsk_eq (s : State) :
    ∃ u q, Booked (· = PWR_REF_REFUSED.addr []) s u ∧ s.drcAsk = { u with pwr := { u.pwr with queue := q } } := by
  have hrefl : Booked (· = PWR_REF_REFUSED.addr []) s s := (Recorded.refl s).booked _
  unfold State.drcAsk
  split
  · exact ⟨s, s.pwr.queue, hrefl, rfl⟩
  · split
    · exact s.askLeave_eq _ _ _ _
    · exact ⟨s, s.pwr.queue, hrefl, rfl⟩

@[simp] theorem State.memst_drcAsk (s : State) : s.drcAsk.memst = s.memst := by
  obtain ⟨u, q, hu, hask⟩ := s.drcAsk_eq
  rw [hask]
  exact hu.memst

theorem State.rg_drcAsk (s : State) (r : Reg) (i : List Nat) (hr : Unrecorded (r.addr i))
    (hne : r.addr i ≠ PWR_REF_REFUSED.addr []) : s.drcAsk.rg r i = s.rg r i := by
  obtain ⟨u, q, hu, hask⟩ := s.drcAsk_eq
  rw [hask]
  exact hu.rg r i hr hne

/-- A request that can fit, by a requester other than a program, is queued while the queue has room. -/
theorem State.askLeave_queues (s : State) (cls amount req index : Nat) (hfit : s.fixedSum + amount ≤ s.budget)
    (hlen : s.pwr.queue.length < 256) (hcls : cls ≠ clsProgram) :
    (s.askLeave cls amount req index).1.pwr.queue =
      s.pwr.queue ++ [{ cls, amount, req, index, since := s.now }] := by
  unfold State.askLeave
  dsimp only
  generalize hs0 : s.contest 9 0 _ = s0
  have h0 : Recorded s s0 := hs0 ▸ Recorded.contest _ _ _ _
  have hbudget : s0.budget = s.budget := h0.fg _ _ _ (by decide)
  have hfixed : s0.fixedSum = s.fixedSum := by
    simp only [State.fixedSum, State.classHeld, State.grantList, h0.pwr]
  rw [if_neg (by simp [State.leaveCanFit, hbudget, hfixed, h0.pwr, hfit, hlen, hcls]), h0.pwr]

/-- With no batch under way and no ask waiting, leave is asked for the lowest channel that is due. -/
theorem State.drcAsk_queues (s : State) (ch : Nat) (hbatch : s.memst.batch = none) (hqueue : s.pwr.queue = [])
    (hdue : s.dueChannel = some ch) (hfit : s.fixedSum + s.fg DRC_RT DRC_RT_AMOUNT ≤ s.budget) :
    s.drcAsk.pwr.queue =
      [{ cls := clsRetrain, amount := s.fg DRC_RT DRC_RT_AMOUNT, req := 4, index := ch, since := s.now }] := by
  unfold State.drcAsk
  rw [if_neg (by simp [hbatch, hqueue]), hdue]
  dsimp only
  rw [s.askLeave_queues _ _ _ _ hfit (by simp [hqueue]) (by decide), hqueue, List.nil_append]

theorem State.dueChannel_eq (s : State) {ch : Nat} (hch : ch < 8) (hdue : (SMap.get s.memst.dueAt ch none).isSome = true)
    (hfirst : ∀ n, n < ch → SMap.get s.memst.dueAt n none = none) : s.dueChannel = some ch := by
  rw [State.dueChannel, List.find?_range_eq_some]
  exact ⟨hdue, List.mem_range.mpr hch, fun n hn => by simp [hfirst n hn]⟩

/-! ## Retraining -/

/-- The state in which a channel's batch has fallen due. -/
def State.batchDue (s : State) (ch : Nat) : State :=
  { s with memst := { s.memst with dueAt := SMap.ins s.memst.dueAt ch (some s.now) } }

theorem State.dueAt_batchDue (s : State) (ch : Nat) : SMap.get (s.batchDue ch).memst.dueAt ch none = some s.now :=
  SMap.get_ins_same _ _ _ _

theorem State.dueAt_batchDue_other (s : State) {ch n : Nat} (h : n ≠ ch) :
    SMap.get (s.batchDue ch).memst.dueAt n none = SMap.get s.memst.dueAt n none := SMap.get_ins_other _ _ _ _ _ h

/-- The PERIOD since a channel's last batch is over. -/
theorem exec_retrainDue {s : State} {ch : Nat} (temp : Nat) (hon : s.domOn .memory = true) (hch : ch < 8)
    (hnew : SMap.get s.memst.dueAt ch none = none) (hbatch : s.memst.batch ≠ some ch)
    (hperiod : SMap.get s.memst.lastBatch ch 0 + s.rtPeriod ≤ s.now) :
    exec (.retrainDue ch temp) s = .next (s.batchDue ch).drcAsk := if_pos (by simp [hon, hch, hnew, hbatch, hperiod])

theorem retrainDue_gives {s : State} {ch : Nat} (temp : Nat) (hon : s.domOn .memory = true) (hch : ch < 8)
    (hnew : SMap.get s.memst.dueAt ch none = none) (hbatch : s.memst.batch ≠ some ch)
    (hperiod : SMap.get s.memst.lastBatch ch 0 + s.rtPeriod ≤ s.now) :
    Gives (.retrainDue ch temp) s fun t =>
      SMap.get t.memst.dueAt ch none = some s.now ∧
      (s.memst.batch = none → s.pwr.queue = [] → (∀ n, n < ch → SMap.get s.memst.dueAt n none = none) →
        s.fixedSum + s.fg DRC_RT DRC_RT_AMOUNT ≤ s.budget →
        t.pwr.queue = [{ cls := clsRetrain, amount := s.fg DRC_RT DRC_RT_AMOUNT, req := 4, index := ch, since := s.now }]) := by
  refine ⟨_, exec_retrainDue temp hon hch hnew hbatch hperiod, ?_, fun hnone hqueue hfirst hfit => ?_⟩
  · rw [State.memst_drcAsk, State.dueAt_batchDue]
  · refine State.drcAsk_queues (s.batchDue ch) ch hnone hqueue ?_ hfit
    refine State.dueChannel_eq _ hch (by rw [State.dueAt_batchDue]; rfl) fun n hn => ?_
    rw [State.dueAt_batchDue_other s (by omega), hfirst n hn]

/-- The state in which a channel's batch is over: its leave is returned, and the instant and the temperature are kept. -/
def State.batchOver (s : State) (ch temp : Nat) : State :=
  let u := (s.returnReq clsRetrain 4 ch).cross 35 ch
  { u with memst := { u.memst with
    batch := none, lastBatch := SMap.ins u.memst.lastBatch ch s.now, lastTemp := SMap.ins u.memst.lastTemp ch temp } }

theorem exec_retrainBatchEnd {s : State} {c : Nat} (temp : Nat) (hbatch : s.memst.batch = some c)
    (hover : s.memst.batchAt + 30000 ≤ s.now) :
    exec (.retrainBatchEnd temp) s = .next ((s.batchOver c temp).fs DRC_STATUS DRC_STATUS_RT_ACTIVE 0).drcAsk := by
  show execRetrainBatchEnd temp s = _
  unfold execRetrainBatchEnd
  rw [hbatch]
  exact if_pos hover

theorem retrainBatchEnd_gives {s : State} {c : Nat} (temp : Nat) (hbatch : s.memst.batch = some c)
    (hover : s.memst.batchAt + 30000 ≤ s.now) :
    Gives (.retrainBatchEnd temp) s fun t =>
      t.memst.batch = none ∧ SMap.find t.memst.lastBatch c = some s.now ∧ SMap.find t.memst.lastTemp c = some temp ∧
      t.flag DRC_STATUS DRC_STATUS_RT_ACTIVE = false := by
  refine ⟨_, exec_retrainBatchEnd temp hbatch hover, ?_⟩
  have hmemst : ((s.batchOver c temp).fs DRC_STATUS DRC_STATUS_RT_ACTIVE 0).drcAsk.memst = (s.batchOver c temp).memst :=
    State.memst_drcAsk _
  have hactive : ((s.batchOver c temp).fs DRC_STATUS DRC_STATUS_RT_ACTIVE 0).drcAsk.fg DRC_STATUS DRC_STATUS_RT_ACTIVE = 0 := by
    rw [State.fg, State.rg_drcAsk _ _ _ (by decide) (by decide), ← State.fg,
      State.fg_fs_same _ _ _ _ _ (by decide) (by decide)]
    rfl
  refine ⟨?_, ?_, ?_, ?_⟩
  · rw [hmemst]
    rfl
  · rw [hmemst]
    exact SMap.find_ins_same _ _ _
  · rw [hmemst]
    exact SMap.find_ins_same _ _ _
  · rw [State.flag, hactive]
    rfl

/-- The state in which a channel's ask has been seen to be late. -/
def State.batchLate (s : State) (ch : Nat) : State :=
  { s with memst := { s.memst with lateSeen := SMap.ins s.memst.lateSeen ch true } }

theorem exec_retrainLate {s : State} {ch d : Nat} (hdue : SMap.get s.memst.dueAt ch none = some d)
    (hlate : d + s.rtPeriod ≤ s.now) (hseen : SMap.get s.memst.lateSeen ch false = false) :
    exec (.retrainLate ch) s = .next (((s.batchLate ch).bump DRC_RT_LATE).logEv 0x29 0x0A 0 ch).drcAsk := by
  show execRetrainLate ch s = _
  unfold execRetrainLate
  rw [hdue]
  exact if_pos (by simp [hlate, hseen])

theorem retrainLate_gives {s : State} {ch d : Nat} (hdue : SMap.get s.memst.dueAt ch none = some d)
    (hlate : d + s.rtPeriod ≤ s.now) (hseen : SMap.get s.memst.lateSeen ch false = false) :
    Gives (.retrainLate ch) s fun t => SMap.get t.memst.lateSeen ch false = true ∧ Counts s t DRC_RT_LATE [] := by
  refine ⟨_, exec_retrainLate hdue hlate hseen, ?_, ?_⟩
  · rw [State.memst_drcAsk, ((Recorded.logEv _ _ _ _ _).booked fun _ => True).memst,
      (Booked.bump (W := fun _ => True) _ _ _ _ (by decide) (by decide) trivial).memst]
    exact SMap.get_ins_same _ _ _ _
  · have hcount : Counts s ((s.batchLate ch).bump DRC_RT_LATE) DRC_RT_LATE [] :=
      State.bump_counts (s.batchLate ch) DRC_RT_LATE [] (by decide) (by decide)
    refine (State.rg_drcAsk _ _ _ (by decide) (by decide)).trans ?_
    exact ((Recorded.logEv _ _ _ _ _).booked fun _ => False).counts hcount (by decide) id

/-! ## The scrubber -/

/-- The addresses of the error log and of its count (R341). -/
abbrev inErrorLog (a : Nat) : Prop := a = MEM_ERR_TOTAL.addr [] ∨ (0x2801000 ≤ a ∧ a < 0x2801200)

theorem MEM_ERR_LOG_addr (i j : Nat) : MEM_ERR_LOG.addr [i, j] = 0x2801000 + i * 0x10 + j * 0x8 := by
  simp [Reg.addr, MEM_ERR_LOG, dimOff, Nat.add_assoc]

/-- An entry of the error log is written. -/
theorem Booked.memErr (s : State) (w kind pos src : Nat) : Booked inErrorLog s (s.memErr w kind pos src) := by
  have hentry : ∀ (u : State) (k j : Nat) (v : Word), j < 2 → Booked inErrorLog u (u.wg MEM_ERR_LOG v [k % 32, j]) :=
    fun u k j v hj => by
      have haddr : 0x2801000 ≤ MEM_ERR_LOG.addr [k % 32, j] ∧ MEM_ERR_LOG.addr [k % 32, j] < 0x2801200 := by
        rw [MEM_ERR_LOG_addr]
        omega
      refine Booked.wg _ _ _ _ (fun hmem => ?_) (.inr (.inr haddr))
      have := block_of_mem_recordRegs hmem
      omega
  exact ((hentry s _ 0 _ (by decide)).trans (hentry _ _ 1 _ (by decide))).trans
    (Booked.wg _ _ _ _ (by decide) (.inr (.inl rfl)))

theorem State.decodeWord_good (s : State) {w : Nat} (src : Nat) (h : s.diff w = 0) : s.decodeWord w src = (s, true) := by
  unfold State.decodeWord
  rw [h]
  rfl

/-- A word with one wrong data symbol, corrected (R337). -/
def State.corrected (s : State) (w j : Nat) (x : Byte) : State :=
  (s.setByte (w * 32 + j) (s.byte (w * 32 + j) ^^^ x)).setDiff w 0

/-- A data symbol is corrected, counted and entered in the error log. -/
theorem State.decodeWord_data (s : State) {w j : Nat} {x : Byte} (src : Nat) (h : decodeDiff (s.diff w) = .data j x) :
    ∃ u, Booked inErrorLog ((s.corrected w j x).bump (memCounter w 0)) u ∧ (s.decodeWord w src).1 = u := by
  unfold State.decodeWord
  rw [h]
  exact ⟨_, (Booked.memErr _ _ _ _ _).trans ((Recorded.logLim _ _ _ _ _ _).booked _), rfl⟩

/-- An uncorrectable word is counted and entered in the error log. -/
theorem State.decodeWord_bad (s : State) {w : Nat} (src : Nat) (h : decodeDiff (s.diff w) = .bad) :
    ∃ u, Booked inErrorLog (s.bump (memCounter w 2)) u ∧ (s.decodeWord w src).1 = u := by
  unfold State.decodeWord
  rw [h]
  exact ⟨_, (Booked.memErr _ _ _ _ _).trans (((Recorded.logEv _ _ _ _ _).trans (Recorded.scb _ _)).booked _), rfl⟩

theorem memCounter_sram {w : Nat} (h : inSram (w * 32) = true) : memCounter w 0 = MEM_SRAM_CE := by
  rw [memCounter, if_pos h]
  rfl

theorem memCounter_dram {w : Nat} (h : inSram (w * 32) = false) : memCounter w 2 = MEM_DRAM_UE := by
  rw [memCounter, if_neg (by simp [h])]
  rfl

/-- The checked word that the scrubber of SRAM or of DRAM reads next. -/
def State.scrubWord (s : State) (sram : Bool) : Nat :=
  if sram then 0x4000000000 / 32 + s.memst.scrubS % sramWords else s.memst.scrubD % dramWords

theorem inSram_scrubWord (s : State) (sram : Bool) : inSram (s.scrubWord sram * 32) = sram := by
  have hS : s.memst.scrubS % sramWords < sramWords := Nat.mod_lt _ (by decide)
  have hD : s.memst.scrubD % dramWords < dramWords := Nat.mod_lt _ (by decide)
  simp only [sramWords, dramWords] at hS hD
  cases sram with
  | false =>
    simp only [inSram, State.scrubWord, dramWords, Bool.false_eq_true, if_false, Bool.and_eq_false_iff,
      decide_eq_false_iff_not]
    omega
  | true =>
    simp only [inSram, State.scrubWord, sramWords, if_true, Bool.and_eq_true, decide_eq_true_eq]
    omega

theorem exec_scrubRead_sram {s : State} (hon : s.domOn .memory = true) (hen : s.flag MEM_SCRUB MEM_SCRUB_S_EN = true) :
    ∃ u, (s.decodeWord (s.scrubWord true) 2).1 = u ∧
      exec (.scrubRead true) s =
        .next { u with memst := { u.memst with scrubS := (s.memst.scrubS % sramWords + 1) % sramWords } } := by
  refine ⟨_, rfl, ?_⟩
  show execScrubRead true s = _
  unfold execScrubRead
  rw [if_neg (by simp [hon]), if_pos rfl, if_pos hen]
  rfl

theorem exec_scrubRead_dram {s : State} (hon : s.domOn .memory = true) (hen : s.flag MEM_SCRUB MEM_SCRUB_D_EN = true) :
    ∃ u, (s.decodeWord (s.scrubWord false) 2).1 = u ∧
      exec (.scrubRead false) s =
        .next { u with memst := { u.memst with scrubD := (s.memst.scrubD % dramWords + 1) % dramWords } } := by
  refine ⟨_, rfl, ?_⟩
  show execScrubRead false s = _
  unfold execScrubRead
  rw [if_neg (by simp [hon]), if_neg (by decide), if_pos hen]
  rfl

theorem scrubRead_sram_good {s : State} (hon : s.domOn .memory = true) (hen : s.flag MEM_SCRUB MEM_SCRUB_S_EN = true)
    (h : s.diff (s.scrubWord true) = 0) :
    Gives (.scrubRead true) s fun t =>
      t = { s with memst := { s.memst with scrubS := (s.memst.scrubS % sramWords + 1) % sramWords } } := by
  obtain ⟨u, hu, hexec⟩ := exec_scrubRead_sram hon hen
  rw [s.decodeWord_good 2 h] at hu
  subst hu
  exact ⟨_, hexec, rfl⟩

theorem scrubRead_dram_good {s : State} (hon : s.domOn .memory = true) (hen : s.flag MEM_SCRUB MEM_SCRUB_D_EN = true)
    (h : s.diff (s.scrubWord false) = 0) :
    Gives (.scrubRead false) s fun t =>
      t = { s with memst := { s.memst with scrubD := (s.memst.scrubD % dramWords + 1) % dramWords } } := by
  obtain ⟨u, hu, hexec⟩ := exec_scrubRead_dram hon hen
  rw [s.decodeWord_good 2 h] at hu
  subst hu
  exact ⟨_, hexec, rfl⟩

theorem scrubRead_sram_data {s : State} {j : Nat} {x : Byte} (hon : s.domOn .memory = true)
    (hen : s.flag MEM_SCRUB MEM_SCRUB_S_EN = true) (hrec : s.recording = false)
    (h : decodeDiff (s.diff (s.scrubWord true)) = .data j x) :
    Gives (.scrubRead true) s fun t =>
      t.diff (s.scrubWord true) = 0 ∧
      t.byte (32 * s.scrubWord true + j) = s.byte (32 * s.scrubWord true + j) ^^^ x ∧ Counts s t MEM_SRAM_CE [] := by
  obtain ⟨u, hu, hexec⟩ := exec_scrubRead_sram hon hen
  obtain ⟨u', hbook, hu'⟩ := s.decodeWord_data 2 h
  obtain rfl : u' = u := hu'.symm.trans hu
  rw [memCounter_sram (inSram_scrubWord s true)] at hbook
  generalize s.scrubWord true = w at hbook h ⊢
  have hbump : Booked (fun a => a = MEM_SRAM_CE.addr []) (s.corrected w j x) ((s.corrected w j x).bump MEM_SRAM_CE) :=
    Booked.bump _ _ _ _ (by decide) (by decide) rfl
  obtain ⟨hbyte, hdiff⟩ := hbump.stored hrec
  obtain ⟨hbyte', hdiff'⟩ := hbook.stored (hbump.still hrec)
  refine ⟨_, hexec, ?_, ?_, ?_⟩
  · exact (hdiff' w).trans ((hdiff w).trans (State.diff_setDiff_same _ _ _))
  · rw [Nat.mul_comm 32 w]
    exact (hbyte' _).trans ((hbyte _).trans (State.byte_setByte_same s _ _))
  · have hcount : Counts s ((s.corrected w j x).bump MEM_SRAM_CE) MEM_SRAM_CE [] :=
      State.bump_counts (s.corrected w j x) MEM_SRAM_CE [] (by decide) (by decide)
    exact hbook.counts hcount (by decide) (by decide)

theorem scrubRead_dram_bad {s : State} (hon : s.domOn .memory = true) (hen : s.flag MEM_SCRUB MEM_SCRUB_D_EN = true)
    (h : decodeDiff (s.diff (s.scrubWord false)) = .bad) :
    Gives (.scrubRead false) s fun t => Counts s t MEM_DRAM_UE [] := by
  obtain ⟨u, hu, hexec⟩ := exec_scrubRead_dram hon hen
  obtain ⟨u', hbook, hu'⟩ := s.decodeWord_bad 2 h
  obtain rfl : u' = u := hu'.symm.trans hu
  rw [memCounter_dram (inSram_scrubWord s false)] at hbook
  have hcount : Counts s (s.bump MEM_DRAM_UE) MEM_DRAM_UE [] := State.bump_counts s MEM_DRAM_UE [] (by decide) (by decide)
  exact ⟨_, hexec, hbook.counts hcount (by decide) (by decide)⟩

/-! ## Error injection -/

theorem memInjectArm_arms {s : State} {who : Init} {v : Word} (hw : Writes s MEM_INJECT [] who)
    (harm : MEM_INJECT_ARM.of v = 1) (hin : inMem (MEM_INJECT_ADDR.of v * 32) = true) (hpos : MEM_INJECT_POS.of v ≤ 35)
    (hval : MEM_INJECT_VALUE.of v ≠ 0) :
    Gives (.memInjectArm who v) s fun t =>
      t.flag MEM_INJECT MEM_INJECT_ARM = true ∧ t.fg MEM_INJECT MEM_INJECT_ADDR = MEM_INJECT_ADDR.of v ∧
      t.fg MEM_INJECT MEM_INJECT_POS = MEM_INJECT_POS.of v ∧ t.fg MEM_INJECT MEM_INJECT_VALUE = MEM_INJECT_VALUE.of v := by
  refine gives_of_csrWrite hw rfl fun m _ => ?_
  have hplain : m.injectWrite v = m.plain MEM_INJECT [] v :=
    if_neg fun ⟨_, hbad⟩ => hbad.elim (by simp [hin]) fun h => h.elim (by omega) hval
  rw [hplain, State.flag]
  refine ⟨?_, ?_, ?_, ?_⟩
  · rw [State.fg_plain_same _ _ _ _ _ (by decide) (by decide) (by decide), harm]
    rfl
  · exact State.fg_plain_same _ _ _ _ _ (by decide) (by decide) (by decide)
  · exact State.fg_plain_same _ _ _ _ _ (by decide) (by decide) (by decide)
  · exact State.fg_plain_same _ _ _ _ _ (by decide) (by decide) (by decide)

theorem memInjectArm_refused_recorded {s : State} {who : Init} {v : Word} (hw : Writes s MEM_INJECT [] who)
    (harm : MEM_INJECT_ARM.of v = 1) (hpos : 35 < MEM_INJECT_POS.of v) :
    Gives (.memInjectArm who v) s fun t => Recorded s t :=
  gives_of_csrWrite hw rfl fun m hm => by
    rw [State.injectWrite, if_pos ⟨harm, .inr (.inl hpos)⟩]
    exact hm.trans (Recorded.logDiscard _ _)

/-! ## The obligation -/

/-- Settles O56. The clauses are the lemmas above, one for each outcome of a command; what R328 leaves to the model rests on
assumption 65, the move of a region's bytes on 66, the length of a batch and the repeated ask on 67, and the scrubber's order on
69. -/
theorem memoryController : Obligations.MemoryController := by
  unfold Obligations.MemoryController
  intro s big word r ch temp c j d w x who v
  refine ⟨fun hw => ⟨memPailWrite_busy_recorded hw, memPailWrite_legal hw, memPailWrite_illegal_recorded hw⟩, s.poolOk_iff,
    fun hw => ⟨drcOrderWrite_moves hw, drcOrderWrite_refused_recorded hw⟩, retrainDue_gives temp, retrainBatchEnd_gives temp,
    retrainLate_gives, fun hon => ⟨fun hen hword => ?_, fun hen hword => ?_⟩,
    fun hw => ⟨memInjectArm_arms hw, memInjectArm_refused_recorded hw⟩⟩
  · obtain rfl : w = s.scrubWord true := hword
    exact ⟨scrubRead_sram_good hon hen, scrubRead_sram_data hon hen⟩
  · obtain rfl : w = s.scrubWord false := hword
    exact ⟨scrubRead_dram_good hon hen, scrubRead_dram_bad hon hen⟩

end Sys2Proof.Machine
